-- ==== Sys2Proof/Word.lean ====
section
/-! DEFINITION. The byte, the index types of the part's numbered things, and fixed-length tables.
Numbering follows "Conventions / Numbering" of spec/00_scope.md: pedestal p (1 to 24) is the index p - 1
here, connector n is its own global index 0 to 47. -/

namespace Sys2Proof

/-- One byte of a frame or a payload. -/
abbrev Byte := BitVec 8

/-- A run of bytes, first byte first. -/
abbrev Frame := List Byte

/-- A connector by its global index 0 to 47 (spec/00_scope.md, Numbering). -/
abbrev Conn := Fin 48

/-- A pedestal by its index; pedestal number p of the manual is index p - 1. -/
abbrev Ped := Fin 24

/-- A plan slot 0 to 15. -/
abbrev PlanSlot := Fin 16

/-- A price band 0 to 3. -/
abbrev Band := Fin 4

/-- A session class 0 to 3. -/
abbrev ClassNo := Fin 4

/-- A message code 0 to 63. -/
abbrev Code := Fin 64

/-- A fixed number of like things, read and written by index. -/
abbrev Table (α : Type) (n : Nat) := Vector α n

/-- Reads entry i of a table. -/
def tget {α : Type} {n : Nat} (t : Table α n) (i : Fin n) : α := t[i.val]

/-- Writes entry i of a table and leaves the other entries. -/
def tset {α : Type} {n : Nat} (t : Table α n) (i : Fin n) (x : α) : Table α n := t.set i.val x i.isLt

@[simp] theorem tget_tset_same {α : Type} {n : Nat} (t : Table α n) (i : Fin n) (x : α) :
    tget (tset t i x) i = x := by simp [tget, tset]

theorem tget_tset_of_ne {α : Type} {n : Nat} (t : Table α n) (i j : Fin n) (x : α) (h : j ≠ i) :
    tget (tset t i x) j = tget t j := by
  have h' : i.val ≠ j.val := fun e => h (Fin.ext e.symm)
  simp [tget, tset, h']

theorem tget_tset {α : Type} {n : Nat} (t : Table α n) (i j : Fin n) (x : α) :
    tget (tset t i x) j = if j = i then x else tget t j := by
  by_cases h : j = i
  · subst h; simp
  · rw [if_neg h, tget_tset_of_ne t i j x h]

@[simp] theorem tset_tget_self {α : Type} {n : Nat} (t : Table α n) (i : Fin n) :
    tset t i (tget t i) = t := by
  apply Vector.ext
  intro k hk
  simp only [tset, tget, Vector.getElem_set]
  split
  · next h => subst h; rfl
  · rfl

@[simp] theorem tget_replicate {α : Type} {n : Nat} (x : α) (i : Fin n) :
    tget (Vector.replicate n x) i = x := by simp [tget]

end Sys2Proof
end

