-- ==== Sys2Proof/Syntax.lean ====
section
/-! DEFINITION. The commands the part takes: one constructor per row of spec/opcode_table.json.

A host request carries its host tag and its payload bytes (spec/11_frame_and_record_layouts.md 11.3, 11.6), so that
every payload the host can send is a command, a malformed one too. A park-line frame event carries the bytes that
arrived, check word included. An event of one connector or pedestal names it. -/

namespace Sys2Proof

/-- One step of the part (spec/95_what_each_step_holds.md), in the order of spec/opcode_table.json. -/
inductive Instr where
  -- power-on and the reset input pin
  | powerOn
  | resetInput
  -- requests of the host: host tag and payload
  | setPedestal (tag : Byte) (payload : Frame)
  | setLineTiming (tag : Byte) (payload : Frame)
  | clearPedestal (tag : Byte) (payload : Frame)
  | readPedestal (tag : Byte) (payload : Frame)
  | setClass (tag : Byte) (payload : Frame)
  | passDown (tag : Byte) (payload : Frame)
  | display (tag : Byte) (payload : Frame)
  | readClasses (tag : Byte) (payload : Frame)
  | readPassThrough (tag : Byte) (payload : Frame)
  | setSequencing (tag : Byte) (payload : Frame)
  | lockout (tag : Byte) (payload : Frame)
  | unlock (tag : Byte) (payload : Frame)
  | clearFault (tag : Byte) (payload : Frame)
  | parkStop (tag : Byte) (payload : Frame)
  | parkResume (tag : Byte) (payload : Frame)
  | readConnector (tag : Byte) (payload : Frame)
  | setAuthPolicy (tag : Byte) (payload : Frame)
  | loadTokens (tag : Byte) (payload : Frame)
  | loadWatch (tag : Byte) (payload : Frame)
  | clearTokens (tag : Byte) (payload : Frame)
  | readToken (tag : Byte) (payload : Frame)
  | readAuth (tag : Byte) (payload : Frame)
  | authAnswer (tag : Byte) (payload : Frame)
  | remoteStart (tag : Byte) (payload : Frame)
  | remoteStop (tag : Byte) (payload : Frame)
  | setSessionTiming (tag : Byte) (payload : Frame)
  | readSession (tag : Byte) (payload : Frame)
  | loadPlan (tag : Byte) (payload : Frame)
  | clearPlan (tag : Byte) (payload : Frame)
  | readPlan (tag : Byte) (payload : Frame)
  | setTime (tag : Byte) (payload : Frame)
  | setBands (tag : Byte) (payload : Frame)
  | latchNow (tag : Byte) (payload : Frame)
  | readClock (tag : Byte) (payload : Frame)
  | setHeadroom (tag : Byte) (payload : Frame)
  | setSiteLimit (tag : Byte) (payload : Frame)
  | curtail (tag : Byte) (payload : Frame)
  | setSetpointTiming (tag : Byte) (payload : Frame)
  | readAllocation (tag : Byte) (payload : Frame)
  | readSettlement (tag : Byte) (payload : Frame)
  | discardSettlement (tag : Byte) (payload : Frame)
  | readEvents (tag : Byte) (payload : Frame)
  | setEventEnable (tag : Byte) (payload : Frame)
  | setUplinkTiming (tag : Byte) (payload : Frame)
  | readUplink (tag : Byte) (payload : Frame)
  | restart (tag : Byte) (payload : Frame)
  -- other frames on the uplink
  | unknownRequest (kind : Byte) (tag : Byte) (payload : Frame)
  | requestOverrun (kind : Byte) (tag : Byte) (payload : Frame)
  | uplinkFramingError (declared : BitVec 16)
  | uplinkTruncated (received : Frame)
  | uplinkCheckFailure (frame : Frame)
  | silenceDeadline
  -- the uplink transmitter
  | noticeAttention
  | responseStart
  | authQuery
  | authQuerySent
  | passUp
  | passUpSent
  -- the line arbiter starts a transaction
  | sendLatch
  | sendRollCall
  | sendPoll
  | sendOpen
  | sendDecrease
  | sendClose
  | sendDisplay
  | sendPassDown
  | sendClear
  | sendSetpoint
  -- the park line answers: the bytes that arrived
  | statusReply (frame : Frame)
  | ackReply (frame : Frame)
  | nakReply (frame : Frame)
  | badReply (frame : Frame)
  | replyTimeout
  | strayFrame (frame : Frame)
  | rollCallSlot (answer : Frame)
  -- moments of time
  | rollCallDue
  | pollDue (p : Ped)
  | pollAged (p : Ped)
  | queryDeadline (n : Conn)
  | settleDeadline (n : Conn)
  | readyDeadline (n : Conn)
  | maxDuration (n : Conn)
  | stopDeadline (n : Conn)
  | minuteTick
  | wallClockMinute
  | renewalDue (n : Conn)
  | holdExpiry (n : Conn)
  | curtailExpiry
  -- completions
  | broadcastSent
  | uplinkFrameSent
  deriving DecidableEq, Repr

end Sys2Proof
end

