-- ==== Sys2Proof/Decode.lean ====
section
/-! DEFINITION. The command a table word spells. No row of spec/opcode_table.json gives bits: the part is commanded by
frames and events, whose bytes the commands carry, so no word spells a command. -/

namespace Sys2Proof

/-- The command an opcode-table word spells: none, since no row gives bits. -/
def decodeTableWord (_nbits _w : Nat) : Option Instr := none

end Sys2Proof
end

