-- ==== Sys2Proof/Config.lean ====
section
/-! DEFINITION. What the part fixes for good, and the two free values of the model. -/

namespace Sys2Proof.Config

/-- Capacity of a pedestal's command queue (R16). -/
def commandQueueSize : Nat := 4

/-- Capacity of the pass-up queue (R32). -/
def passUpSize : Nat := 16

/-- Capacity of the held list (R64). -/
def heldSize : Nat := 8

/-- Capacity of the settlement queue (R161). -/
def settlementSize : Nat := 96

/-- Capacity of the response queue (R169). -/
def responseSize : Nat := 8

/-- The last value of the monotonic millisecond count (R108). -/
def lastMs : Nat := 281474976710655

/-- FREE VALUE. What the millisecond count holds at a moment past its last value: R108 gives the count the range 0 to
281,474,976,710,655 and does not say what follows its end. Nothing constrains this value within the range. DESIGN
CHOICE, safe: notes/assumptions/3.md. -/
opaque msPastEnd : Nat → BitVec 48

/-- FREE VALUE. What the consecutive-failure count of a pedestal becomes at a failed attempt that finds it at 3: R9
increases it and R2 gives it the range 0 to 3. Nothing constrains this value within the range. DESIGN CHOICE, safe:
notes/assumptions/13.md. -/
opaque failsPastRange : Nat → BitVec 2

end Sys2Proof.Config
end

