-- ==== Sys2Proof/Machine/State.lean ====
section
/-! DEFINITION. The state of the part, block by block (the ten blocks of spec/00_scope.md), as plain data, and its
value after power-on. Numbers the manual only counts and compares are Nat; what wraps or is sent as bits is a bit
vector. -/

namespace Sys2Proof.Machine

/-- No step of this model faults: the manual gives every step an effect, or no effect, in every state. -/
inductive Fault
  deriving DecidableEq, Repr

/-- The refusals of the model. -/
inductive Refusal where
  /-- Raised by an arm of exec whose instruction has no meaning yet (safe). No arm raises it now. -/
  | notModelled (mnemonic : String)
  deriving DecidableEq, Repr

/-! ### Tokens (R59) -/

inductive TokenKind | card | payment
  deriving DecidableEq, Repr

/-- A token: its kind and its id bytes, 4, 7 or 10 of them (R59). Two tokens are the same when they are equal. -/
structure Token where
  kind : TokenKind
  id : Frame
  deriving DecidableEq, Repr

/-! ### Block 1: the Line Controller (spec/01_the_park_line.md) -/

/-- Link state of a pedestal (R2). -/
inductive LinkState | unconfigured | probing | quiet | active | unreachable
  deriving DecidableEq, Repr

/-- Message disposition carried to a pedestal (R2, R12). -/
inductive Disposition | none | accepted | hold
  deriving DecidableEq, Repr

/-- Contact state in a STATUS reply (R11). -/
inductive Contact | opened | closed | bad
  deriving DecidableEq, Repr

/-- Connector letter of a pedestal. -/
inductive Letter | a | b
  deriving DecidableEq, Repr

/-- The connector part of a good STATUS reply (R11, R183). -/
structure ConnReport where
  plugged : Bool
  ready : Bool
  complete : Bool
  contact : Contact
  demand : Nat
  power : Nat
  reading : BitVec 32
  /-- The latched reading with its epoch, when the latch flag is set. -/
  latch : Option (BitVec 8 × BitVec 32)
  deriving DecidableEq, Repr

/-- Display kinds of a DISPLAY command (R35, 11.2). -/
inductive DisplayKind | text | refused | tryAgain
  deriving DecidableEq, Repr

/-- Who a transaction is reported to (R8, R13). -/
inductive Originator | sequencer | allocator | classifier | authorization | lineController
  deriving DecidableEq, Repr

/-- What a command queue entry asks of the pedestal (R16). -/
inductive QueueCmd where
  | close (n : Conn)
  | display (letter : Option Letter) (kind : DisplayKind) (text : Frame)
  | passDown (letter : Option Letter) (code : Code) (payload : Frame)
  | clear
  deriving DecidableEq, Repr

/-- An entry of a pedestal's command queue (R16). -/
structure QueueEntry where
  cmd : QueueCmd
  originator : Originator
  deriving DecidableEq, Repr

/-- An entry of the pedestal table (R2), with the pedestal's command queue (R16). -/
structure Pedestal where
  configured : Bool
  slot : Option (Fin 24)
  link : LinkState
  failCount : Nat
  absentCount : Nat
  checkFails : Nat
  lastReply : Option Nat
  resync : Bool
  nextPoll : Option Nat
  disposition : Disposition
  lastMessage : Option Byte
  reportA : Option ConnReport
  reportB : Option ConnReport
  available : Option Nat
  queue : List QueueEntry
  deriving DecidableEq, Repr

/-- The entry's power-on values (R2). -/
def Pedestal.initial : Pedestal where
  configured := false
  slot := none
  link := .unconfigured
  failCount := 0
  absentCount := 0
  checkFails := 0
  lastReply := none
  resync := false
  nextPoll := none
  disposition := .none
  lastMessage := none
  reportA := none
  reportB := none
  available := none
  queue := []

/-- The two safety slots of a connector (R17). The power value of a slot that was never written is a value of the
model (DESIGN CHOICE, unsafe: notes/assumptions/4.md). -/
structure SafetySlots where
  openSet : Bool
  decSet : Bool
  decValue : Nat
  deriving DecidableEq, Repr

/-- Both slots empty. -/
def SafetySlots.initial : SafetySlots := ⟨false, false, 0⟩

/-- The kind of a transaction, with the connector, power and hold where the kind has them (1.4, R8). -/
inductive TxnKind where
  | poll
  | openSlot (n : Conn)
  | decrease (n : Conn) (value hold : Nat)
  | increase (n : Conn) (value hold : Nat)
  | renewal (n : Conn) (value hold : Nat)
  | queued (cmd : QueueCmd)
  | latch (epoch : Byte)
  | rollCall
  deriving DecidableEq, Repr

/-- The in-flight transaction record (R8). The last three fields serve R9 and R13: the send time of the current
attempt, whether the OPEN slot was set again since that attempt, and the bytes of its frame (DESIGN CHOICE, safe:
notes/assumptions/20.md). -/
structure Txn where
  target : Option Ped
  kind : TxnKind
  originator : Originator
  attempt : Nat
  deadline : Nat
  discarded : Bool
  sentAt : Nat
  setAgain : Bool
  frame : Frame
  deriving DecidableEq, Repr

/-- The open roll-call window (R6): the slot that ends next, the last slot, and when the first slot began. -/
structure RollWindow where
  slot : Nat
  last : Nat
  start : Nat
  deriving DecidableEq, Repr

/-- The state of the Line Controller. -/
structure LineState where
  peds : Table Pedestal 24
  slots : Table SafetySlots 48
  inflight : Option Txn
  window : Option RollWindow
  pendingLatch : Option Byte
  rollTimer : Option Nat
  replyTimeout : Nat
  pollPeriod : Nat
  rollPeriod : Nat
  pointer3 : Ped
  pointer5 : Ped
  deriving DecidableEq, Repr

/-! ### Block 2: the Message Classifier (spec/02_message_classes_and_pass_through.md) -/

/-- The actions of the message class table (R26): LOCAL, UP, LOCAL_AND_UP, DROP. -/
inductive Action | toOwner | up | toOwnerAndUp | drop
  deriving DecidableEq, Repr

/-- An entry of the pass-up queue (R32). -/
structure PassUpEntry where
  ped : Ped
  letter : Option Letter
  code : Code
  payload : Frame
  deriving DecidableEq, Repr

/-- The three pass-through counts of a pedestal (R31, R36). -/
structure PassCounts where
  held : Nat
  downAcked : Nat
  downRefused : Nat
  deriving DecidableEq, Repr

structure ClassifierState where
  actions : Table Action 64
  passUp : List PassUpEntry
  counts : Table PassCounts 24
  deriving DecidableEq, Repr

/-! ### Block 3: the Connector Sequencer (spec/03_connector_sequencing.md) -/

inductive ContactorState | opened | closing | verifying | closed | opening | faulted | locked
  deriving DecidableEq, Repr

/-- Fault kinds (R39); REPORTED carries the reported code. -/
inductive FaultKind | reported (code : Byte) | closeRefused | contactBad | welded
  deriving DecidableEq, Repr

/-- The lock sources of a connector, a set drawn from HOST and SWITCH (R39, 3.5). -/
structure Locks where
  host : Bool
  switch : Bool
  deriving DecidableEq, Repr

inductive LockSource | host | switch
  deriving DecidableEq, Repr

/-- The connector record (R39). -/
structure SeqRecord where
  contactor : ContactorState
  attempt : Nat
  settleDeadline : Option Nat
  openPending : Bool
  openAcked : Bool
  repliesSinceOpen : Nat
  idleCount : Nat
  released : Bool
  restCount : Nat
  locks : Locks
  fault : Option FaultKind
  deriving DecidableEq, Repr

def SeqRecord.initial : SeqRecord where
  contactor := .opened
  attempt := 1
  settleDeadline := none
  openPending := false
  openAcked := false
  repliesSinceOpen := 0
  idleCount := 0
  released := false
  restCount := 0
  locks := ⟨false, false⟩
  fault := none

structure SequencerState where
  recs : Table SeqRecord 48
  parkStop : Bool
  settleTime : Nat
  idleRelease : Nat
  deriving DecidableEq, Repr

/-! ### Block 4: the Authorization Unit (spec/04_tokens_and_authorization.md) -/

/-- A token entry of the token table (R59). -/
structure TokenEntry where
  token : Token
  blocked : Bool
  cls : ClassNo
  limit : Nat
  override : Option PlanSlot
  deriving DecidableEq, Repr

/-- Query reasons (R62). -/
inductive QueryReason | payment | watched | notInTable
  deriving DecidableEq, Repr

/-- A held entry (R64). -/
structure HeldEntry where
  conn : Conn
  tag : Byte
  token : Token
  reason : QueryReason
  deadline : Nat
  sent : Bool
  deriving DecidableEq, Repr

/-- The source of an acceptance (R68, R80). -/
inductive Source | here | online | offlineTable | offlinePark | remote
  deriving DecidableEq, Repr

/-- Refusal reasons in the order of R69. -/
inductive RefuseReason
  | sessionPresent | locked | faulted | parkStop | blocked | busy | rejected | offline | noTariff
  deriving DecidableEq, Repr

/-- Outcome and detail of a last decision (R69). -/
inductive DecisionKind where
  | accepted (source : Source)
  | held (tag : Byte)
  | stop
  | refused (reason : RefuseReason)
  | withdrawn (tag : Byte)
  | lateAccepted (tag : Byte)
  | lateRejected (tag : Byte)
  deriving DecidableEq, Repr

/-- A decision record: what was decided and the monotonic second of it (R69). -/
structure Decision where
  kind : DecisionKind
  at_ : Nat
  deriving DecidableEq, Repr

structure AuthState where
  tokens : Table (Option TokenEntry) 512
  /-- The watch bitmap as its eight segments; bit 128 s + j of the map is bit j of segment s (R60). -/
  watch : Table (BitVec 128) 8
  held : List HeldEntry
  nextTag : Byte
  decisions : Table (Option Decision) 48
  queryTimeout : Nat
  offlineAccept : Bool
  offlineLimit : Nat
  deriving DecidableEq, Repr

/-! ### Block 7 first: wall time, needed by sessions -/

/-- A set wall clock (R110): day number and second of day. -/
structure WallTime where
  day : Nat
  sec : Nat
  deriving DecidableEq, Repr

/-! ### Block 5: the Session Table (spec/05_the_session_table.md) -/

inductive SessionKind | empty | awaitingAuth | authorized | charging | complete | stopping | closed
  deriving DecidableEq, Repr

/-- End reasons (R89). -/
inductive EndReason
  | unplugged | userStop | remoteStop | budget | lateReject | lockout | pedestalFault | parkStop
  | maxTime | notReady | pedestalClear | restart
  deriving DecidableEq, Repr

/-- Session flags as the record's flag byte numbers them (R80, 11.4). -/
abbrev SessionFlags := BitVec 8

/-- A currency code: three letters (R103). -/
structure Currency where
  c0 : Byte
  c1 : Byte
  c2 : Byte
  deriving DecidableEq, Repr

/-- A settlement record without its sequence number (R95). -/
structure BuiltRecord where
  conn : Conn
  token : Option Token
  source : Option Source
  cls : ClassNo
  plan : Option (PlanSlot × BitVec 16)
  currency : Option Currency
  startWall : Option WallTime
  endWall : Option WallTime
  duration : Nat
  energyTotal : Nat
  bandEnergy : Table Nat 4
  energyCost : Nat
  idleMinutes : Nat
  idleCost : Nat
  startFee : Nat
  totalCost : Nat
  budget : Nat
  endReason : Option EndReason
  flags : SessionFlags
  deriving DecidableEq, Repr

/-- The session entry (R80). -/
structure Session where
  state : SessionKind
  token : Option Token
  source : Option Source
  cls : ClassNo
  plan : Option (PlanSlot × BitVec 16)
  budget : Nat
  threshold : Nat
  lateTag : Option Byte
  startWall : Option WallTime
  startSec : Option Nat
  readyDeadline : Option Nat
  stopDeadline : Option Nat
  plugSeen : Bool
  /-- The baseline reading with its time in ms. -/
  baseline : Option (BitVec 32 × Nat)
  lastEpoch : Byte
  energyTotal : Nat
  bandEnergy : Table Nat 4
  costAcc : Nat
  startFee : Nat
  idleMinutes : Nat
  idleCost : Nat
  grace : Nat
  endReason : Option EndReason
  flags : SessionFlags
  record : Option BuiltRecord
  deriving DecidableEq, Repr

/-- The values an EMPTY entry holds (R80). -/
def Session.initial : Session where
  state := .empty
  token := none
  source := none
  cls := 0
  plan := none
  budget := 0
  threshold := 0
  lateTag := none
  startWall := none
  startSec := none
  readyDeadline := none
  stopDeadline := none
  plugSeen := false
  baseline := none
  lastEpoch := 0
  energyTotal := 0
  bandEnergy := Vector.replicate 4 0
  costAcc := 0
  startFee := 0
  idleMinutes := 0
  idleCost := 0
  grace := 0
  endReason := none
  flags := 0
  record := none

structure SessionTable where
  entries : Table Session 48
  /-- The closed-waiting list (R97), oldest first. -/
  waiting : List Conn
  readyWait : Nat
  stopWait : Nat
  /-- Maximum duration in hours (R98). -/
  maxHours : Nat
  /-- The MODEL's own field: the second from which the maximum last lowered stops a session whose age already exceeds
  it, and 0 before any was lowered (R91; DESIGN CHOICE, safe: notes/assumptions/33.md). -/
  maxFrom : Nat
  deriving DecidableEq, Repr

/-! ### Block 6: the Tariff Store (spec/06_tariff_plans_and_the_band_clock.md) -/

/-- A plan's contents (R103). -/
structure PlanContents where
  currency : Option Currency
  startFee : Nat
  energyPrice : Table Nat 4
  idlePrice : Table Nat 4
  grace : Nat
  deriving DecidableEq, Repr

def PlanContents.initial : PlanContents :=
  ⟨none, 0, Vector.replicate 4 0, Vector.replicate 4 0, 0⟩

/-- A plan slot (R103). -/
structure Plan where
  loaded : Bool
  revision : BitVec 16
  useCount : Nat
  contents : PlanContents
  deriving DecidableEq, Repr

def Plan.initial : Plan := ⟨false, 0, 0, PlanContents.initial⟩

structure TariffState where
  plans : Table Plan 16
  deriving DecidableEq, Repr

/-! ### Block 7: the Band Clock -/

/-- A boundary of the band schedule (R112). -/
structure Boundary where
  minute : Nat
  band : Band
  deriving DecidableEq, Repr

/-- The Band Clock. The last two fields are the MODEL's own (DESIGN CHOICE, safe: notes/assumptions/2.md): how many
minute ticks have been taken, and how many of the minutes of day that the wall clock entered last still wait for their
band test. -/
structure ClockState where
  ms : Nat
  wall : Option WallTime
  schedule : List Boundary
  band : Band
  epoch : Byte
  ring : Table Band 8
  ticksTaken : Nat
  minutesDue : Nat
  deriving DecidableEq, Repr

/-! ### Block 8: the Metering Engine (spec/07_metering_and_price_arithmetic.md) -/

structure MeteringState where
  headroom : Nat
  deriving DecidableEq, Repr

/-! ### Block 9: the Power Allocator (spec/08_power_allocation_and_setpoints.md) -/

/-- A curtailment in force: its limit and its hold deadline in s (R140). -/
structure Curtailment where
  limit : Nat
  deadline : Nat
  deriving DecidableEq, Repr

/-- A pedestal's configuration (R140). -/
structure PedConfig where
  limit : Nat
  ratingA : Nat
  ratingB : Nat
  failsafeA : Nat
  failsafeB : Nat
  planA : PlanSlot
  planB : PlanSlot
  limitUsed : Nat
  deriving DecidableEq, Repr

def PedConfig.initial : PedConfig := ⟨0, 0, 0, 0, 0, 0, 0, 0⟩

inductive SetpointState | steady | decreasePending | increaseDeferred | increaseSent | fallback
  deriving DecidableEq, Repr

/-- A setpoint record (R140). -/
structure Setpoint where
  demand : Nat
  target : Nat
  grant : Nat
  holdExpiry : Option Nat
  state : SetpointState
  participant : Bool
  inFlight : Option Nat
  deriving DecidableEq, Repr

def Setpoint.initial : Setpoint := ⟨0, 0, 0, none, .steady, false, none⟩

structure AllocState where
  baseLimit : Nat
  curtailment : Option Curtailment
  hysteresis : Nat
  hold : Nat
  renew : Nat
  available : Nat
  configs : Table PedConfig 24
  setpoints : Table Setpoint 48
  deriving DecidableEq, Repr

/-! ### Block 10: the Settlement Queue and the Uplink Port (spec/09_the_settlement_queue.md, spec/10_uplink_…) -/

/-- A record in the settlement queue (R161). -/
structure Settlement where
  sequence : Nat
  body : BuiltRecord
  deriving DecidableEq, Repr

structure SettlementState where
  records : List Settlement
  nextSequence : Nat
  readMark : Bool
  deriving DecidableEq, Repr

/-- Event kinds (10.5), in the order of their numbers 0 to 14. -/
inductive EventKind
  | powerOn | restarted | settlementReady | queueFull | pedestalLost | pedestalFound | connectorFault
  | meterAnomaly | latchMissed | authTimeout | lateAnswer | curtailExpired | passUpHeld | bandChanged | linkErrors
  deriving DecidableEq, Repr

/-- A set of event kinds; bit k stands for kind k (11.3). -/
abbrev EventSet := BitVec 15

/-- Result codes (11.3), in the order of their numbers 0 to 8. -/
inductive ResultCode
  | ok | clamped | badRequest | badIndex | inUse | wrongState | full | empty | notRead
  deriving DecidableEq, Repr

/-- A response of the response queue (R171): its frame kind, host tag, result code and payload. -/
structure Response where
  kind : Byte
  tag : Byte
  code : ResultCode
  payload : Frame
  deriving DecidableEq, Repr

/-- An outbound uplink frame (R174). A PASS_UP keeps whether its entry still heads the queue: RESTART empties the
queue under it, and its completion then removes nothing (R38, R174; DEDUCED, safe: notes/assumptions/25.md). -/
inductive OutFrame where
  | response (r : Response)
  | notice (pending enable : EventSet)
  | query (h : HeldEntry)
  | passUp (e : PassUpEntry) (live : Bool)
  deriving DecidableEq, Repr

inductive UplinkLink | online | offline
  deriving DecidableEq, Repr

structure UplinkState where
  link : UplinkLink
  silenceTime : Nat
  silenceDeadline : Option Nat
  responses : List Response
  sending : Option OutFrame
  pendingSet : EventSet
  enableSet : EventSet
  noticePending : Bool
  checkFails : Nat
  framingErrors : Nat
  overruns : Nat
  requestsTaken : BitVec 32
  deriving DecidableEq, Repr

/-! ### The whole part -/

/-- The state of the part: its blocks, and the commands that wait, first in, first out (DESIGN CHOICE, safe:
notes/assumptions/30.md). -/
structure State where
  line : LineState
  classifier : ClassifierState
  sequencer : SequencerState
  auth : AuthState
  sessions : SessionTable
  tariff : TariffState
  clock : ClockState
  metering : MeteringState
  alloc : AllocState
  settlement : SettlementState
  uplink : UplinkState
  pending : List Instr
  deriving DecidableEq, Repr

/-- What a meaning answers. -/
abbrev Result := Host.Outcome State Fault Refusal

/-- The class table at power-on (R26): codes 1 to 4 LOCAL, the others UP. -/
def initialActions : Table Action 64 :=
  tset (tset (tset (tset (Vector.replicate 64 Action.up) 1 .toOwner) 2 .toOwner) 3 .toOwner) 4 .toOwner

/-- The part right after power-on or the reset input (R2, R4, R26, R38, R39, R58, R80, R97, R98, R103, R108, R110,
R112 to R115, R121, R140, R161, R169), with no command waiting. That the line is free here, with no transaction in
flight and no roll-call window, is the model's choice: no power-on rule names either (DESIGN CHOICE, unsafe:
notes/assumptions/31.md). -/
def State.reset : State where
  line :=
    { peds := Vector.replicate 24 Pedestal.initial
      slots := Vector.replicate 48 SafetySlots.initial
      inflight := none
      window := none
      pendingLatch := none
      rollTimer := none
      replyTimeout := 10
      pollPeriod := 1000
      rollPeriod := 2
      pointer3 := 23
      pointer5 := 23 }
  classifier :=
    { actions := initialActions
      passUp := []
      counts := Vector.replicate 24 ⟨0, 0, 0⟩ }
  sequencer :=
    { recs := Vector.replicate 48 SeqRecord.initial
      parkStop := false
      settleTime := 300
      idleRelease := 3 }
  auth :=
    { tokens := Vector.replicate 512 none
      watch := Vector.replicate 8 0
      held := []
      nextTag := 0
      decisions := Vector.replicate 48 none
      queryTimeout := 8
      offlineAccept := false
      offlineLimit := 0 }
  sessions :=
    { entries := Vector.replicate 48 Session.initial
      waiting := []
      readyWait := 90
      stopWait := 120
      maxHours := 12
      maxFrom := 0 }
  tariff := { plans := Vector.replicate 16 Plan.initial }
  clock :=
    { ms := 0
      wall := none
      schedule := []
      band := 0
      epoch := 0
      ring := Vector.replicate 8 0
      ticksTaken := 0
      minutesDue := 0 }
  metering := { headroom := 50 }
  alloc :=
    { baseLimit := 0
      curtailment := none
      hysteresis := 2
      hold := 20
      renew := 5
      available := 0
      configs := Vector.replicate 24 PedConfig.initial
      setpoints := Vector.replicate 48 Setpoint.initial }
  settlement := { records := [], nextSequence := 1, readMark := false }
  uplink :=
    { link := .offline
      silenceTime := 30
      silenceDeadline := none
      responses := []
      sending := none
      pendingSet := 1
      enableSet := 0
      noticePending := false
      checkFails := 0
      framingErrors := 0
      overruns := 0
      requestsTaken := 0 }
  pending := []

end Sys2Proof.Machine
end

