-- ==== Sys2Proof/Machine/Flags.lean ====
section
/-! DEFINITION. Session flags and event sets: which bit stands for what, and the numbers the layouts of
spec/11_frame_and_record_layouts.md give to named values. -/

namespace Sys2Proof.Machine

/-- Session flags (R80). -/
inductive SessionFlag
  | capped | missedLatch | meterJump | meterReverse | linkLost | lateReject | offline | clockUnset
  deriving DecidableEq, Repr

/-- The bit of a session flag in the record's flag byte (11.4). -/
def SessionFlag.bit : SessionFlag → Nat
  | .capped => 0
  | .missedLatch => 1
  | .meterJump => 2
  | .meterReverse => 3
  | .linkLost => 4
  | .lateReject => 5
  | .offline => 6
  | .clockUnset => 7

/-- Adds a flag to a set of session flags. -/
def addFlag (f : SessionFlag) (fs : SessionFlags) : SessionFlags := fs ||| BitVec.twoPow 8 f.bit

/-- Adds a flag when the condition holds. -/
def addFlagIf (c : Bool) (f : SessionFlag) (fs : SessionFlags) : SessionFlags :=
  if c then addFlag f fs else fs

/-- Whether a set of session flags holds a flag. -/
def hasFlag (f : SessionFlag) (fs : SessionFlags) : Bool := fs.getLsbD f.bit

/-- The number of an event kind (10.5). -/
def EventKind.bit : EventKind → Nat
  | .powerOn => 0
  | .restarted => 1
  | .settlementReady => 2
  | .queueFull => 3
  | .pedestalLost => 4
  | .pedestalFound => 5
  | .connectorFault => 6
  | .meterAnomaly => 7
  | .latchMissed => 8
  | .authTimeout => 9
  | .lateAnswer => 10
  | .curtailExpired => 11
  | .passUpHeld => 12
  | .bandChanged => 13
  | .linkErrors => 14

/-- The set that holds one event kind. -/
def EventKind.only (k : EventKind) : EventSet := BitVec.twoPow 15 k.bit

/-- Whether an event set holds a kind. -/
def hasEvent (k : EventKind) (e : EventSet) : Bool := e.getLsbD k.bit

/-! ### Numbers of named values in the layouts -/

/-- Result codes (11.3). -/
def ResultCode.number : ResultCode → Nat
  | .ok => 0
  | .clamped => 1
  | .badRequest => 2
  | .badIndex => 3
  | .inUse => 4
  | .wrongState => 5
  | .full => 6
  | .empty => 7
  | .notRead => 8

/-- Link states (11.7, READ_PEDESTAL). -/
def LinkState.number : LinkState → Nat
  | .unconfigured => 0
  | .probing => 1
  | .quiet => 2
  | .active => 3
  | .unreachable => 4

/-- Dispositions (11.2). -/
def Disposition.number : Disposition → Nat
  | .none => 0
  | .accepted => 1
  | .hold => 2

/-- Display kinds (11.2). -/
def DisplayKind.number : DisplayKind → Nat
  | .text => 0
  | .refused => 1
  | .tryAgain => 2

/-- Class-table actions (11.6, SET_CLASS). -/
def Action.number : Action → Nat
  | .toOwner => 0
  | .up => 1
  | .toOwnerAndUp => 2
  | .drop => 3

/-- Contactor states (11.7, READ_CONNECTOR). -/
def ContactorState.number : ContactorState → Nat
  | .opened => 0
  | .closing => 1
  | .verifying => 2
  | .closed => 3
  | .opening => 4
  | .faulted => 5
  | .locked => 6

/-- Setpoint states (11.7, READ_CONNECTOR). -/
def SetpointState.number : SetpointState → Nat
  | .steady => 0
  | .decreasePending => 1
  | .increaseDeferred => 2
  | .increaseSent => 3
  | .fallback => 4

/-- Contact states in a connector block (11.2). -/
def Contact.number : Contact → Nat
  | .opened => 0
  | .closed => 1
  | .bad => 2

/-- Query reasons (11.3, AUTH_QUERY). -/
def QueryReason.number : QueryReason → Nat
  | .payment => 0
  | .watched => 1
  | .notInTable => 2

/-- Sources (11.4). -/
def Source.number : Source → Nat
  | .here => 0
  | .online => 1
  | .offlineTable => 2
  | .offlinePark => 3
  | .remote => 4

/-- Refusal reasons (11.7, READ_AUTH). -/
def RefuseReason.number : RefuseReason → Nat
  | .sessionPresent => 0
  | .locked => 1
  | .faulted => 2
  | .parkStop => 3
  | .blocked => 4
  | .busy => 5
  | .rejected => 6
  | .offline => 7
  | .noTariff => 8

/-- Session states (11.7, READ_SESSION). -/
def SessionKind.number : SessionKind → Nat
  | .empty => 0
  | .awaitingAuth => 1
  | .authorized => 2
  | .charging => 3
  | .complete => 4
  | .stopping => 5
  | .closed => 6

/-- End reasons (11.4). -/
def EndReason.number : EndReason → Nat
  | .unplugged => 1
  | .userStop => 2
  | .remoteStop => 3
  | .budget => 4
  | .lateReject => 5
  | .lockout => 6
  | .pedestalFault => 7
  | .parkStop => 8
  | .maxTime => 9
  | .notReady => 10
  | .pedestalClear => 11
  | .restart => 12

/-- Outcome and detail bytes of a last decision (11.7, READ_AUTH). -/
def DecisionKind.numbers : DecisionKind → Nat × Nat
  | .accepted src => (1, src.number)
  | .held tag => (2, tag.toNat)
  | .stop => (3, 0)
  | .refused r => (4, r.number)
  | .withdrawn tag => (5, tag.toNat)
  | .lateAccepted tag => (6, tag.toNat)
  | .lateRejected tag => (7, tag.toNat)

/-- Fault kind and code bytes of a fault record (11.7, READ_CONNECTOR); the code byte of a kind without a code and of an
absent record is 0 (DEDUCED, unsafe: notes/assumptions/16.md). -/
def faultNumbers : Option FaultKind → Nat × Nat
  | none => (0, 0)
  | some (.reported code) => (1, code.toNat)
  | some .closeRefused => (2, 0)
  | some .contactBad => (3, 0)
  | some .welded => (4, 0)

end Sys2Proof.Machine
end

