-- ==== Sys2Proof/Machine/Operands.lean ====
section
/-! DEFINITION. Bytes to values and back: numbers high byte first, index and optional fields of payloads (11, R184),
the check word (R182), the park-line frames the part sends (11.2) and the reading of the frames it receives
(R183). -/

namespace Sys2Proof.Machine

/-! ### Numbers -/

/-- A number as one byte. -/
def byte (n : Nat) : Byte := BitVec.ofNat 8 n

/-- A number as n bytes, high byte first. -/
def be : Nat → Nat → Frame
  | 0, _ => []
  | n + 1, x => byte (x / 256 ^ n) :: be n x

/-- The number a run of bytes holds, high byte first. -/
def num (bs : Frame) : Nat := bs.foldl (fun acc b => acc * 256 + b.toNat) 0

/-- A yes-or-no byte. -/
def flagByte (b : Bool) : Byte := if b then 1 else 0

/-- A value forced into a range. -/
def clamp (lo hi x : Nat) : Nat := if x < lo then lo else if hi < x then hi else x

/-- A count that stops at 65,535. -/
def satInc (n : Nat) : Nat := min (n + 1) 65535

/-! ### Fields of payloads -/

/-- A pedestal number 1 to 24. -/
def pedByte (b : Byte) : Option Ped :=
  if h : 1 ≤ b.toNat ∧ b.toNat ≤ 24 then some ⟨b.toNat - 1, by omega⟩ else none

/-- A byte as an index below k. -/
def indexByte (k : Nat) (b : Byte) : Option (Fin k) :=
  if h : b.toNat < k then some ⟨b.toNat, h⟩ else none

/-- A plan slot byte where absence is allowed: 255 reads as absent (R184). -/
def optSlotByte (b : Byte) : Option (Option PlanSlot) :=
  if b = 255 then some none else (indexByte 16 b).map some

/-- A connector letter byte: 0 A, 1 B, 255 absent (11.6). -/
def letterByte (b : Byte) : Option (Option Letter) :=
  if b = 0 then some (some .a) else if b = 1 then some (some .b) else if b = 255 then some none else none

/-- The byte of a connector letter or its absence. -/
def Letter.optByte : Option Letter → Byte
  | some .a => 0
  | some .b => 1
  | none => 255

/-- A yes-or-no byte as read: 0 no, 1 yes, any other value is neither (11.6). -/
def boolByte (b : Byte) : Option Bool :=
  if b = 0 then some false else if b = 1 then some true else none

/-- A token kind byte: 1 CARD, 2 PAYMENT. -/
def tokenKindByte (b : Byte) : Option TokenKind :=
  if b = 1 then some .card else if b = 2 then some .payment else none

/-- Id lengths of a token (R59). -/
def idLengthOk (k : Nat) : Bool := k == 4 || k == 7 || k == 10

/-- A token of the given kind, length and ten id bytes, when they fit each other (R59, R184). -/
def makeToken (kind len : Byte) (id : Frame) : Option Token :=
  match tokenKindByte kind with
  | none => none
  | some k =>
    if idLengthOk len.toNat && (id.drop len.toNat).all (· == 0) then
      some ⟨k, id.take len.toNat⟩ else none

/-- The 12 bytes of a token field; an absent token is kind 0 with all else 0 (11). -/
def tokenBytes : Option Token → Frame
  | none => List.replicate 12 0
  | some t =>
    (match t.kind with
      | .card => 1
      | .payment => 2) :: byte t.id.length :: (t.id ++ List.replicate (10 - t.id.length) 0)

/-- A token table entry of 20 bytes (11.4); `none` where the entry is not of good form (R77; DESIGN CHOICE for a
first byte neither 0 nor 1, unsafe: notes/assumptions/11.md). -/
def parseEntry : Frame → Option (Option TokenEntry)
  | present :: kind :: len :: rest =>
    if present = 0 then some none
    else if present = 1 then
      match makeToken kind len (rest.take 10), rest.drop 10 with
      | some token, [status, cls, l0, l1, l2, l3, ovr] =>
        match boolByte status, indexByte 4 cls, optSlotByte ovr with
        | some blocked, some cls, some override => some (some ⟨token, blocked, cls, num [l0, l1, l2, l3], override⟩)
        | _, _, _ => none
      | _, _ => none
    else none
  | _ => none

/-- The 20 bytes of a token table entry; after the 0 of an EMPTY one they are all 0 (DESIGN CHOICE, unsafe:
notes/assumptions/34.md). -/
def entryBytes : Option TokenEntry → Frame
  | none => List.replicate 20 0
  | some e =>
    1 :: tokenBytes (some e.token) ++ [flagByte e.blocked, byte e.cls] ++ be 4 e.limit
      ++ [match e.override with
          | some s => byte s
          | none => 255]

/-- A payload cut into count runs of k bytes. -/
def chunks (k : Nat) : Nat → Frame → List Frame
  | 0, _ => []
  | count + 1, bs => bs.take k :: chunks k count (bs.drop k)

/-- A letter A to Z (R103). -/
def isCapital (b : Byte) : Bool := 65 ≤ b.toNat && b.toNat ≤ 90

/-- The 128 bits of a watch segment: operand bit j is bit 7 - (j mod 8) of byte j / 8 (11.6, LOAD_WATCH). -/
def segmentOf (bytes : Frame) : BitVec 128 :=
  BitVec.ofFnLE fun j : Fin 128 => (bytes.getD (j.val / 8) 0).getLsbD (7 - j.val % 8)

/-! ### The check word (R182) -/

/-- The bytes in pairs as 16-bit numbers, an odd last byte padded with a zero low byte. -/
def pairs : Frame → List Nat
  | [] => []
  | [a] => [a.toNat * 256]
  | a :: b :: rest => (a.toNat * 256 + b.toNat) :: pairs rest

/-- 16-bit addition with the carry added back into the lowest bit. -/
def onesAdd (x y : Nat) : Nat := if x + y < 65536 then x + y else x + y - 65535

/-- The ones' complement sum of a run of bytes. -/
def onesSum (bs : Frame) : Nat := (pairs bs).foldl onesAdd 0

/-- The check word a sender computes over a run of bytes. -/
def checkWord (bs : Frame) : Nat :=
  let c := 65535 - onesSum bs
  if c = 0 then 65535 else c

/-- The frame with its check word. -/
def withCheck (bs : Frame) : Frame := bs ++ be 2 (checkWord bs)

/-- The receiver's test of a frame's check word. -/
def checkGood (frame : Frame) : Bool :=
  2 ≤ frame.length &&
    onesAdd (onesSum (frame.take (frame.length - 2))) (num (frame.drop (frame.length - 2))) == 65535

/-! ### Frames from the host (R170, R171, 11.3) -/

/-- The longest payload a good frame can carry: 256 bytes less header and check word (R170; DEDUCED, safe:
notes/assumptions/8.md). -/
def maxPayload : Nat := 250

/-- Whether a kind is a request kind of the catalogue (10.6). -/
def catalogueKind (kind : Byte) : Bool := 1 ≤ kind.toNat && kind.toNat ≤ 46

/-- Whether a declared length is below a bare header with its check word or above 256 (R170 test 1). -/
def badLength (declared : BitVec 16) : Bool := declared.toNat < 6 || 256 < declared.toNat

/-- The length a frame from the host declares (11.3). -/
def declaredLength : Frame → Option (BitVec 16)
  | _ :: _ :: d1 :: d0 :: _ => some (d1 ++ d0)
  | _ => none

/-- Whether the bytes received are a frame cut off before its declared length (R170 test 2). -/
def cutOff (bytes : Frame) : Bool :=
  match declaredLength bytes with
  | some d => !badLength d && bytes.length < d.toNat
  | none => !bytes.isEmpty

/-- Whether the bytes received are a frame complete to a declared length in range. -/
def wholeFrame (bytes : Frame) : Bool :=
  match declaredLength bytes with
  | some d => !badLength d && bytes.length == d.toNat
  | none => false

/-! ### Park-line frames from the part (11.2) -/

/-- A park-line frame: header, body, check word. -/
def lineFrame (address kind : Nat) (body : Frame) : Frame :=
  withCheck (byte address :: byte (body.length + 5) :: byte kind :: body)

/-- The letter of a connector index. -/
def letterOf (n : Conn) : Letter := if n.val % 2 = 0 then .a else .b

/-- The pedestal of a connector index. -/
def pedOf (n : Conn) : Ped := ⟨n.val / 2, by omega⟩

/-- The connector of a pedestal by its letter. -/
def connOf (p : Ped) : Letter → Conn
  | .a => ⟨2 * p.val, by omega⟩
  | .b => ⟨2 * p.val + 1, by omega⟩

/-- The connector byte of a frame to a pedestal: 0 A, 1 B. -/
def connByte (n : Conn) : Byte := byte (n.val % 2)

/-- Kind number and body after the disposition of an addressed frame (11.2). -/
def TxnKind.body : TxnKind → Nat × Frame
  | .poll => (1, [])
  | .openSlot n => (3, [connByte n])
  | .decrease n v h => (4, connByte n :: be 2 v ++ [byte h])
  | .increase n v h => (4, connByte n :: be 2 v ++ [byte h])
  | .renewal n v h => (4, connByte n :: be 2 v ++ [byte h])
  | .queued (.close n) => (2, [connByte n])
  | .queued (.display l k text) => (5, Letter.optByte l :: byte k.number :: text)
  | .queued (.passDown l code payload) => (6, Letter.optByte l :: byte code :: payload)
  | .queued .clear => (7, [])
  | .latch epoch => (8, [epoch])
  | .rollCall => (9, [])

/-- The bytes of a transaction's frame: to a pedestal with its disposition, or a broadcast without one. -/
def txnFrame (target : Option Ped) (d : Disposition) (k : TxnKind) : Frame :=
  match target with
  | some p => lineFrame (p.val + 1) k.body.1 (byte d.number :: k.body.2)
  | none => lineFrame 0 k.body.1 k.body.2

/-! ### Park-line frames to the part (R9, R183) -/

/-- The range of the declared length for a frame kind (11.2). -/
def kindLengths : Nat → Option (Nat × Nat)
  | 1 => some (6, 6)
  | 2 => some (7, 7)
  | 3 => some (7, 7)
  | 4 => some (10, 10)
  | 5 => some (8, 48)
  | 6 => some (8, 48)
  | 7 => some (6, 6)
  | 8 => some (6, 6)
  | 9 => some (5, 5)
  | 129 => some (22, 64)
  | 130 => some (5, 5)
  | 131 => some (5, 5)
  | _ => none

/-- A connector block without its latch: three bytes of state, four of meter reading (11.2, R183); and its latch
flag. -/
def parseBlock (b0 b1 b2 r0 r1 r2 r3 : Byte) : ConnReport × Bool :=
  let w := num [b0, b1, b2]
  let contact := (w / 2 ^ 18) % 4
  ({ plugged := w.testBit 23
     ready := w.testBit 22
     complete := w.testBit 21
     contact := if contact = 0 then .opened else if contact = 1 then .closed else .bad
     demand := min 400 ((w / 2 ^ 9) % 512)
     power := w % 512
     reading := BitVec.ofNat 32 (num [r0, r1, r2, r3])
     latch := none }, w.testBit 20)

/-- An offered message (R12). -/
structure Message where
  number : Byte
  code : Code
  letter : Option Letter
  payload : Frame
  deriving DecidableEq, Repr

/-- A good STATUS reply as read (R11). -/
structure StatusReply where
  available : Nat
  a : ConnReport
  b : ConnReport
  message : Option Message
  deriving DecidableEq, Repr

/-- The message part of a STATUS body: number, then head and payload when the number is not 0 (11.2). -/
def parseMessage : Frame → Option (Option Message)
  | [] => none
  | number :: rest =>
    if number = 0 then (if rest.isEmpty then some none else none)
    else
      match rest with
      | [] => none
      | head :: payload =>
        if payload.length ≤ 40 then
          some (some
            { number := number
              code := ⟨head.toNat % 64, by omega⟩
              letter := if head.toNat / 64 = 1 then some .a else if head.toNat / 64 = 2 then some .b else none
              payload := payload })
        else none

/-- The latched part of a STATUS body (11.2): the latched readings the flags announce, and what follows. -/
def parseLatches (a b : Bool) (bs : Frame) : Option (Option (BitVec 8 × BitVec 32) × Option (BitVec 8 × BitVec 32) × Frame) :=
  match a, b, bs with
  | false, false, rest => some (none, none, rest)
  | true, false, e :: x0 :: x1 :: x2 :: x3 :: rest =>
    some (some (e, BitVec.ofNat 32 (num [x0, x1, x2, x3])), none, rest)
  | false, true, e :: x0 :: x1 :: x2 :: x3 :: rest =>
    some (none, some (e, BitVec.ofNat 32 (num [x0, x1, x2, x3])), rest)
  | true, true, e :: x0 :: x1 :: x2 :: x3 :: y0 :: y1 :: y2 :: y3 :: rest =>
    some (some (e, BitVec.ofNat 32 (num [x0, x1, x2, x3])), some (e, BitVec.ofNat 32 (num [y0, y1, y2, y3])), rest)
  | _, _, _ => none

/-- The body of a STATUS reply (11.2, R183); `none` when its length is not the one its flags call for. -/
def parseStatusBody : Frame → Option StatusReply
  | p0 :: p1 :: a0 :: a1 :: a2 :: a3 :: a4 :: a5 :: a6 :: b0 :: b1 :: b2 :: b3 :: b4 :: b5 :: b6 :: rest =>
    let ra := parseBlock a0 a1 a2 a3 a4 a5 a6
    let rb := parseBlock b0 b1 b2 b3 b4 b5 b6
    match parseLatches ra.2 rb.2 rest with
    | none => none
    | some (la, lb, more) =>
      match parseMessage more with
      | none => none
      | some m =>
        some { available := min 600 (num [p0, p1])
               a := { ra.1 with latch := la }
               b := { rb.1 with latch := lb }
               message := m }
  | _ => none

/-- The bytes between a park-line frame's header and its check word. -/
def frameBody (frame : Frame) : Frame := (frame.drop 3).take (frame.length - 5)

/-- The length test of R9 with the form tests of R183. -/
def lengthGood (frame : Frame) : Bool :=
  match frame with
  | _ :: declared :: rest =>
    frame.length ≤ 64 && declared.toNat == frame.length &&
      (match rest with
        | kind :: _ =>
          (match kindLengths kind.toNat with
            | some (lo, hi) => lo ≤ frame.length && frame.length ≤ hi
            | none => true) &&
          (kind != 129 || (parseStatusBody (frameBody frame)).isSome)
        | [] => true)
  | _ => false

/-- What R9 makes of a frame that arrives during an attempt of a transaction with pedestal p. -/
inductive Received where
  /-- A failed test; the flag says whether it was the check word. -/
  | bad (checkFailed : Bool)
  | status (r : StatusReply)
  | ack
  | nak
  deriving DecidableEq, Repr

/-- The four tests of R9, in order. -/
def classifyFrame (p : Ped) (isPoll : Bool) (frame : Frame) : Received :=
  if !lengthGood frame then .bad false
  else if !checkGood frame then .bad true
  else
    match frame with
    | address :: _ :: kind :: _ =>
      if address.toNat ≠ p.val + 1 then .bad false
      else if isPoll then
        (if kind = 129 then
          (match parseStatusBody (frameBody frame) with
            | some r => .status r
            | none => .bad false)
        else .bad false)
      else if kind = 130 then .ack
      else if kind = 131 then .nak
      else .bad false
    | _ => .bad false

/-- A roll-call answer as read in its slot (R6, R183). -/
inductive SlotAnswer where
  | quiet
  | attention
  /-- ABSENT; the flag says whether a frame failed its check word. -/
  | absent (checkFailed : Bool)
  deriving DecidableEq, Repr

/-- Reads the bytes of a roll-call slot; no bytes is no frame (R6). A frame of any length that fails its check word is
counted by R20, and one with no room for an answer before its check word fails it (DEDUCED, unsafe:
notes/assumptions/12.md). -/
def classifySlot (bytes : Frame) : SlotAnswer :=
  if bytes.isEmpty then .absent false
  else if !checkGood bytes || bytes.length < 3 then .absent true
  else if 3 < bytes.length then .absent false
  else if bytes.head? = some 0 then .quiet
  else .attention

end Sys2Proof.Machine
end

