-- ==== Sys2Proof/Machine/Ops.lean ====
section
/-! DEFINITION. The named operations over the state: reading and writing the entries each block owns, time, events
and attention, command queues, safety slots, and the changes of contactor and session state that other blocks are
told of. -/

namespace Sys2Proof.Machine

/-- Every connector in ascending index. -/
def allConns : List Conn := List.finRange 48

/-- Every pedestal in ascending number. -/
def allPeds : List Ped := List.finRange 24

/-- The two connectors of a pedestal, A before B. -/
def connsOf (p : Ped) : List Conn := [connOf p .a, connOf p .b]

/-! ### Entries -/

def State.ped (s : State) (p : Ped) : Pedestal := tget s.line.peds p

def State.slots (s : State) (n : Conn) : SafetySlots := tget s.line.slots n

def State.seq (s : State) (n : Conn) : SeqRecord := tget s.sequencer.recs n

def State.sess (s : State) (n : Conn) : Session := tget s.sessions.entries n

def State.plan (s : State) (k : PlanSlot) : Plan := tget s.tariff.plans k

def State.config (s : State) (p : Ped) : PedConfig := tget s.alloc.configs p

def State.setpoint (s : State) (n : Conn) : Setpoint := tget s.alloc.setpoints n

def State.counts (s : State) (p : Ped) : PassCounts := tget s.classifier.counts p

def State.decision (s : State) (n : Conn) : Option Decision := tget s.auth.decisions n

def State.updPed (p : Ped) (f : Pedestal → Pedestal) (s : State) : State :=
  { s with line := { s.line with peds := tset s.line.peds p (f (s.ped p)) } }

def State.updSlots (n : Conn) (f : SafetySlots → SafetySlots) (s : State) : State :=
  { s with line := { s.line with slots := tset s.line.slots n (f (s.slots n)) } }

def State.updSeq (n : Conn) (f : SeqRecord → SeqRecord) (s : State) : State :=
  { s with sequencer := { s.sequencer with recs := tset s.sequencer.recs n (f (s.seq n)) } }

def State.updSess (n : Conn) (f : Session → Session) (s : State) : State :=
  { s with sessions := { s.sessions with entries := tset s.sessions.entries n (f (s.sess n)) } }

def State.updPlan (k : PlanSlot) (f : Plan → Plan) (s : State) : State :=
  { s with tariff := { s.tariff with plans := tset s.tariff.plans k (f (s.plan k)) } }

def State.updConfig (p : Ped) (f : PedConfig → PedConfig) (s : State) : State :=
  { s with alloc := { s.alloc with configs := tset s.alloc.configs p (f (s.config p)) } }

def State.updSetpoint (n : Conn) (f : Setpoint → Setpoint) (s : State) : State :=
  { s with alloc := { s.alloc with setpoints := tset s.alloc.setpoints n (f (s.setpoint n)) } }

def State.updCounts (p : Ped) (f : PassCounts → PassCounts) (s : State) : State :=
  { s with classifier := { s.classifier with counts := tset s.classifier.counts p (f (s.counts p)) } }

def State.setInflight (t : Option Txn) (s : State) : State :=
  { s with line := { s.line with inflight := t } }

def State.updUplink (f : UplinkState → UplinkState) (s : State) : State :=
  { s with uplink := f s.uplink }

/-- The link state of a connector's pedestal. -/
def State.linkOf (s : State) (n : Conn) : LinkState := (s.ped (pedOf n)).link

/-- The stored connector report (R2). -/
def State.report (s : State) (n : Conn) : Option ConnReport :=
  match letterOf n with
  | .a => (s.ped (pedOf n)).reportA
  | .b => (s.ped (pedOf n)).reportB

/-- A connector's rating in its pedestal's configuration (R140). -/
def State.rating (s : State) (n : Conn) : Nat :=
  match letterOf n with
  | .a => (s.config (pedOf n)).ratingA
  | .b => (s.config (pedOf n)).ratingB

/-- A connector's failsafe power (R140). -/
def State.failsafe (s : State) (n : Conn) : Nat :=
  match letterOf n with
  | .a => (s.config (pedOf n)).failsafeA
  | .b => (s.config (pedOf n)).failsafeB

/-- A connector's default plan (R140). -/
def State.defaultPlan (s : State) (n : Conn) : PlanSlot :=
  match letterOf n with
  | .a => (s.config (pedOf n)).planA
  | .b => (s.config (pedOf n)).planB

/-! ### Time (R108, R110) -/

/-- The monotonic second count. -/
def State.sec (s : State) : Nat := s.clock.ms / 1000

/-- The wall clock k seconds later; the day number wraps from 65,535 to 0 (R110). -/
def WallTime.later (k : Nat) (w : WallTime) : WallTime :=
  let t := (w.day * 86400 + w.sec + k) % (65536 * 86400)
  ⟨t / 86400, t % 86400⟩

/-- The millisecond count at a moment: the moment itself up to the end of the count's range, a free value
of that range past it (R108; DESIGN CHOICE, safe: notes/assumptions/3.md). -/
def msAt (t : Nat) : Nat := if t ≤ Config.lastMs then t else (Config.msPastEnd t).toNat

/-- Lets monotonic time pass up to a moment, given in ms; a moment already reached changes nothing. The wall clock
advances one second with each monotonic second (R110), and each minute of day it enters makes a band test due. -/
def State.advanceTo (t : Nat) (s : State) : State :=
  if t ≤ s.clock.ms then s
  else
    let k := msAt t / 1000 - s.sec
    { s with clock :=
        { s.clock with
          ms := msAt t
          wall := s.clock.wall.map (WallTime.later k)
          minutesDue := s.clock.minutesDue +
            (match s.clock.wall with
              | some w => (w.sec + k) / 60 - w.sec / 60
              | none => 0) } }

/-- Lets time pass up to a moment given in seconds. -/
def State.advanceToSec (t : Nat) (s : State) : State := s.advanceTo (t * 1000)

/-! ### Events and attention (R175, R178) -/

/-- The attention output (R178). -/
def State.attention (s : State) : Bool := (s.uplink.pendingSet &&& s.uplink.enableSet) != 0

/-- The test of attention after a change of either set, given the output before it (R178). -/
def State.testAttention (before : Bool) (s : State) : State :=
  if before = s.attention then s
  else s.updUplink fun u => { u with noticePending := s.attention }

/-- Raises an event kind (R175). -/
def State.raise (k : EventKind) (s : State) : State :=
  (s.updUplink fun u => { u with pendingSet := u.pendingSet ||| k.only }).testAttention s.attention

/-! ### Local activity and the states other blocks are told of (R5) -/

/-- A local activity condition at a pedestal (R5). -/
def State.localActivity (p : Ped) (s : State) : State :=
  match (s.ped p).link with
  | .probing | .quiet => s.updPed p fun e => { e with link := .active, nextPoll := some s.clock.ms }
  | .unconfigured | .active | .unreachable => s

/-- Changes a contactor state; leaving OPEN is reported to the Line Controller (R5, R39). -/
def State.setContactor (n : Conn) (c : ContactorState) (s : State) : State :=
  let s' := s.updSeq n fun r => { r with contactor := c }
  if (s.seq n).contactor = .opened ∧ c ≠ .opened then s'.localActivity (pedOf n) else s'

/-- Replaces a session entry; leaving EMPTY is reported to the Line Controller (R5, R81). -/
def State.setSess (n : Conn) (e : Session) (s : State) : State :=
  let s' := s.updSess n fun _ => e
  if (s.sess n).state = .empty ∧ e.state ≠ .empty then s'.localActivity (pedOf n) else s'

/-! ### Command queues (R16) -/

/-- Whether a pedestal's command queue takes an entry offered to it. -/
def State.queueTakes (s : State) (p : Ped) : Bool :=
  (s.ped p).link != .unconfigured && (s.ped p).queue.length < Config.commandQueueSize

/-- Appends an entry to a pedestal's command queue. -/
def State.enqueue (p : Ped) (e : QueueEntry) (s : State) : State :=
  s.updPed p fun x => { x with queue := x.queue ++ [e] }

/-- Offers a DISPLAY of the Authorization Unit for connector n: dropped when the queue refuses it (R16, R35). -/
def State.offerDisplay (n : Conn) (k : DisplayKind) (s : State) : State :=
  if s.queueTakes (pedOf n) then
    s.enqueue (pedOf n) ⟨.display (some (letterOf n)) k [], .authorization⟩
  else s

/-- Whether a queue entry is a CLOSE for connector n. -/
def QueueEntry.isClose (n : Conn) (e : QueueEntry) : Bool := e.cmd == .close n

/-- Whether a CLOSE for connector n waits in its pedestal's queue. -/
def State.closeWaits (s : State) (n : Conn) : Bool := (s.ped (pedOf n)).queue.any (QueueEntry.isClose n)

/-! ### Safety slots (R17) -/

/-- Sets the OPEN slot of connector n: a waiting CLOSE for n is withdrawn (R16), and an OPEN attempt on the line no
longer answers the flag (R13). -/
def State.setOpenSlot (n : Conn) (s : State) : State :=
  let s := s.updPed (pedOf n) fun x => { x with queue := x.queue.filter fun e => !e.isClose n }
  let s := s.updSlots n fun x => { x with openSet := true }
  match s.line.inflight with
  | some t => if t.kind = .openSlot n then s.setInflight (some { t with setAgain := true }) else s
  | none => s

/-- Sets the decrease slot of connector n with a value. -/
def State.setDecSlot (n : Conn) (v : Nat) (s : State) : State :=
  s.updSlots n fun x => { x with decSet := true, decValue := v }

/-- Clears the decrease slot's flag; its last value stays (R151). -/
def State.clearDecSlot (n : Conn) (s : State) : State :=
  s.updSlots n fun x => { x with decSet := false }

/-- Empties both connectors' safety slots of a pedestal (R3, R21). -/
def State.emptySlots (p : Ped) (s : State) : State :=
  (s.updSlots (connOf p .a) fun _ => SafetySlots.initial).updSlots (connOf p .b) fun _ => SafetySlots.initial

/-! ### LATCH requests (R18) -/

/-- Requests a LATCH with an epoch: the newest epoch replaces a pending one. -/
def State.requestLatch (epoch : Byte) (s : State) : State :=
  { s with line := { s.line with pendingLatch := some epoch } }

/-! ### Decisions (R69) -/

/-- Records the Authorization Unit's outcome at connector n. -/
def State.decide (n : Conn) (k : DecisionKind) (s : State) : State :=
  { s with auth := { s.auth with decisions := tset s.auth.decisions n (some ⟨k, s.sec⟩) } }

/-! ### The discard of a transaction on the line (R22) -/

/-- Marks the in-flight transaction discarded when the test on its target holds; a broadcast is not marked. -/
def State.discardInflight (hit : Ped → Bool) (s : State) : State :=
  match s.line.inflight with
  | some t =>
    match t.target with
    | some p => if hit p then s.setInflight (some { t with discarded := true }) else s
    | none => s
  | none => s

end Sys2Proof.Machine
end

