-- ==== Sys2Proof/Machine/Allocation.lean ====
section
/-! DEFINITION. The Power Allocator's shared operations: the allocation pass (R146 to R150), placement (R151), the
class 4 answer (R152), outcomes of setpoints (R153 to R155) and the fall-back (R156). -/

namespace Sys2Proof.Machine

/-- The effective site limit (R142). -/
def State.effLimit (s : State) : Nat :=
  match s.alloc.curtailment with
  | none => s.alloc.baseLimit
  | some c => min s.alloc.baseLimit c.limit

/-- Contactor states of a participant (R147). -/
def ContactorState.live : ContactorState → Bool
  | .closing | .verifying | .closed => true
  | .opened | .opening | .faulted | .locked => false

/-- Whether a connector is a participant now (R147). -/
def State.participates (s : State) (n : Conn) : Bool :=
  (s.sess n).state == .charging && (s.seq n).contactor.live && s.linkOf n != .unreachable

/-- The effective demand a pass would give a connector: its reported demand clamped to its rating (R147). -/
def State.clampedDemand (s : State) (n : Conn) : Nat :=
  match s.report n with
  | some r => min r.demand (s.rating n)
  | none => 0

/-- A pedestal's effective limit (R148). -/
def State.pedLimit (s : State) (p : Ped) : Nat :=
  match (s.ped p).available with
  | some a => min (s.config p).limit a
  | none => (s.config p).limit

/-- The fixed draw of a connector (R149); 0 where its pedestal is not UNREACHABLE. -/
def State.fixedDraw (s : State) (n : Conn) : Nat :=
  if s.linkOf n = .unreachable ∧ (s.seq n).contactor ≠ .opened ∧ (s.seq n).contactor ≠ .locked then
    (s.setpoint n).grant
  else 0

/-- The sum of all fixed draws. -/
def State.fixedSum (s : State) : Nat := (allConns.map s.fixedDraw).sum

/-- The committed sum (R152). -/
def State.committedSum (s : State) : Nat :=
  (allConns.map fun n => if s.linkOf n = .unreachable then s.fixedDraw n else (s.setpoint n).grant).sum

/-! ### Placement (R151) -/

/-- Places the record of connector n. -/
def State.place (n : Conn) (s : State) : State :=
  let r := s.setpoint n
  if r.state = .increaseSent then s
  else if r.target < r.grant then
    (s.setDecSlot n r.target).updSetpoint n fun r => { r with state := .decreasePending }
  else if r.grant < r.target then
    (s.clearDecSlot n).updSetpoint n fun r => { r with state := .increaseDeferred }
  else
    (s.clearDecSlot n).updSetpoint n fun r =>
      { r with state := if 0 < r.grant ∧ r.holdExpiry = none then .fallback else .steady }

/-! ### The pass -/

/-- First step for one connector: participant mark and effective demand (R147); a connector of an UNREACHABLE
pedestal keeps both (R149; DEDUCED, unsafe: notes/assumptions/21.md). -/
def State.markOne (n : Conn) (s : State) : State :=
  if s.linkOf n = .unreachable then s
  else s.updSetpoint n fun r => { r with participant := s.participates n, demand := s.clampedDemand n }

/-- Records the limit used of one pedestal (R148). -/
def State.useLimit (p : Ped) (s : State) : State :=
  if (s.ped p).link = .unreachable then s
  else s.updConfig p fun c => { c with limitUsed := s.pedLimit p }

/-- The other connector of the same pedestal. -/
def sibling (n : Conn) : Conn :=
  match letterOf n with
  | .a => connOf (pedOf n) .b
  | .b => connOf (pedOf n) .a

/-- The pedestal share of a participant whose demand is d, its sibling's demand d', under the limit L (R148).
`first` says whether the connector is served first: the smaller demand, connector A on equal demands. -/
def pairShare (first : Bool) (d d' L : Nat) : Nat :=
  if d + d' ≤ L then d
  else if first then min d (L / 2)
  else min d (L - min d' (L / 2))

/-- The pedestal share e of a participant (R148), from the effective demands of the pass. -/
def State.pedShare (s : State) (n : Conn) : Nat :=
  let d := (s.setpoint n).demand
  let L := s.pedLimit (pedOf n)
  let m := sibling n
  if s.participates m then
    let d' := (s.setpoint m).demand
    pairShare (d < d' || (d == d' && letterOf n == .a)) d d' L
  else min d L

/-- Hands the share to every member, and one more to the first `extra` of them (R150 step 5). -/
def handOut (share : Nat) : Nat → List (Conn × Nat) → List (Conn × Nat)
  | _, [] => []
  | extra, (n, _) :: rest => (n, share + min extra 1) :: handOut share (extra - 1) rest

/-- The water-fill of one class (R150): the members with their pedestal shares and the power still available give
the targets and the power left. Each round but the last lets a member leave, so `fuel` of one more than the number of
members suffices. -/
def fillClass : Nat → List (Conn × Nat) → Nat → List (Conn × Nat) × Nat
  | 0, _, A => ([], A)
  | fuel + 1, S, A =>
    if S.isEmpty then ([], A)
    else
      let share := A / S.length
      let leave := S.filter fun x => x.2 ≤ share
      if leave.isEmpty then
        let out := handOut share (A % S.length) S
        (out, A - (out.map Prod.snd).sum)
      else
        let more := fillClass fuel (S.filter fun x => share < x.2) (A - (leave.map Prod.snd).sum)
        (leave ++ more.1, more.2)

/-- The members of a class, in ascending connector index, with their pedestal shares. -/
def State.members (s : State) (c : ClassNo) : List (Conn × Nat) :=
  (allConns.filter fun n => s.participates n && (s.sess n).cls == c).map fun n => (n, s.pedShare n)

/-- The targets of the participants, class 3 first (R150). -/
def State.fillAll (s : State) (A : Nat) : List (Conn × Nat) :=
  let step := fun (acc : List (Conn × Nat) × Nat) (c : ClassNo) =>
    let S := s.members c
    let r := fillClass (S.length + 1) S acc.2
    (acc.1 ++ r.1, r.2)
  (([3, 2, 1, 0] : List ClassNo).foldl step ([], A)).1

/-- A target in a list of targets; 0 for a connector that has none (R147). -/
def targetIn (ts : List (Conn × Nat)) (n : Conn) : Nat :=
  match ts.find? fun x => x.1 == n with
  | some x => x.2
  | none => 0

/-- Gives a connector its target, and places it; one of an UNREACHABLE pedestal is left as it stands (R149). -/
def State.setTarget (ts : List (Conn × Nat)) (n : Conn) (s : State) : State :=
  if s.linkOf n = .unreachable then s
  else s.updSetpoint n fun r => { r with target := targetIn ts n }

/-- Places a connector of a pedestal that is not UNREACHABLE (R151). -/
def State.placeReachable (n : Conn) (s : State) : State :=
  if s.linkOf n = .unreachable then s else s.place n

/-- The power a pass shares: the effective site limit less all fixed draws, 0 when negative (R149). -/
def State.passPower (s : State) : Nat := s.effLimit - s.fixedSum

/-- An allocation pass, whole (R147 to R151). -/
def State.pass (s : State) : State :=
  let s := allConns.foldl (fun s n => s.markOne n) s
  let s := allPeds.foldl (fun s p => s.useLimit p) s
  let A := s.passPower
  let ts := s.fillAll A
  let s := { s with alloc := { s.alloc with available := A } }
  let s := allConns.foldl (fun s n => s.setTarget ts n) s
  allConns.foldl (fun s n => s.placeReachable n) s

/-! ### Class 4 work (R152) -/

/-- A setpoint to send now. -/
structure SetpointWork where
  conn : Conn
  value : Nat
  increase : Bool
  deriving DecidableEq, Repr

/-- Whether the increase of connector n may be sent now (R152 condition 1). -/
def State.increaseReady (s : State) (n : Conn) : Bool :=
  let r := s.setpoint n
  r.state == .increaseDeferred && s.committedSum + (r.target - r.grant) ≤ s.effLimit

/-- Whether the hold of connector n lies within the renew threshold (R152 condition 2). -/
def State.renewalReady (s : State) (n : Conn) : Bool :=
  let r := s.setpoint n
  (r.state == .steady || r.state == .increaseDeferred) &&
    (match r.holdExpiry with
      | some e => e < s.sec + s.alloc.renew
      | none => false)

/-- Whether a pedestal may be sent class 4 work: it is not UNCONFIGURED, not UNREACHABLE and has no resync pending. -/
def State.mayStart (s : State) (p : Ped) : Bool :=
  (s.ped p).link != .unconfigured && (s.ped p).link != .unreachable && !(s.ped p).resync

/-- The Allocator's answer to the arbiter (R152). -/
def State.setpointWork (s : State) : Option SetpointWork :=
  allConns.findSome? fun n =>
    if s.mayStart (pedOf n) then
      if s.increaseReady n then some ⟨n, (s.setpoint n).target, true⟩
      else if s.renewalReady n then some ⟨n, (s.setpoint n).grant, false⟩
      else none
    else none

/-- The hold a SETPOINT of a value carries: the setpoint hold in force, 0 for a value of 0 (R139, R152). -/
def State.holdFor (s : State) (v : Nat) : Nat := if v = 0 then 0 else s.alloc.hold

/-! ### Outcomes (R153 to R156) -/

/-- The hold expiry an acknowledged SETPOINT sets: its send second plus the hold, absent for a value of 0. -/
def ackedExpiry (sentAt value hold : Nat) : Option Nat :=
  if value = 0 then none else some (sentAt / 1000 + hold)

/-- The ACK of a decrease (R153). -/
def State.decreaseAcked (n : Conn) (value hold sentAt : Nat) (s : State) : State :=
  (s.updSetpoint n fun r => { r with grant := value, holdExpiry := ackedExpiry sentAt value hold }).place n

/-- The ACK of an increase (R154); the value sent is in force whatever the record's state and value in flight are by then
(DESIGN CHOICE, unsafe: notes/assumptions/36.md). -/
def State.increaseAcked (n : Conn) (value hold sentAt : Nat) (s : State) : State :=
  (s.updSetpoint n fun r =>
    { r with grant := value, holdExpiry := ackedExpiry sentAt value hold, inFlight := none, state := .steady }).place n

/-- The NAK of an increase (R154). -/
def State.increaseRefused (n : Conn) (s : State) : State :=
  (s.updSetpoint n fun r =>
    { r with target := min r.target r.grant, inFlight := none, state := .steady }).place n

/-- The failed increase (R154). -/
def State.increaseFailed (n : Conn) (s : State) : State :=
  s.updSetpoint n fun r =>
    { r with inFlight := none, state := if r.grant < r.target then .increaseDeferred else .steady }

/-- The ACK of a renewal (R155): a fall-back taken meanwhile is known by the absent hold, and the grant becomes the
value sent again (DEDUCED, unsafe: notes/assumptions/24.md); so it does, with no value in flight, for a renewal kept over
power-on (DESIGN CHOICE, unsafe: notes/assumptions/36.md). -/
def State.renewalAcked (n : Conn) (value hold sentAt : Nat) (s : State) : State :=
  (s.updSetpoint n fun r =>
    { r with
      grant := if r.holdExpiry = none then value else r.grant
      holdExpiry := ackedExpiry sentAt value hold
      inFlight := none }).place n

/-- The failed renewal (R155). -/
def State.renewalFailed (n : Conn) (s : State) : State :=
  s.updSetpoint n fun r => { r with inFlight := none }

/-- The fall-back of a record (R156), with its pass. -/
def State.fallBack (n : Conn) (s : State) : State :=
  (s.updSetpoint n fun r =>
    { r with
      grant := s.failsafe n
      holdExpiry := none
      state := if r.state = .increaseSent then .increaseSent else .fallback }).pass

/-- The NAK of a renewal (R155). -/
def State.renewalRefused (n : Conn) (s : State) : State :=
  (s.updSetpoint n fun r => { r with inFlight := none }).fallBack n

end Sys2Proof.Machine
end

