-- ==== Sys2Proof/Machine/Pricing.lean ====
section
/-! DEFINITION. The arithmetic of spec/07_metering_and_price_arithmetic.md, on plain values: delta, plausibility,
band split, cost, running cost, threshold and the close. -/

namespace Sys2Proof.Machine

/-! ### Stages 1 and 2 (R122, R123) -/

/-- The delta of a reading against its baseline, modulo 2^32 (R122). -/
def delta (reading base : BitVec 32) : Nat := (reading - base).toNat

/-- Whether a delta is a reverse reading (R122). -/
def isReverse (d : Nat) : Bool := 2147483648 ≤ d

/-- The plausibility limit (R123). -/
def plausibleLimit (rating elapsed : Nat) : Nat := rating * min elapsed 16777216 / 3600 + 50

/-! ### Stage 3 (R124 to R127) -/

/-- The place of an epoch in the history ring (R115). -/
def ringPlace (epoch : Byte) : Fin 8 := ⟨epoch.toNat % 8, Nat.mod_lt _ (by decide)⟩

/-- The band the history ring holds for an epoch (R115). -/
def ringBand (c : ClockState) (epoch : Byte) : Band := tget c.ring (ringPlace epoch)

/-- The candidate bands of a missed latch (R127). -/
def missedCandidates (c : ClockState) (last : Byte) : List Band :=
  let g := (c.epoch - last).toNat
  if 8 ≤ g then List.finRange 4
  else (List.range g).map fun i => ringBand c (last + BitVec.ofNat 8 (i + 1))

/-- The candidate of the lowest price, the lowest band index among equals (R127). -/
def cheapest (prices : Table Nat 4) (cands : List Band) : Band :=
  match (List.finRange 4).filter (fun b => cands.contains b) with
  | [] => 0
  | b :: bs => bs.foldl (fun best x => if tget prices x < tget prices best then x else best) b

/-- The latched delta when the latch divides the reading (R126). -/
def usableLatch (c : ClockState) (base : BitVec 32) (latch : Option (BitVec 8 × BitVec 32)) (d : Nat) : Option Nat :=
  match latch with
  | some (e, l) => if e = c.epoch ∧ delta l base ≤ d then some (delta l base) else none
  | none => none

/-- The parts of a reading's energy by band, and whether its latch was missed (R124 to R127). -/
def bandSplit (c : ClockState) (prices : Table Nat 4) (last : Byte) (base : BitVec 32)
    (latch : Option (BitVec 8 × BitVec 32)) (d : Nat) : List (Band × Nat) × Bool :=
  let g := (c.epoch - last).toNat
  if d = 0 then ([], false)
  else if g = 0 then ([(c.band, d)], false)
  else
    match if g = 1 then usableLatch c base latch d else none with
    | some d1 => ([(ringBand c last, d1), (c.band, d - d1)], false)
    | none => ([(cheapest prices (missedCandidates c last), d)], true)

/-! ### Stage 4 (R128) -/

/-- Adds one part of a reading's energy to a session. -/
def addPart (prices : Table Nat 4) (e : Session) (part : Band × Nat) : Session :=
  { e with
    costAcc := e.costAcc + part.2 * tget prices part.1
    bandEnergy := tset e.bandEnergy part.1 (tget e.bandEnergy part.1 + part.2)
    energyTotal := e.energyTotal + part.2 }

/-! ### Running cost and threshold (R130) -/

/-- The accrued cost (R130). -/
def Session.accrued (e : Session) : Nat := e.startFee + e.idleCost + e.costAcc / 1000000

/-- The running cost (R130). -/
def Session.running (e : Session) : Nat := min e.accrued e.budget

/-- The stop threshold of a budget (R130): 0 when the headroom is at or above the budget. -/
def thresholdOf (budget headroom : Nat) : Nat := budget - headroom

/-! ### The close (R134, R135) -/

/-- The rounded energy cost (R134). -/
def Session.energyCost (e : Session) : Nat := (e.costAcc + 500000) / 1000000

/-- The sum the cap is applied to (R135). -/
def Session.closeSum (e : Session) : Nat := e.startFee + e.idleCost + e.energyCost

/-- A record field's highest value (R135). -/
def recordCap (x : Nat) : Nat := min x 4294967295

/-- The settlement record of a session closing at connector n (R95, R134, R135). -/
def State.builtRecord (s : State) (n : Conn) (e : Session) : BuiltRecord where
  conn := n
  token := e.token
  source := e.source
  cls := e.cls
  plan := e.plan
  currency := (e.plan.map fun p => (s.plan p.1).contents.currency).join
  startWall := e.startWall
  endWall := s.clock.wall
  duration := s.sec - e.startSec.getD s.sec
  energyTotal := recordCap e.energyTotal
  bandEnergy := Vector.ofFn fun b : Fin 4 => recordCap (tget e.bandEnergy b)
  energyCost := recordCap e.energyCost
  idleMinutes := e.idleMinutes
  idleCost := recordCap e.idleCost
  startFee := recordCap e.startFee
  totalCost := min e.closeSum e.budget
  budget := e.budget
  endReason := e.endReason
  flags := addFlagIf (e.budget < e.closeSum) .capped (addFlagIf s.clock.wall.isNone .clockUnset e.flags)

end Sys2Proof.Machine
end

