-- ==== Sys2Proof/Machine/Sessions.lean ====
section
/-! DEFINITION. Shared operations around a session's end: appending to the settlement queue (R162, R163), the close
(R95, R96), withdrawal of a held query (R73), open causes (R47), stop causes (R90) and the budget check (R131). -/

namespace Sys2Proof.Machine

/-! ### The settlement queue -/

/-- The sequence number after one (R162). -/
def nextSequence (q : Nat) : Nat := if q = 4294967295 then 1 else q + 1

/-- Appends a record at the queue's tail with the next sequence (R162, R163, R164). -/
def State.appendRecord (r : BuiltRecord) (s : State) : State :=
  let before := s.settlement.records.length
  let s := { s with settlement :=
    { records := s.settlement.records ++ [⟨s.settlement.nextSequence, r⟩]
      nextSequence := nextSequence s.settlement.nextSequence
      readMark := if before = 0 then false else s.settlement.readMark } }
  if before = 0 then s.raise .settlementReady
  else if before + 1 = Config.settlementSize then s.raise .queueFull
  else s

/-! ### The close (R95, R96) -/

/-- Gives up the plan slot an entry names (R95, R104). -/
def State.releasePlan (e : Session) (s : State) : State :=
  match e.plan with
  | some (k, _) => s.updPlan k fun p => { p with useCount := p.useCount - 1 }
  | none => s

/-- Closes the session of connector n: builds its record, releases its plan slot, appends the record or waits, and
tells the Allocator of an exit from CHARGING (R95, R96, R88; DEDUCED, unsafe: notes/assumptions/27.md). -/
def State.closeSession (n : Conn) (s : State) : State :=
  let e := s.sess n
  let r := s.builtRecord n e
  let s := s.releasePlan e
  let s :=
    if s.settlement.records.length < Config.settlementSize then
      (s.appendRecord r).setSess n Session.initial
    else
      let s := s.setSess n
        { e with
          state := .closed
          plan := none
          lateTag := none
          readyDeadline := none
          stopDeadline := none
          flags := addFlagIf s.clock.wall.isNone .clockUnset e.flags
          record := some r }
      { s with sessions := { s.sessions with waiting := s.sessions.waiting ++ [n] } }
  if e.state = .charging then s.pass else s

/-! ### Withdrawal (R73) -/

/-- The held entry of a connector. -/
def State.heldOf (s : State) (n : Conn) : Option HeldEntry := s.auth.held.find? fun h => h.conn == n

/-- Removes a connector's held entry from the held list. -/
def State.dropHeld (n : Conn) (s : State) : State :=
  { s with auth := { s.auth with held := s.auth.held.filter fun h => h.conn != n } }

/-- Withdraws the query of connector n: the held entry leaves, the session returns to EMPTY without a record, and the
last decision records WITHDRAWN (R73). -/
def State.withdraw (n : Conn) (s : State) : State :=
  let t := (s.dropHeld n).setSess n Session.initial
  match s.heldOf n with
  | some h => t.decide n (.withdrawn h.tag)
  | none => t

/-! ### Open causes (R47) -/

/-- Entry to OPENING (R48). -/
def State.enterOpening (n : Conn) (s : State) : State :=
  (s.updSeq n fun r => { r with openAcked := false, repliesSinceOpen := 0 }).setContactor n .opening

/-- An open cause at connector n (R47). A CLOSE that the OPEN slot withdraws takes a CLOSING connector to OPENING in
the same event; a CLOSE in flight completes first. -/
def State.openCause (n : Conn) (s : State) : State :=
  let s := s.updSeq n fun r => { r with released := false, restCount := 0 }
  match (s.seq n).contactor with
  | .closing =>
    let waits := s.closeWaits n
    let s := (s.updSeq n fun r => { r with openPending := true }).setOpenSlot n
    if waits then (s.updSeq n fun r => { r with openPending := false }).enterOpening n else s
  | .verifying => ((s.setOpenSlot n).updSeq n fun r => { r with settleDeadline := none }).enterOpening n
  | .closed => ((s.setOpenSlot n).updSeq n fun r => { r with idleCount := 0 }).enterOpening n
  | .opened | .opening | .faulted | .locked => s

/-! ### Stop causes (R89, R90) -/

/-- Whether a stop cause withdraws at AWAITING_AUTH (R89). -/
def EndReason.withdraws : EndReason → Bool
  | .unplugged | .userStop | .remoteStop | .lockout | .pedestalFault => true
  | .budget | .lateReject | .parkStop | .maxTime | .notReady | .pedestalClear | .restart => false

/-- Whether a stop cause acts on an AUTHORIZED session (R89). -/
def EndReason.stopsAuthorized : EndReason → Bool
  | .unplugged | .userStop | .remoteStop | .lateReject | .lockout | .pedestalFault | .maxTime | .notReady => true
  | .budget | .parkStop | .pedestalClear | .restart => false

/-- Whether a stop cause acts on a CHARGING or COMPLETE session (R89). -/
def EndReason.stopsRunning : EndReason → Bool
  | .unplugged | .userStop | .remoteStop | .budget | .lateReject | .lockout | .pedestalFault | .parkStop
  | .maxTime => true
  | .notReady | .pedestalClear | .restart => false

/-- Puts the session of connector n into STOPPING (R90 steps 1 to 5). -/
def State.beginStop (reason : EndReason) (n : Conn) (s : State) : State :=
  let wasCharging := (s.sess n).state = .charging
  let s := s.setSess n
    { s.sess n with
      state := .stopping
      endReason := some reason
      stopDeadline := some (s.sec + s.sessions.stopWait)
      readyDeadline := none }
  let s := s.openCause n
  if wasCharging then s.pass else s

/-- Takes a stop cause by the state of the session (R90). -/
def State.stopCause (reason : EndReason) (n : Conn) (s : State) : State :=
  match (s.sess n).state with
  | .empty | .closed | .stopping => s
  | .awaitingAuth => if reason.withdraws then s.withdraw n else s
  | .authorized => if reason.stopsAuthorized then s.beginStop reason n else s
  | .charging | .complete => if reason.stopsRunning then s.beginStop reason n else s

/-! ### The budget check (R131) -/

/-- The budget check of the session of connector n. -/
def State.budgetCheck (n : Conn) (s : State) : State :=
  let e := s.sess n
  match e.state with
  | .charging | .complete => if e.threshold ≤ e.running then s.stopCause .budget n else s
  | .empty | .awaitingAuth | .authorized | .stopping | .closed => s

end Sys2Proof.Machine
end

