-- ==== Sys2Proof/Machine/Metering.lean ====
section
/-! DEFINITION. The Metering Engine at work on a session: a delivered reading (R119 to R129, R84) and a minute tick
(R132). -/

namespace Sys2Proof.Machine

/-- Whether readings are taken for a session in this state (R119). -/
def SessionKind.metered : SessionKind → Bool
  | .authorized | .charging | .complete | .stopping => true
  | .empty | .awaitingAuth | .closed => false

/-- The energy prices of the plan a session names; an entry that names none has none to price by. -/
def State.energyPrices (s : State) (e : Session) : Table Nat 4 :=
  match e.plan with
  | some (k, _) => (s.plan k).contents.energyPrice
  | none => Vector.replicate 4 0

/-- The idle price of a band in the plan a session names. -/
def State.idlePriceOf (s : State) (e : Session) (b : Band) : Nat :=
  match e.plan with
  | some (k, _) => tget (s.plan k).contents.idlePrice b
  | none => 0

/-- What Stages 1 to 3 make of a reading: the parts by band, and the three findings (R133). -/
structure Reading where
  parts : List (Band × Nat)
  reverse : Bool
  jump : Bool
  missed : Bool
  deriving DecidableEq, Repr

/-- Stages 1 to 3 for a reading with a baseline (R122 to R127). -/
def readParts (c : ClockState) (prices : Table Nat 4) (rating : Nat) (last : Byte) (base : BitVec 32) (baseMs : Nat)
    (reading : BitVec 32) (latch : Option (BitVec 8 × BitVec 32)) : Reading :=
  let raw := delta reading base
  if isReverse raw then ⟨[], true, false, false⟩
  else
    let limit := plausibleLimit rating (c.ms - baseMs)
    let split := bandSplit c prices last base latch (min raw limit)
    ⟨split.1, false, decide (limit < raw), split.2⟩

/-- Raises an event when the condition holds. -/
def State.raiseIf (c : Bool) (k : EventKind) (s : State) : State := if c then s.raise k else s

/-- Stages 4 and 5 on a session entry (R128, R129), with the flags of the findings (R133). -/
def applyReading (c : ClockState) (prices : Table Nat 4) (r : Reading) (reading : BitVec 32) (e : Session) : Session :=
  { r.parts.foldl (addPart prices) e with
    baseline := some (reading, c.ms)
    lastEpoch := c.epoch
    flags := addFlagIf r.missed .missedLatch (addFlagIf r.jump .meterJump (addFlagIf r.reverse .meterReverse e.flags)) }

/-- A reading delivered for connector n: the first sets the baseline (R84), a later one is priced through the six
stages (R119). -/
def State.deliverReading (n : Conn) (r : ConnReport) (s : State) : State :=
  let e := s.sess n
  if e.state.metered then
    match e.baseline with
    | none =>
      s.updSess n fun e => { e with baseline := some (r.reading, s.clock.ms), lastEpoch := s.clock.epoch }
    | some (base, baseMs) =>
      let prices := s.energyPrices e
      let f := readParts s.clock prices (s.rating n) e.lastEpoch base baseMs r.reading r.latch
      let s := s.updSess n (applyReading s.clock prices f r.reading)
      let s := s.raiseIf (f.reverse || f.jump) .meterAnomaly
      let s := s.raiseIf f.missed .latchMissed
      s.budgetCheck n
  else s

/-- A minute tick for the session of connector n (R132). -/
def State.idleMinute (n : Conn) (s : State) : State :=
  let e := s.sess n
  if e.state = .complete then
    if 0 < e.grace then s.updSess n fun e => { e with grace := e.grace - 1 }
    else
      (s.updSess n fun e =>
        { e with
          idleMinutes := e.idleMinutes + 1
          idleCost := e.idleCost + s.idlePriceOf e s.clock.band }).budgetCheck n
  else s

end Sys2Proof.Machine
end

