-- ==== Sys2Proof/Machine/Sequencing.lean ====
section
/-! DEFINITION. The Connector Sequencer's shared operations: faults (R52), CLOSE outcomes (R42), the close condition
(R41), entry to CLOSED (R44), locks (R50) and a reply's contact state (R43, R45, R46, R48, R49). -/

namespace Sys2Proof.Machine

/-! ### Faults (R52) -/

/-- A fault cause at connector n (R52): it takes a connector that is not FAULTED to FAULTED. -/
def State.enterFaulted (n : Conn) (k : FaultKind) (s : State) : State :=
  if (s.seq n).contactor = .faulted then s
  else
    let s := s.setContactor n .faulted
    let s := s.updSeq n fun r =>
      { r with
        fault := some k
        attempt := 1
        openPending := false
        openAcked := false
        released := false
        settleDeadline := none
        idleCount := 0
        restCount := 0
        repliesSinceOpen := 0 }
    let s := s.setOpenSlot n
    (s.raise .connectorFault).stopCause .pedestalFault n

/-! ### CLOSE commands (R16, R41, R42) -/

/-- The queue entry of a CLOSE. -/
def closeEntry (n : Conn) : QueueEntry := ⟨.close n, .sequencer⟩

/-- A NAK or discard of a CLOSE (R42). A retry that the queue refuses is refused again at once and counts as the next
attempt, so `fuel` of 3 attempts suffices. Session states without a row in R42 are left alone (DESIGN CHOICE, unsafe:
notes/assumptions/19.md). -/
def State.closeNak (n : Conn) : Nat → State → State
  | 0, s => s
  | fuel + 1, s =>
    let r := s.seq n
    if r.contactor ≠ .closing then s
    else if r.openPending then (s.updSeq n fun r => { r with openPending := false }).enterOpening n
    else if 3 ≤ r.attempt then s.enterFaulted n .closeRefused
    else
      match (s.sess n).state with
      | .authorized | .charging =>
        let s := s.updSeq n fun r => { r with attempt := r.attempt + 1 }
        if s.queueTakes (pedOf n) then s.enqueue (pedOf n) (closeEntry n) else s.closeNak n fuel
      | .complete =>
        ((s.setOpenSlot n).updSeq n fun r => { r with released := true, restCount := 0 }).enterOpening n
      | .empty | .awaitingAuth | .stopping | .closed => s

/-- Offers a CLOSE for connector n to its pedestal's queue; a refused one is a NAK at once (R16). -/
def State.offerClose (n : Conn) (s : State) : State :=
  if s.queueTakes (pedOf n) then s.enqueue (pedOf n) (closeEntry n) else s.closeNak n 3

/-- The ACK of a CLOSE (R42). -/
def State.closeAck (n : Conn) (s : State) : State :=
  let r := s.seq n
  if r.contactor ≠ .closing then s
  else if r.openPending then (s.updSeq n fun r => { r with openPending := false }).enterOpening n
  else
    (s.updSeq n fun r => { r with settleDeadline := some (s.clock.ms + s.sequencer.settleTime) }).setContactor n
      .verifying

/-- The close condition (R41). -/
def State.closeCondition (s : State) (n : Conn) : Bool :=
  (s.seq n).contactor == .opened && (s.sess n).state == .authorized &&
    (match s.report n with
      | some r => r.plugged && r.ready && r.contact == .opened
      | none => false) &&
    !s.sequencer.parkStop && s.linkOf n != .unreachable && !(s.ped (pedOf n)).resync

/-- Tests the close condition and starts the close when it holds (R41). -/
def State.testClose (n : Conn) (s : State) : State :=
  if s.closeCondition n then
    ((s.updSeq n fun r => { r with attempt := 1, openPending := false }).setContactor n .closing).offerClose n
  else s

/-- Entry to OPEN, with the test of the close condition (R41). -/
def State.enterOpen (n : Conn) (s : State) : State := (s.setContactor n .opened).testClose n

/-! ### Entry to CLOSED (R44, R86) -/

/-- The start fee of the plan a session names. -/
def State.startFeeOf (s : State) (e : Session) : Nat :=
  match e.plan with
  | some (k, _) => (s.plan k).contents.startFee
  | none => 0

/-- Entry to CLOSED; the first one of a session makes it CHARGING and books the start fee (R44, R86, R88). -/
def State.enterClosed (n : Conn) (s : State) : State :=
  let s := (s.updSeq n fun r => { r with settleDeadline := none, idleCount := 0, released := false }).setContactor n
    .closed
  if (s.sess n).state = .authorized then
    let s := s.setSess n
      { s.sess n with state := .charging, readyDeadline := none, startFee := s.startFeeOf (s.sess n) }
    s.pass.budgetCheck n
  else s

/-! ### Locks (R50) -/

/-- Whether the set of lock sources is empty. -/
def Locks.isEmpty (l : Locks) : Bool := !l.host && !l.switch

/-- Whether a source is in the set. -/
def Locks.has (l : Locks) : LockSource → Bool
  | .host => l.host
  | .switch => l.switch

/-- The set with a source in it or not. -/
def Locks.put (l : Locks) (b : Bool) : LockSource → Locks
  | .host => { l with host := b }
  | .switch => { l with switch := b }

/-- Adds a lock source to connector n (R50). -/
def State.addLock (n : Conn) (src : LockSource) (s : State) : State :=
  let before := (s.seq n).locks
  let s := s.updSeq n fun r => { r with locks := r.locks.put true src }
  if before.isEmpty then
    let s := s.stopCause .lockout n
    match (s.seq n).contactor with
    | .opened => s.setContactor n .locked
    | .closing | .verifying | .closed => s.openCause n
    | .opening | .faulted | .locked => s
  else s

/-- Removes a lock source from connector n (R50). -/
def State.removeLock (n : Conn) (src : LockSource) (s : State) : State :=
  let before := (s.seq n).locks
  let s := s.updSeq n fun r => { r with locks := r.locks.put false src }
  if !before.isEmpty && (before.put false src).isEmpty && (s.seq n).contactor == .locked then s.enterOpen n else s

/-! ### The contact state of a good STATUS reply (step 2 of R11) -/

/-- The re-close test (R46), after the rest count has been increased. -/
def State.testReclose (n : Conn) (r : ConnReport) (s : State) : State :=
  if (s.sess n).state = .charging ∧ r.plugged ∧ 0 < r.demand ∧ s.sequencer.idleRelease ≤ (s.seq n).restCount
      ∧ !s.sequencer.parkStop then
    ((s.updSeq n fun x => { x with attempt := 1, released := false, restCount := 0 }).setContactor n
      .closing).offerClose n
  else s

/-- OPEN at a reply: an unexpected contact (R49), the rest count of a released connector (R46), the close condition
(R41). A reply with an unexpected contact is neither counted nor tested by R46 (DEDUCED, unsafe:
notes/assumptions/32.md). -/
def State.replyOpened (n : Conn) (r : ConnReport) (s : State) : State :=
  if r.contact ≠ .opened then (s.setOpenSlot n).enterOpening n
  else if (s.seq n).released then
    ((s.updSeq n fun x => { x with restCount := min (x.restCount + 1) 20 }).testReclose n r).testClose n
  else s.testClose n

/-- VERIFYING at a reply (R43; session states without a row: DESIGN CHOICE, unsafe: notes/assumptions/19.md). -/
def State.replyVerifying (n : Conn) (r : ConnReport) (s : State) : State :=
  let x := s.seq n
  if x.settleDeadline.any (fun d => s.clock.ms < d) then s
  else if r.contact = .closed then s.enterClosed n
  else if 3 ≤ x.attempt then s.enterFaulted n .contactBad
  else
    match (s.sess n).state with
    | .authorized | .charging =>
      let s := s.setOpenSlot n
      let s := s.updSeq n fun x => { x with attempt := x.attempt + 1, settleDeadline := none }
      (s.setContactor n .closing).offerClose n
    | .complete =>
      ((s.setOpenSlot n).updSeq n fun x =>
        { x with released := true, restCount := 0, settleDeadline := none }).enterOpening n
    | .empty | .awaitingAuth | .stopping | .closed => s

/-- CLOSED at a reply: a lost contact, or the idle test and the idle release (R45). -/
def State.replyClosed (n : Conn) (r : ConnReport) (s : State) : State :=
  if r.contact ≠ .closed then s.enterFaulted n .contactBad
  else if r.power = 0 ∧ (r.demand = 0 ∨ (s.setpoint n).grant = 0) then
    let s := s.updSeq n fun x => { x with idleCount := min (x.idleCount + 1) 20 }
    if s.sequencer.idleRelease ≤ (s.seq n).idleCount then
      ((s.setOpenSlot n).updSeq n fun x => { x with released := true, idleCount := 0, restCount := 0 }).enterOpening n
    else s
  else s.updSeq n fun x => { x with idleCount := 0 }

/-- OPENING at a reply (R48). -/
def State.replyOpening (n : Conn) (r : ConnReport) (s : State) : State :=
  if !(s.seq n).openAcked then s
  else if r.contact = .opened then
    let s := s.updSeq n fun x => { x with openAcked := false, repliesSinceOpen := 0 }
    if (s.seq n).locks.isEmpty then s.enterOpen n else s.setContactor n .locked
  else
    let s := s.updSeq n fun x => { x with repliesSinceOpen := x.repliesSinceOpen + 1 }
    if 3 ≤ (s.seq n).repliesSinceOpen then s.enterFaulted n .welded else s

/-- A reply's contact state at connector n (R11 step 2). -/
def State.replyContact (n : Conn) (r : ConnReport) (s : State) : State :=
  match (s.seq n).contactor with
  | .opened => s.replyOpened n r
  | .closing => s
  | .verifying => s.replyVerifying n r
  | .closed => s.replyClosed n r
  | .opening => s.replyOpening n r
  | .faulted => s
  | .locked => if r.contact = .opened then s else s.enterFaulted n .welded

/-- The ACK of an OPEN from the slot, as the Sequencer takes it (R48, R42). -/
def State.openAcked (n : Conn) (s : State) : State :=
  if (s.seq n).contactor = .opening then s.updSeq n fun r => { r with openAcked := true } else s

end Sys2Proof.Machine
end

