-- ==== Sys2Proof/Machine/Authorization.lean ====
section
/-! DEFINITION. The Authorization Unit's shared operations: lookup and watch bit (R59, R60), plan choice (R67),
acceptance (R68, R83), refusal (R69), the offline rule (R66), the decision on a token (R61 to R63), an answer (R70,
R72). -/

namespace Sys2Proof.Machine

/-- The matching entry of a token: the lowest index that holds the same token (R59). -/
def State.lookup (s : State) (t : Token) : Option TokenEntry :=
  s.auth.tokens.toList.findSome? fun e =>
    match e with
    | some e => if e.token = t then some e else none
    | none => none

/-- The sum of the id bytes, each with its odd weight; `w` is the weight of the first (R60). -/
def weightedSum : Nat → Frame → Nat
  | _, [] => 0
  | w, b :: bs => b.toNat * w + weightedSum (w + 2) bs

/-- The watch bit number of an id (R60). -/
def watchBit (id : Frame) : Nat := weightedSum 1 id % 1024

/-- Whether an id is watched (R60). -/
def State.watched (s : State) (id : Frame) : Bool :=
  (tget s.auth.watch ⟨watchBit id / 128, by have := Nat.mod_lt (weightedSum 1 id) (by decide : 0 < 1024); unfold watchBit; omega⟩).getLsbD
    (watchBit id % 128)

/-- The plan chosen for an acceptance (R67); `look` says whether the token's matching entry is asked. -/
def State.choosePlan (s : State) (n : Conn) (look : Option Token) (given : Option PlanSlot) : PlanSlot :=
  match (look.bind s.lookup).bind (·.override) with
  | some k => k
  | none =>
    match given with
    | some k => k
    | none => s.defaultPlan n

/-- What an acceptance hands the Session Table (R68). -/
structure Acceptance where
  token : Option Token
  source : Source
  cls : ClassNo
  budget : Nat
  plan : PlanSlot
  lateTag : Option Byte
  deriving DecidableEq, Repr

/-- Whether a source is of the offline rule (R83). -/
def Source.isOffline : Source → Bool
  | .offlineTable | .offlinePark => true
  | .here | .online | .remote => false

/-- Whether the stored connector report shows plugged yes (R82). -/
def State.plugSeenNow (s : State) (n : Conn) : Bool :=
  match s.report n with
  | some r => r.plugged
  | none => false

/-- The AUTHORIZED entry an acceptance makes (R83). -/
def State.acceptedSession (s : State) (n : Conn) (a : Acceptance) : Session :=
  { Session.initial with
    state := .authorized
    token := a.token
    source := some a.source
    cls := a.cls
    plan := some (a.plan, (s.plan a.plan).revision)
    budget := a.budget
    threshold := thresholdOf a.budget s.metering.headroom
    lateTag := a.lateTag
    startWall := s.clock.wall
    startSec := some s.sec
    readyDeadline := some (s.sec + s.sessions.readyWait)
    plugSeen := s.plugSeenNow n
    flags := addFlagIf s.clock.wall.isNone .clockUnset (addFlagIf a.source.isOffline .offline 0) }

/-- Completes an acceptance on a LOADED plan slot (R68, R83, R41). -/
def State.accept (n : Conn) (a : Acceptance) (s : State) : State :=
  let e := s.acceptedSession n a
  let s := s.updPlan a.plan fun p => { p with useCount := p.useCount + 1 }
  let s := s.decide n (.accepted a.source)
  (s.setSess n e).testClose n

/-- Ends a decision as a refusal (R69). `held` says that the refusal ends a held query, whose AWAITING_AUTH session
returns to EMPTY. -/
def State.refuse (n : Conn) (why : RefuseReason) (held : Bool) (s : State) : State :=
  let s := if held then s.setSess n Session.initial else s
  let s := s.decide n (.refused why)
  s.offerDisplay n (if why = .busy then .tryAgain else .refused)

/-- Accepts on the chosen plan, or refuses with NO_TARIFF when its slot is EMPTY (R67). -/
def State.acceptOrRefuse (n : Conn) (a : Acceptance) (held : Bool) (s : State) : State :=
  if (s.plan a.plan).loaded then s.accept n a else s.refuse n .noTariff held

/-- The offline rule (R66); `late` is the query tag at a deadline (R71). -/
def State.offlineRule (n : Conn) (t : Token) (late : Option Byte) (s : State) : State :=
  let held := late.isSome
  match s.lookup t with
  | some e =>
    if e.blocked then s.refuse n .blocked held
    else s.acceptOrRefuse n ⟨some t, .offlineTable, e.cls, e.limit, s.choosePlan n (some t) none, late⟩ held
  | none =>
    match t.kind with
    | .card =>
      if s.auth.offlineAccept then
        s.acceptOrRefuse n ⟨some t, .offlinePark, 0, s.auth.offlineLimit, s.choosePlan n (some t) none, late⟩ held
      else s.refuse n .offline held
    | .payment => s.refuse n .offline held

/-- Opens a query (R63, R82). -/
def State.openQuery (n : Conn) (t : Token) (why : QueryReason) (s : State) : State :=
  let tag := s.auth.nextTag
  let h : HeldEntry :=
    { conn := n, tag := tag, token := t, reason := why, deadline := s.sec + s.auth.queryTimeout, sent := false }
  let s := { s with auth := { s.auth with held := s.auth.held ++ [h], nextTag := tag + 1 } }
  let s := s.decide n (.held tag)
  s.setSess n { Session.initial with state := .awaitingAuth, token := some t, plugSeen := s.plugSeenNow n }

/-- The fourth step: ask the back office, or decide without it (R63). -/
def State.askHost (n : Conn) (t : Token) (why : QueryReason) (s : State) : State :=
  match s.uplink.link with
  | .offline => s.offlineRule n t none
  | .online =>
    if s.auth.held.length < Config.heldSize then s.openQuery n t why else s.refuse n .busy false

/-- The second and third steps: token table and watch bitmap (R62). -/
def State.decideByTable (n : Conn) (t : Token) (s : State) : State :=
  match s.lookup t with
  | some e =>
    if e.blocked then s.refuse n .blocked false
    else
      match t.kind with
      | .payment => s.askHost n t .payment
      | .card =>
        if s.watched t.id then s.askHost n t .watched
        else s.acceptOrRefuse n ⟨some t, .here, e.cls, e.limit, s.choosePlan n (some t) none, none⟩ false
  | none =>
    match t.kind with
    | .payment => s.askHost n t .payment
    | .card => s.askHost n t .notInTable

/-- Whether a session is stopped by its own token (R61 test 1). -/
def Session.stoppedBy (e : Session) (t : Token) : Bool :=
  (e.state == .charging || e.state == .complete) && e.token == some t

/-- The decision on a token presented at connector n (R61 to R63). -/
def State.decideToken (n : Conn) (t : Token) (s : State) : State :=
  if (s.sess n).stoppedBy t then (s.decide n .stop).stopCause .userStop n
  else if (s.sess n).state ≠ .empty then s.refuse n .sessionPresent false
  else if !(s.seq n).locks.isEmpty then s.refuse n .locked false
  else if (s.seq n).contactor = .faulted then s.refuse n .faulted false
  else if s.sequencer.parkStop then s.refuse n .parkStop false
  else s.decideByTable n t

/-- The dispositions of an answer (11.7, AUTH_ANSWER). -/
inductive AnswerDisposition | accepted | refusedNoTariff | rejected | lateAccepted | lateRejected | ignored
  deriving DecidableEq, Repr

/-- The number of a disposition (11.7). -/
def AnswerDisposition.number : AnswerDisposition → Nat
  | .accepted => 0
  | .refusedNoTariff => 1
  | .rejected => 2
  | .lateAccepted => 3
  | .lateRejected => 4
  | .ignored => 5

/-- The operands of AUTH_ANSWER (4.7). -/
structure Answer where
  conn : Conn
  tag : Byte
  accept : Bool
  budget : Nat
  cls : ClassNo
  plan : Option PlanSlot
  deriving DecidableEq, Repr

/-- The held entry an answer matches: connector and tag together (R64, R70). -/
def State.matchHeld (s : State) (a : Answer) : Option HeldEntry :=
  s.auth.held.find? fun h => h.conn == a.conn && h.tag == a.tag

/-- An answer on time (R70). -/
def State.answerOnTime (a : Answer) (h : HeldEntry) (s : State) : State × AnswerDisposition :=
  let s := s.dropHeld a.conn
  if a.accept then
    let k := s.choosePlan a.conn (some h.token) a.plan
    (s.acceptOrRefuse a.conn ⟨some h.token, .online, a.cls, a.budget, k, none⟩ true,
      if (s.plan k).loaded then .accepted else .refusedNoTariff)
  else (s.refuse a.conn .rejected true, .rejected)

/-- A late ACCEPT: the new budget and threshold, then the budget check (R72, R130). -/
def State.lateAccept (a : Answer) (s : State) : State :=
  let s := s.updSess a.conn fun e =>
    { e with
      lateTag := none
      budget := max a.budget e.running
      threshold := thresholdOf (max a.budget e.running) s.metering.headroom }
  (s.decide a.conn (.lateAccepted a.tag)).budgetCheck a.conn

/-- A late REJECT: the flag and the stop (R72). -/
def State.lateReject (a : Answer) (s : State) : State :=
  let s := s.updSess a.conn fun e => { e with lateTag := none, flags := addFlag .lateReject e.flags }
  (s.decide a.conn (.lateRejected a.tag)).stopCause .lateReject a.conn

/-- A valid answer: on time, late or ignored (R70, R72). -/
def State.takeAnswer (a : Answer) (s : State) : State × AnswerDisposition :=
  match s.matchHeld a with
  | some h => s.answerOnTime a h
  | none =>
    if (s.sess a.conn).lateTag = some a.tag then
      if a.accept then (s.lateAccept a, .lateAccepted) else (s.lateReject a, .lateRejected)
    else (s.raise .lateAnswer, .ignored)

end Sys2Proof.Machine
end

