-- ==== Sys2Proof/Machine/Classifier.lean ====
section
/-! DEFINITION. The Message Classifier's shared operations: form of a message (R27), handing over (R29), taking an
offer (R28, R31, R12) and the down counts (R36). -/

namespace Sys2Proof.Machine

/-- A message handed to its owner, read from a well-formed message of a defined code (R27, R29). -/
inductive LocalMessage where
  | token (letter : Letter) (t : Token)
  | stopRequest (letter : Letter)
  | faultReport (letter : Option Letter) (code : Byte)
  | serviceSwitch (on : Bool)
  deriving DecidableEq, Repr

/-- Reads a TOKEN payload (11.5): kind, id length, that many id bytes. -/
def tokenPayload : Frame → Option Token
  | kind :: len :: id =>
    match tokenKindByte kind with
    | some k => if idLengthOk len.toNat && id.length == len.toNat then some ⟨k, id⟩ else none
    | none => none
  | _ => none

/-- The local meaning of a message: `none` for an undefined code and for a message that is not well formed (R27). -/
def localMessage (m : Message) : Option LocalMessage :=
  if m.code = 1 then
    match m.letter, tokenPayload m.payload with
    | some l, some t => some (.token l t)
    | _, _ => none
  else if m.code = 2 then
    match m.letter, m.payload with
    | some l, [] => some (.stopRequest l)
    | _, _ => none
  else if m.code = 3 then
    match m.payload with
    | [code] => some (.faultReport m.letter code)
    | _ => none
  else if m.code = 4 then
    match m.letter, m.payload with
    | none, [position] => (boolByte position).map .serviceSwitch
    | _, _ => none
  else none

/-- Sets or clears the SWITCH lock source of connector n (R50). -/
def State.switchLock (n : Conn) (on : Bool) (s : State) : State :=
  if on then s.addLock n .switch else s.removeLock n .switch

/-- Hands a message of pedestal p to its owner (R29). A FAULT_REPORT without a connector and a SERVICE_SWITCH act on
connector A whole, its pass included, and then on connector B: the rules give no order (DESIGN CHOICE, unsafe:
notes/assumptions/23.md). -/
def State.handOver (p : Ped) (m : LocalMessage) (s : State) : State :=
  match m with
  | .token l t => s.decideToken (connOf p l) t
  | .stopRequest l => s.stopCause .userStop (connOf p l)
  | .faultReport (some l) code => s.enterFaulted (connOf p l) (.reported code)
  | .faultReport none code =>
    (s.enterFaulted (connOf p .a) (.reported code)).enterFaulted (connOf p .b) (.reported code)
  | .serviceSwitch on => (s.switchLock (connOf p .a) on).switchLock (connOf p .b) on

/-- Hands a message over when it has a local meaning. -/
def State.handLocal (p : Ped) (m : Message) (s : State) : State :=
  match localMessage m with
  | some x => s.handOver p x
  | none => s

/-- Appends an offered message to the pass-up queue (R32). -/
def State.appendPassUp (p : Ped) (m : Message) (s : State) : State :=
  { s with classifier :=
    { s.classifier with passUp := s.classifier.passUp ++ [⟨p, m.letter, m.code, m.payload⟩] } }

/-- Holds an offer (R31). -/
def State.holdOffer (p : Ped) (s : State) : State :=
  (s.raise .passUpHeld).updCounts p fun c => { c with held := satInc c.held }

/-- Whether the pass-up queue has room (R28). -/
def State.passUpRoom (s : State) : Bool := s.classifier.passUp.length < Config.passUpSize

/-- Takes an offer by the action of its code, and answers whether it is accepted (R28). -/
def State.takeOffer (p : Ped) (m : Message) (s : State) : State × Bool :=
  match tget s.classifier.actions m.code with
  | .toOwner => (s.handLocal p m, true)
  | .up => if s.passUpRoom then (s.appendPassUp p m, true) else (s.holdOffer p, false)
  | .toOwnerAndUp => if s.passUpRoom then ((s.appendPassUp p m).handLocal p m, true) else (s.holdOffer p, false)
  | .drop => (s, true)

/-- An offered message of pedestal p: a repeat, accepted or held (R12). -/
def State.offerMessage (p : Ped) (m : Message) (s : State) : State :=
  if (s.ped p).lastMessage = some m.number then s.updPed p fun e => { e with disposition := .accepted }
  else
    let t := s.takeOffer p m
    if t.2 then t.1.updPed p fun e => { e with lastMessage := some m.number, disposition := .accepted }
    else t.1.updPed p fun e => { e with disposition := .hold }

/-- The ACK of a host DISPLAY or PASS_DOWN (R36). -/
def State.downAcked (p : Ped) (s : State) : State :=
  s.updCounts p fun c => { c with downAcked := satInc c.downAcked }

/-- The NAK of a host DISPLAY or PASS_DOWN (R36). -/
def State.downRefused (p : Ped) (s : State) : State :=
  s.updCounts p fun c => { c with downRefused := satInc c.downRefused }

end Sys2Proof.Machine
end

