-- ==== Sys2Proof/Machine/ParkLine.lean ====
section
/-! DEFINITION. The Line Controller's shared operations: loss of a pedestal (R10), failed attempts (R9), the delivery
of a STATUS reply (R11), ACK and NAK (R13), reception of a frame (R9), roll call (R6, R7) and the line arbiter
(R14). -/

namespace Sys2Proof.Machine

/-! ### Loss of a pedestal (R10) -/

/-- The connectors of the CLOSE entries of a queue, in order. -/
def closesIn (q : List QueueEntry) : List Conn :=
  q.filterMap fun e =>
    match e.cmd with
    | .close n => some n
    | .display _ _ _ | .passDown _ _ _ | .clear => none

/-- What the end of a failed transaction reports besides its CLOSE (R10 step 3). -/
def State.reportFailed (k : TxnKind) (s : State) : State :=
  match k with
  | .increase n _ _ => s.increaseFailed n
  | .renewal n _ _ => s.renewalFailed n
  | .poll | .openSlot _ | .decrease _ _ _ | .queued _ | .latch _ | .rollCall => s

/-- The CLOSE a failed transaction was. -/
def TxnKind.closeOf : TxnKind → List Conn
  | .queued (.close n) => [n]
  | .queued (.display _ _ _) | .queued (.passDown _ _ _) | .queued .clear => []
  | .poll | .openSlot _ | .decrease _ _ _ | .increase _ _ _ | .renewal _ _ _ | .latch _ | .rollCall => []

/-- Entry of pedestal p to UNREACHABLE (R10), with the failed transaction when there is one. -/
def State.enterUnreachable (p : Ped) (failed : Option TxnKind) (s : State) : State :=
  let closes := (match failed with
    | some k => k.closeOf
    | none => []) ++ closesIn (s.ped p).queue
  let s := s.updPed p fun e => { e with link := .unreachable, resync := false, queue := [] }
  let s := closes.foldl (fun s n => s.closeNak n 3) s
  let s := match failed with
    | some k => s.reportFailed k
    | none => s
  let s := s.updPed p fun e => { e with nextPoll := none, disposition := .none }
  (s.raise .pedestalLost).pass

/-- Pedestal p is lost: a configured one enters UNREACHABLE (R10). An UNCONFIGURED target, which only a transaction
kept over power-on has, stays as it is (DEDUCED, unsafe: notes/assumptions/31.md). -/
def State.lose (p : Ped) (failed : Option TxnKind) (s : State) : State :=
  if (s.ped p).link = .unconfigured then s else s.enterUnreachable p failed

/-! ### Attempts (R8, R9) -/

/-- The kind as it is sent again: a decrease from its slot carries the slot's value at the moment of resending (R9),
and the hold that goes with it; any other frame is the same frame (DEDUCED, unsafe: notes/assumptions/15.md). -/
def State.resendKind (s : State) (k : TxnKind) : TxnKind :=
  match k with
  | .decrease n _ _ => .decrease n (s.slots n).decValue (s.holdFor (s.slots n).decValue)
  | .poll | .openSlot _ | .increase _ _ _ | .renewal _ _ _ | .queued _ | .latch _ | .rollCall => k

/-- Sends the next attempt of a transaction (R9). -/
def State.resend (t : Txn) (s : State) : State :=
  let k := s.resendKind t.kind
  s.setInflight (some
    { t with
      kind := k
      attempt := t.attempt + 1
      deadline := s.clock.ms + s.line.replyTimeout
      sentAt := s.clock.ms
      setAgain := false
      frame := if k = t.kind then t.frame
        else txnFrame t.target (match t.target with
          | some p => (s.ped p).disposition
          | none => .none) k })

/-- The consecutive-failure count of pedestal p after one more failed attempt at a moment: one higher within its range,
a free value of the range past it (R2, R9; DESIGN CHOICE, safe: notes/assumptions/13.md). -/
def failCountAfter (ms : Nat) (p : Ped) (c : Nat) : Nat :=
  if c < 3 then c + 1 else (Config.failsPastRange (ms * 24 + p.val)).toNat

/-- A failed attempt of a transaction with pedestal p (R9): the count, then the next attempt or the loss. -/
def State.attemptFailed (p : Ped) (t : Txn) (s : State) : State :=
  let s := s.updPed p fun e => { e with failCount := failCountAfter s.clock.ms p e.failCount }
  if t.attempt < 3 then s.resend t else (s.setInflight none).lose p (some t.kind)

/-- A counted check-word failure of pedestal p (R20). -/
def State.checkFailed (p : Ped) (s : State) : State :=
  (s.updPed p fun e => { e with checkFails := satInc e.checkFails }).raise .linkErrors

/-- A good reply of pedestal p ends the transaction (R8, R9, R12), also where power-on has made p UNCONFIGURED meanwhile
(DESIGN CHOICE, unsafe: notes/assumptions/37.md). -/
def State.goodReply (p : Ped) (s : State) : State :=
  (s.setInflight none).updPed p fun e =>
    { e with failCount := 0, lastReply := some s.clock.ms, disposition := .none }

/-! ### The delivery of a STATUS reply (R11) -/

/-- A reply's plug, ready and complete states for connector n, with the end test of a STOPPING session
(R85, R87, R93). A CLOSE that waits while its session turns COMPLETE stays in the queue (DEDUCED, unsafe:
notes/assumptions/35.md). -/
def State.replySession (n : Conn) (r : ConnReport) (s : State) : State :=
  let e := s.sess n
  let watching := match e.state with
    | .awaitingAuth | .authorized | .charging | .complete => true
    | .empty | .stopping | .closed => false
  let s :=
    if watching && r.plugged then s.updSess n fun e => { e with plugSeen := true }
    else if watching && e.plugSeen then s.stopCause .unplugged n
    else s
  let e := s.sess n
  let s :=
    if e.state = .charging ∧ r.complete then
      (s.setSess n { e with
        state := .complete
        grace := match e.plan with
          | some (k, _) => (s.plan k).contents.grace
          | none => 0 }).pass
    else if e.state = .complete ∧ !r.complete ∧ 0 < r.demand then
      (s.setSess n { e with state := .charging }).pass
    else s
  if (s.sess n).state = .stopping then
    match (s.seq n).contactor with
    | .opened | .locked | .faulted => s.closeSession n
    | .closing | .verifying | .closed | .opening => s
  else s

/-- Whether connector n calls for a pass at a reply (R146 tests 1 and 2). -/
def State.callsForPass (s : State) (n : Conn) : Bool :=
  let x := s.setpoint n
  s.participates n != x.participant ||
    (s.participates n &&
      (x.demand + s.alloc.hysteresis ≤ s.clampedDemand n || s.clampedDemand n + s.alloc.hysteresis ≤ x.demand))

/-- Step 4 of a reply's delivery (R146). -/
def State.replyAllocation (p : Ped) (s : State) : State :=
  if (connsOf p).any s.callsForPass
      || ((connsOf p).any s.participates && s.pedLimit p != (s.config p).limitUsed) then s.pass
  else s

/-- Stores a reply's parts (R11). -/
def State.storeReply (p : Ped) (r : StatusReply) (s : State) : State :=
  s.updPed p fun e => { e with reportA := some r.a, reportB := some r.b, available := some r.available }

/-- Whether a reply leaves the pedestal idle: both connectors unplugged, both sessions EMPTY, both contactors OPEN
(R11). -/
def State.idleAfter (s : State) (p : Ped) (r : StatusReply) : Bool :=
  !r.a.plugged && !r.b.plugged &&
    (connsOf p).all fun n => (s.sess n).state == .empty && (s.seq n).contactor == .opened

/-- What follows the delivery: QUIET, or the next poll (R11). -/
def State.afterDelivery (p : Ped) (r : StatusReply) (s : State) : State :=
  if (s.ped p).link = .active then
    if s.idleAfter p r then s.updPed p fun e => { e with link := .quiet, nextPoll := none }
    else s.updPed p fun e => { e with nextPoll := some (s.clock.ms + s.line.pollPeriod) }
  else s

/-- The delivery of a good STATUS reply of pedestal p to the owners, in order (R11). -/
def State.deliver (p : Ped) (r : StatusReply) (s : State) : State :=
  let a := connOf p .a
  let b := connOf p .b
  let s := s.storeReply p r
  let s := (s.deliverReading a r.a).deliverReading b r.b
  let s := (s.replyContact a r.a).replyContact b r.b
  let s := (s.replySession a r.a).replySession b r.b
  let s := s.replyAllocation p
  let s := match r.message with
    | some m => s.offerMessage p m
    | none => s
  s.afterDelivery p r

/-- A good STATUS reply to a POLL: the resync flag is cleared first (R19). A POLL kept over power-on delivers as any other
(DESIGN CHOICE, unsafe: notes/assumptions/37.md). -/
def State.statusReceived (p : Ped) (r : StatusReply) (s : State) : State :=
  ((s.goodReply p).updPed p fun e => { e with resync := false }).deliver p r

/-! ### ACK and NAK (R13) -/

/-- The ACK of an OPEN clears the flag, unless the slot has been set again since the attempt (R13; DEDUCED, unsafe:
notes/assumptions/24.md). -/
def State.openSlotAcked (n : Conn) (t : Txn) (s : State) : State :=
  if t.setAgain then s else s.updSlots n fun x => { x with openSet := false }

/-- The ACK of a decrease clears the flag, unless the slot's value changed since the attempt (R13). -/
def State.decSlotAcked (n : Conn) (value : Nat) (s : State) : State :=
  if (s.slots n).decValue = value then s.clearDecSlot n else s

/-- The ACK of a queued command (R13, R36, R21); one kept over power-on is counted at its UNCONFIGURED pedestal too
(DESIGN CHOICE, unsafe: notes/assumptions/37.md). -/
def State.queuedAcked (p : Ped) (o : Originator) (c : QueueCmd) (s : State) : State :=
  match c with
  | .close n => s.closeAck n
  | .display _ _ _ | .passDown _ _ _ => if o = .classifier then s.downAcked p else s
  | .clear => s.updPed p fun e => { e with lastMessage := none }

/-- The NAK of a queued command (R13, R36); one kept over power-on is counted at its UNCONFIGURED pedestal too
(DESIGN CHOICE, unsafe: notes/assumptions/37.md). -/
def State.queuedRefused (p : Ped) (o : Originator) (c : QueueCmd) (s : State) : State :=
  match c with
  | .close n => s.closeNak n 3
  | .display _ _ _ | .passDown _ _ _ => if o = .classifier then s.downRefused p else s
  | .clear => s

/-- A good ACK of pedestal p ends its transaction (R13). -/
def State.ackReceived (p : Ped) (t : Txn) (s : State) : State :=
  let s := s.goodReply p
  match t.kind with
  | .openSlot n => (s.openSlotAcked n t).openAcked n
  | .decrease n v h => (s.decSlotAcked n v).decreaseAcked n v h t.sentAt
  | .increase n v h => s.increaseAcked n v h t.sentAt
  | .renewal n v h => s.renewalAcked n v h t.sentAt
  | .queued c => s.queuedAcked p t.originator c
  | .poll | .latch _ | .rollCall => s

/-- A NAK of pedestal p: a failed attempt for an OPEN or a decrease, else the end of the transaction (R13). -/
def State.nakReceived (p : Ped) (t : Txn) (s : State) : State :=
  match t.kind with
  | .openSlot _ | .decrease _ _ _ => s.attemptFailed p t
  | .increase n _ _ => (s.goodReply p).increaseRefused n
  | .renewal n _ _ => (s.goodReply p).renewalRefused n
  | .queued c => (s.goodReply p).queuedRefused p t.originator c
  | .poll | .latch _ | .rollCall => s

/-! ### Reception (R9, R22) -/

/-- A frame that arrives on the park line outside a roll-call window (R9): while no attempt waits it is discarded;
a transaction marked discarded ends without effect, whatever the frame (R22; DEDUCED, unsafe:
notes/assumptions/14.md). -/
def State.receive (frame : Frame) (s : State) : State :=
  match s.line.inflight with
  | none => s
  | some t =>
    match t.target with
    | none => s
    | some p =>
      if t.discarded then s.setInflight none
      else
        match classifyFrame p (t.kind == .poll) frame with
        | .bad checkBad => (if checkBad then s.checkFailed p else s).attemptFailed p t
        | .status r => s.statusReceived p r
        | .ack => s.ackReceived p t
        | .nak => s.nakReceived p t

/-- The reply deadline of the current attempt passes with no frame (R9, R22). -/
def State.replyDeadline (s : State) : State :=
  match s.line.inflight with
  | none => s
  | some t =>
    match t.target with
    | none => s
    | some p =>
      let s := s.advanceTo t.deadline
      if t.discarded then s.setInflight none else s.attemptFailed p t

/-! ### Roll call (R6, R7) -/

/-- The roll-call slots held by configured pedestals. -/
def State.heldSlots (s : State) : List Nat :=
  allPeds.filterMap fun p => if (s.ped p).configured then (s.ped p).slot.map (·.val) else none

/-- The configured pedestal that holds a roll-call slot. -/
def State.slotHolder (s : State) (k : Nat) : Option Ped :=
  allPeds.find? fun p => (s.ped p).configured && (s.ped p).slot.any (fun x => x.val == k)

/-- Whether a roll call is due (R6). -/
def State.rollCallDue (s : State) : Bool :=
  (allPeds.any fun p => (s.ped p).configured) &&
    (match s.line.rollTimer with
      | none => true
      | some t => t + s.line.rollPeriod * 1000 ≤ s.clock.ms)

/-- The ROLL_CALL broadcast has been sent: the window opens, or ends at once when no slot is held (R6; DESIGN CHOICE,
unsafe: notes/assumptions/12.md). -/
def State.openWindow (s : State) : State :=
  match s.heldSlots with
  | [] => s.setInflight none
  | k :: ks => { s with line := { s.line with window := some ⟨0, ks.foldl max k, s.clock.ms⟩ } }

/-- A pedestal leaves UNREACHABLE at a roll call (R7, R157). -/
def State.found (p : Ped) (s : State) : State :=
  let s := s.updPed p fun e =>
    { e with
      link := .active
      failCount := 0
      absentCount := 0
      resync := true
      nextPoll := some s.clock.ms }
  (s.raise .pedestalFound).pass

/-- A QUIET or ATTENTION answer of pedestal p (R7). -/
def State.slotPresent (p : Ped) (attention : Bool) (s : State) : State :=
  let s := s.updPed p fun e => { e with absentCount := 0 }
  match (s.ped p).link with
  | .unconfigured => s
  | .probing | .quiet =>
    if attention then s.updPed p fun e => { e with link := .active, nextPoll := some s.clock.ms }
    else s.updPed p fun e => { e with link := .quiet }
  | .active =>
    if attention then s.updPed p fun e => { e with nextPoll := e.nextPoll.map (min s.clock.ms) } else s
  | .unreachable => s.found p

/-- An ABSENT slot of pedestal p (R7). -/
def State.slotAbsent (p : Ped) (s : State) : State :=
  match (s.ped p).link with
  | .probing | .quiet =>
    let s := s.updPed p fun e => { e with absentCount := min (e.absentCount + 1) 3 }
    if 3 ≤ (s.ped p).absentCount then s.lose p none else s
  | .unconfigured | .active | .unreachable => s

/-- What a slot's answer does for the pedestal that holds it (R6, R7, R20). -/
def State.slotAnswer (p : Ped) (a : SlotAnswer) (s : State) : State :=
  match a with
  | .quiet => s.slotPresent p false
  | .attention => s.slotPresent p true
  | .absent checkBad => (if checkBad then s.checkFailed p else s).slotAbsent p

/-- The end of one roll-call slot, 2 ms after it began, with the bytes that arrived in it (R6); the line becomes free
when the last slot ends. -/
def State.endSlot (bytes : Frame) (s : State) : State :=
  match s.line.window with
  | none => s
  | some w =>
    let s := s.advanceTo (w.start + 2 * (w.slot + 1))
    let s := match s.slotHolder w.slot with
      | some p => s.slotAnswer p (classifySlot bytes)
      | none => s
    if w.last ≤ w.slot then { s with line := { s.line with window := none, inflight := none } }
    else { s with line := { s.line with window := some { w with slot := w.slot + 1 } } }

/-! ### The line arbiter (R14, R15) -/

/-- An item of work the arbiter may choose. -/
inductive Work where
  | latch (epoch : Byte)
  | resyncPoll (p : Ped)
  | openSlot (n : Conn)
  | decrease (n : Conn)
  | agedPoll (p : Ped)
  | head (p : Ped) (e : QueueEntry)
  | setpoint (w : SetpointWork)
  | duePoll (p : Ped)
  | rollCall
  deriving DecidableEq, Repr

/-- Whether pedestal p's poll is due (R15). -/
def State.pollDue (s : State) (p : Ped) : Bool :=
  (s.ped p).link == .active && (s.ped p).nextPoll.any fun d => d ≤ s.clock.ms

/-- Whether pedestal p's poll is aged (R15). -/
def State.pollAged (s : State) (p : Ped) : Bool :=
  (s.ped p).link == .active && (s.ped p).nextPoll.any fun d => d + 2 * s.line.pollPeriod ≤ s.clock.ms

/-- The pedestals in round-robin order, starting after the last one served. -/
def roundRobin (last : Ped) : List Ped := allPeds.map fun i => last + 1 + i

/-- Class 2 work of one connector (R14): the resync poll at connector A's place, then OPEN, then decrease. -/
def State.class2At (s : State) (n : Conn) : Option Work :=
  let p := pedOf n
  if (s.ped p).link = .unconfigured ∨ (s.ped p).link = .unreachable then none
  else if (s.ped p).resync then (if letterOf n = .a then some (.resyncPoll p) else none)
  else if (s.slots n).openSet then some (.openSlot n)
  else if (s.slots n).decSet then some (.decrease n)
  else none

/-- Class 3 work of one pedestal (R14): an aged poll before the queue head. -/
def State.class3At (s : State) (p : Ped) : Option Work :=
  if s.mayStart p then
    if s.pollAged p then some (.agedPoll p)
    else
      match (s.ped p).queue with
      | e :: _ => some (.head p e)
      | [] => none
  else none

/-- Class 5 work of one pedestal (R14). -/
def State.class5At (s : State) (p : Ped) : Option Work :=
  if s.mayStart p && s.pollDue p && !s.pollAged p then some (.duePoll p) else none

/-- Whether the line is free (R8). -/
def State.lineFree (s : State) : Bool := s.line.inflight.isNone && s.line.window.isNone

/-- The arbiter's choice over the six classes (R14). -/
def State.arbitrate (s : State) : Option Work :=
  (s.line.pendingLatch.map .latch).orElse fun _ =>
  (allConns.findSome? s.class2At).orElse fun _ =>
  ((roundRobin s.line.pointer3).findSome? s.class3At).orElse fun _ =>
  (s.setpointWork.map .setpoint).orElse fun _ =>
  ((roundRobin s.line.pointer5).findSome? s.class5At).orElse fun _ =>
  if s.rollCallDue then some .rollCall else none

/-- What the arbiter starts now: its choice on a free line (R8, R14). -/
def State.nextWork (s : State) : Option Work := if s.lineFree then s.arbitrate else none

/-- Starts a transaction with its first attempt (R8); the send time is the moment it starts (DEDUCED, unsafe:
notes/assumptions/29.md). -/
def State.startTxn (target : Option Ped) (k : TxnKind) (o : Originator) (s : State) : State :=
  s.setInflight (some
    { target := target
      kind := k
      originator := o
      attempt := 1
      deadline := s.clock.ms + s.line.replyTimeout
      discarded := false
      sentAt := s.clock.ms
      setAgain := false
      frame := txnFrame target (match target with
        | some p => (s.ped p).disposition
        | none => .none) k })

/-- Records the last pedestal served in class 3. -/
def State.served3 (p : Ped) (s : State) : State := { s with line := { s.line with pointer3 := p } }

/-- Records the last pedestal served in class 5. -/
def State.served5 (p : Ped) (s : State) : State := { s with line := { s.line with pointer5 := p } }

/-- Starts the head of pedestal p's command queue, which leaves the queue (R16). -/
def State.startHead (p : Ped) (e : QueueEntry) (s : State) : State :=
  ((s.updPed p fun x => { x with queue := x.queue.tail }).served3 p).startTxn (some p) (.queued e.cmd) e.originator

end Sys2Proof.Machine
end

