-- ==== Sys2Proof/Machine/Arbiter.lean ====
section
/-! DEFINITION. The steps of the line arbiter (R8, R14): each starts the transaction it is named for when the arbiter,
on a free line, chooses it, and answers the state unchanged when it does not (DESIGN CHOICE, safe:
notes/assumptions/1.md). And the end of a broadcast (R6, R8). -/

namespace Sys2Proof.Machine

/-- SEND_LATCH: class 1; the pending LATCH is cleared when its sending starts (R14, R18). -/
def execSendLatch (s : State) : Result :=
  match s.nextWork with
  | some (.latch e) =>
    .next (({ s with line := { s.line with pendingLatch := none } }).startTxn none (.latch e) .lineController)
  | _ => .next s

/-- SEND_ROLL_CALL: class 6; the roll-call timer takes the time the broadcast starts (R6, R14). -/
def execSendRollCall (s : State) : Result :=
  match s.nextWork with
  | some .rollCall =>
    .next (({ s with line := { s.line with rollTimer := some s.clock.ms } }).startTxn none .rollCall .lineController)
  | _ => .next s

/-- SEND_POLL: a resync poll (class 2), an aged poll (class 3) or a due poll (class 5) (R14, R15, R19). -/
def execSendPoll (s : State) : Result :=
  match s.nextWork with
  | some (.resyncPoll p) => .next (s.startTxn (some p) .poll .lineController)
  | some (.agedPoll p) => .next ((s.served3 p).startTxn (some p) .poll .lineController)
  | some (.duePoll p) => .next ((s.served5 p).startTxn (some p) .poll .lineController)
  | _ => .next s

/-- SEND_OPEN: an OPEN safety slot, class 2 (R14, R17). -/
def execSendOpen (s : State) : Result :=
  match s.nextWork with
  | some (.openSlot n) => .next (s.startTxn (some (pedOf n)) (.openSlot n) .sequencer)
  | _ => .next s

/-- SEND_DECREASE: a decrease safety slot, class 2, with the slot's value at this moment (R14, R17, R152). -/
def execSendDecrease (s : State) : Result :=
  match s.nextWork with
  | some (.decrease n) =>
    .next (s.startTxn (some (pedOf n)) (.decrease n (s.slots n).decValue (s.holdFor (s.slots n).decValue)) .allocator)
  | _ => .next s

/-- SEND_CLOSE: a CLOSE at the head of a command queue, class 3 (R14, R16); one still waiting for a session that has
turned COMPLETE is sent too (DEDUCED, unsafe: notes/assumptions/35.md). -/
def execSendClose (s : State) : Result :=
  match s.nextWork with
  | some (.head p ⟨.close n, o⟩) => .next (s.startHead p ⟨.close n, o⟩)
  | _ => .next s

/-- SEND_DISPLAY: a DISPLAY at the head of a command queue, class 3 (R14, R16). -/
def execSendDisplay (s : State) : Result :=
  match s.nextWork with
  | some (.head p ⟨.display l k text, o⟩) => .next (s.startHead p ⟨.display l k text, o⟩)
  | _ => .next s

/-- SEND_PASS_DOWN: a PASS_DOWN at the head of a command queue, class 3 (R14, R16). -/
def execSendPassDown (s : State) : Result :=
  match s.nextWork with
  | some (.head p ⟨.passDown l c body, o⟩) => .next (s.startHead p ⟨.passDown l c body, o⟩)
  | _ => .next s

/-- SEND_CLEAR: a CLEAR at the head of a command queue, class 3 (R14, R16, R21). -/
def execSendClear (s : State) : Result :=
  match s.nextWork with
  | some (.head p ⟨.clear, o⟩) => .next (s.startHead p ⟨.clear, o⟩)
  | _ => .next s

/-- The transaction of the Allocator's answer (R152). -/
def State.setpointTxn (s : State) (w : SetpointWork) : TxnKind :=
  if w.increase then .increase w.conn w.value (s.holdFor w.value) else .renewal w.conn w.value (s.holdFor w.value)

/-- SEND_SETPOINT: class 4; the record keeps the value in flight, and an increase makes it INCREASE_SENT
(R14, R152). -/
def execSendSetpoint (s : State) : Result :=
  match s.nextWork with
  | some (.setpoint w) =>
    .next ((s.updSetpoint w.conn fun r =>
      { r with inFlight := some w.value, state := if w.increase then .increaseSent else r.state }).startTxn
        (some (pedOf w.conn)) (s.setpointTxn w) .allocator)
  | _ => .next s

/-- BROADCAST_SENT: a LATCH ends; a ROLL_CALL gives the line to its window (R6, R8). -/
def execBroadcastSent (s : State) : Result :=
  match s.line.inflight with
  | some t =>
    match t.kind, s.line.window with
    | .latch _, _ => .next (s.setInflight none)
    | .rollCall, none => .next s.openWindow
    | _, _ => .next s
  | none => .next s

end Sys2Proof.Machine
end

