-- ==== Sys2Proof/Machine/Layouts.lean ====
section
/-! DEFINITION. The bytes of uplink frames and response payloads (spec/11_frame_and_record_layouts.md 11.3, 11.4,
11.7). -/

namespace Sys2Proof.Machine

/-! ### Fields -/

/-- A wall time of 6 bytes; an absent one is day 0 with second 4,294,967,295 (11). -/
def wallBytes : Option WallTime → Frame
  | some w => be 2 w.day ++ be 4 w.sec
  | none => be 2 0 ++ be 4 4294967295

/-- An optional field of k bytes behind its presence byte (11.7). -/
def optBytes (k : Nat) : Option Nat → Frame
  | some x => 1 :: be k x
  | none => 0 :: be k 0

/-- An optional monotonic time: presence byte and 6 bytes (11.7). -/
def optTime (t : Option Nat) : Frame := optBytes 6 t

/-- A plan slot and revision; an absent slot is 255, with revision 0 (11; DEDUCED, unsafe:
notes/assumptions/16.md). -/
def planBytes : Option (PlanSlot × BitVec 16) → Frame
  | some (k, rev) => byte k :: be 2 rev.toNat
  | none => 255 :: be 2 0

/-- A currency code; an absent one is three zero bytes (DEDUCED, unsafe: notes/assumptions/16.md). -/
def currencyBytes : Option Currency → Frame
  | some c => [c.c0, c.c1, c.c2]
  | none => [0, 0, 0]

/-- A source; an absent one is 255 (11.4). -/
def sourceByte : Option Source → Byte
  | some x => byte x.number
  | none => 255

/-- An end reason; an absent one is 0 (11.4). -/
def reasonByte : Option EndReason → Byte
  | some x => byte x.number
  | none => 0

/-- Four numbers of k bytes, bands 0 to 3. -/
def bandBytes (k : Nat) (t : Table Nat 4) : Frame := t.toList.flatMap (be k)

/-- A settlement record of 87 bytes (11.4). -/
def recordBytes (sequence : Nat) (r : BuiltRecord) : Frame :=
  be 4 sequence ++ [byte r.conn] ++ tokenBytes r.token ++ [sourceByte r.source, byte r.cls] ++ planBytes r.plan
    ++ currencyBytes r.currency ++ wallBytes r.startWall ++ wallBytes r.endWall ++ be 4 r.duration
    ++ be 4 r.energyTotal ++ bandBytes 4 r.bandEnergy ++ be 4 r.energyCost ++ be 4 r.idleMinutes
    ++ be 4 r.idleCost ++ be 4 r.startFee ++ be 4 r.totalCost ++ be 4 r.budget ++ [reasonByte r.endReason, r.flags]

/-- A connector report as a 7-byte connector block (11.2), then the latched epoch and reading, 0 without a latch. -/
def reportBytes : Option ConnReport → Frame
  | none => List.replicate 12 0
  | some r =>
    let bit := fun (b : Bool) (k : Nat) => if b then 2 ^ k else 0
    be 3 (bit r.plugged 23 + bit r.ready 22 + bit r.complete 21 + bit r.latch.isSome 20
        + r.contact.number * 2 ^ 18 + r.demand * 2 ^ 9 + r.power)
      ++ be 4 r.reading.toNat
      ++ (match r.latch with
        | some (e, l) => e :: be 4 l.toNat
        | none => List.replicate 5 0)

/-- Default plans of a pedestal in one byte: A in bits 7 to 4, B in bits 3 to 0 (11.6). -/
def plansByte (c : PedConfig) : Byte := byte (c.planA.val * 16 + c.planB.val)

/-- An event set as two bytes (11.3). -/
def eventBytes (e : EventSet) : Frame := be 2 e.toNat

/-! ### Response payloads (11.7) -/

/-- The entry of pedestal p as it is read: an UNCONFIGURED one with its power-on values (R24). -/
def State.shownPed (s : State) (p : Ped) : Pedestal :=
  if (s.ped p).link = .unconfigured then Pedestal.initial else s.ped p

/-- The pass-through counts of pedestal p as they are read: an UNCONFIGURED one's at their power-on values of 0 (2.6,
R37). -/
def State.shownCounts (s : State) (p : Ped) : PassCounts :=
  if (s.ped p).link = .unconfigured then ⟨0, 0, 0⟩ else s.counts p

/-- READ_PEDESTAL. -/
def State.pedestalPayload (s : State) (p : Ped) : Frame :=
  let e := s.shownPed p
  [flagByte e.configured, (match e.slot with
      | some k => byte k
      | none => 255), byte e.link.number, byte e.failCount, byte e.absentCount]
    ++ be 2 e.checkFails ++ optTime e.lastReply ++ [flagByte e.resync] ++ optTime e.nextPoll
    ++ [byte e.queue.length] ++ optBytes 2 e.available

/-- READ_CLASSES. -/
def State.classesPayload (s : State) : Frame :=
  (s.classifier.actions.toList.map fun a => byte a.number) ++ [byte s.classifier.passUp.length]

/-- READ_PASS_THROUGH. -/
def State.passThroughPayload (s : State) (p : Ped) : Frame :=
  let c := s.shownCounts p
  be 2 c.held ++ be 2 c.downAcked ++ be 2 c.downRefused
    ++ [byte (s.classifier.passUp.countP fun e => e.ped == p)]

/-- READ_CONNECTOR. -/
def State.connectorPayload (s : State) (n : Conn) : Frame :=
  let r := s.seq n
  let x := s.setpoint n
  [byte r.contactor.number, byte r.attempt] ++ optTime r.settleDeadline
    ++ [flagByte r.openPending, flagByte r.openAcked, byte r.repliesSinceOpen, byte r.idleCount, flagByte r.released,
      byte r.restCount, byte ((if r.locks.host then 1 else 0) + (if r.locks.switch then 2 else 0)),
      byte (faultNumbers r.fault).1, byte (faultNumbers r.fault).2, flagByte s.sequencer.parkStop,
      flagByte (s.report n).isSome]
    ++ reportBytes (s.report n) ++ be 2 x.demand ++ be 2 x.target ++ be 2 x.grant ++ optTime x.holdExpiry
    ++ [byte x.state.number]

/-- READ_AUTH; an absent last decision is eight zero bytes, its time among them (DESIGN CHOICE, unsafe:
notes/assumptions/34.md). -/
def State.authPayload (s : State) : Frame :=
  [byte s.auth.held.length]
    ++ (s.auth.held.flatMap fun h =>
      [byte h.conn, h.tag] ++ tokenBytes (some h.token) ++ [byte h.reason.number] ++ be 6 h.deadline
        ++ [flagByte h.sent])
    ++ [s.auth.nextTag, byte s.auth.queryTimeout, flagByte s.auth.offlineAccept] ++ be 4 s.auth.offlineLimit
    ++ (s.auth.decisions.toList.flatMap fun d =>
      match d with
      | some d => [byte d.kind.numbers.1, byte d.kind.numbers.2] ++ be 6 d.at_
      | none => List.replicate 8 0)

/-- The place of a connector on the closed-waiting list, counted from 1 at the head (R99). -/
def State.waitingPlace (s : State) (n : Conn) : Nat := s.sessions.waiting.findIdx (· == n) + 1

/-- READ_SESSION. -/
def State.sessionPayload (s : State) (n : Conn) : Frame :=
  let e := s.sess n
  [byte e.state.number] ++ tokenBytes e.token ++ [sourceByte e.source, byte e.cls] ++ planBytes e.plan
    ++ be 4 e.budget ++ be 4 e.threshold ++ be 4 e.running ++ optBytes 1 (e.lateTag.map (·.toNat))
    ++ wallBytes e.startWall ++ optTime e.startSec ++ optTime e.readyDeadline ++ optTime e.stopDeadline
    ++ [flagByte e.plugSeen]
    ++ (match e.baseline with
      | some (b, t) => 1 :: (be 4 b.toNat ++ be 6 t)
      | none => List.replicate 11 0)
    ++ [e.lastEpoch] ++ be 8 e.energyTotal ++ bandBytes 8 e.bandEnergy ++ be 8 e.costAcc ++ be 4 e.startFee
    ++ be 8 e.idleMinutes ++ be 8 e.idleCost ++ [byte e.grace, reasonByte e.endReason, e.flags]
    ++ (match e.state, e.record with
      | .closed, some r => byte (s.waitingPlace n) :: recordBytes 0 r
      | _, _ => [])

/-- The plan payload of a slot (11.4). -/
def planPayload (k : PlanSlot) (c : PlanContents) : Frame :=
  [byte k] ++ currencyBytes c.currency ++ be 4 c.startFee ++ bandBytes 4 c.energyPrice ++ bandBytes 2 c.idlePrice
    ++ [byte c.grace]

/-- READ_PLAN. -/
def State.planReadPayload (s : State) (k : PlanSlot) : Frame :=
  let p := s.plan k
  [flagByte p.loaded] ++ be 2 p.revision.toNat ++ [byte p.useCount] ++ planPayload k p.contents

/-- READ_CLOCK: the ring as the pairs of the current epoch minus 7 up to the current epoch (R117). -/
def State.clockPayload (s : State) : Frame :=
  let c := s.clock
  wallBytes c.wall ++ be 6 c.ms ++ be 6 s.sec ++ [byte c.schedule.length]
    ++ (c.schedule.flatMap fun b => be 2 b.minute ++ [byte b.band])
    ++ [byte c.band, c.epoch]
    ++ ((List.range 8).flatMap fun i =>
      let e : Byte := c.epoch - 7 + BitVec.ofNat 8 i
      [e, byte (ringBand c e)])

/-- READ_ALLOCATION. -/
def State.allocationPayload (s : State) : Frame :=
  let a := s.alloc
  be 2 a.baseLimit
    ++ (match a.curtailment with
      | some c => 1 :: (be 2 c.limit ++ be 6 c.deadline)
      | none => List.replicate 9 0)
    ++ be 2 s.effLimit ++ [byte a.hysteresis, byte a.hold, byte a.renew] ++ be 2 a.available
    ++ be 2 s.committedSum ++ be 2 s.fixedSum
    ++ (a.configs.toList.flatMap fun c =>
      be 2 c.limit ++ be 2 c.ratingA ++ be 2 c.ratingB ++ [byte c.failsafeA, byte c.failsafeB, plansByte c]
        ++ be 2 c.limitUsed)
    ++ (a.setpoints.toList.flatMap fun x => flagByte x.participant :: optBytes 2 x.inFlight)

/-- The byte of the uplink's link state: 0 ONLINE, 1 OFFLINE (11.7). -/
def linkByte : UplinkLink → Byte
  | .online => 0
  | .offline => 1

/-- READ_UPLINK. -/
def State.uplinkPayload (s : State) : Frame :=
  let u := s.uplink
  [linkByte u.link]
    ++ be 2 u.silenceTime ++ optTime u.silenceDeadline ++ [byte u.responses.length] ++ be 2 u.checkFails
    ++ be 2 u.framingErrors ++ be 2 u.overruns ++ be 4 u.requestsTaken.toNat
    ++ [flagByte s.attention, flagByte u.noticePending]

/-! ### Uplink frames (11.3) -/

/-- An uplink frame: kind, host tag, declared length, payload, check word. -/
def uplinkFrame (kind tag : Byte) (payload : Frame) : Frame :=
  withCheck (kind :: tag :: be 2 (payload.length + 6) ++ payload)

/-- The bytes of an outbound frame; an unsolicited frame carries host tag 0. -/
def OutFrame.bytes : OutFrame → Frame
  | .response r => uplinkFrame r.kind r.tag (byte r.code.number :: r.payload)
  | .notice p e => uplinkFrame 240 0 (eventBytes p ++ eventBytes e)
  | .query h =>
    uplinkFrame 241 0 ([byte h.conn, h.tag] ++ tokenBytes (some h.token) ++ [byte h.reason.number])
  | .passUp e _ =>
    uplinkFrame 242 0 ([byte (e.ped.val + 1), Letter.optByte e.letter, byte e.code] ++ e.payload)

end Sys2Proof.Machine
end

