-- ==== Sys2Proof/Machine/UplinkPort.lean ====
section
/-! DEFINITION. The Uplink Port's shared operations: frames from the host (R170 to R172), answering (R171), and the
transmitter's choice (R174). -/

namespace Sys2Proof.Machine

/-- What an owner answers to a request: a result code and a response payload (R171). -/
structure Reply where
  code : ResultCode
  payload : Frame
  deriving DecidableEq, Repr

/-- A reply without a payload. -/
def Reply.bare (c : ResultCode) : Reply := ⟨c, []⟩

/-- OK with a payload. -/
def Reply.ok (payload : Frame) : Reply := ⟨.ok, payload⟩

/-- CLAMPED when a value was forced, OK otherwise. -/
def Reply.forced (c : Bool) : Reply := Reply.bare (if c then .clamped else .ok)

/-- A counted framing error (R170). -/
def State.framingError (s : State) : State :=
  (s.updUplink fun u => { u with framingErrors := satInc u.framingErrors }).raise .linkErrors

/-- A counted check failure of the uplink (R170). -/
def State.uplinkCheckFailed (s : State) : State :=
  (s.updUplink fun u => { u with checkFails := satInc u.checkFails }).raise .linkErrors

/-- A counted overrun (R171). -/
def State.overrun (s : State) : State :=
  (s.updUplink fun u => { u with overruns := satInc u.overruns }).raise .linkErrors

/-- A good frame makes the link ONLINE and sets the silence deadline (R172). -/
def State.goodFrame (s : State) : State :=
  s.updUplink fun u => { u with link := .online, silenceDeadline := some (s.sec + u.silenceTime) }

/-- Counts a request taken; the count wraps (R169, R171). -/
def State.countRequest (s : State) : State :=
  s.updUplink fun u => { u with requestsTaken := u.requestsTaken + 1 }

/-- Appends a response at the tail of the response queue (R171). -/
def State.respond (kind tag : Byte) (r : Reply) (s : State) : State :=
  s.updUplink fun u => { u with responses := u.responses ++ [⟨kind, tag, r.code, r.payload⟩] }

/-- Whether the response queue has room for another response (R171). -/
def State.responseRoom (s : State) : Bool := s.uplink.responses.length < Config.responseSize

/-- A good frame arrives from the host, with a payload and what its owner makes of it (R170 to R172): the link is
ONLINE, and the frame is taken and answered under a response kind, or is an overrun. A payload too long for a frame is
a framing error. -/
def State.takeFrame (answerKind tag : Byte) (payload : Frame) (owner : State → State × Reply) (s : State) : State :=
  if maxPayload < payload.length then s.framingError
  else if s.goodFrame.responseRoom then
    let r := owner s.goodFrame.countRequest
    r.1.respond answerKind tag r.2
  else s.goodFrame.overrun

/-- A request of catalogue place `place` (10.6, 11.3). -/
def State.takeRequest (place : Nat) (tag : Byte) (payload : Frame) (owner : State → State × Reply) (s : State) : State :=
  s.takeFrame (byte (place + 128)) tag payload owner

/-- An owner refuses: no state changes. -/
def refuseWith (c : ResultCode) (s : State) : State × Reply := (s, Reply.bare c)

/-- An owner whose request has no operands: BAD_REQUEST unless the payload is empty. -/
def noOperands (payload : Frame) (f : State → State × Reply) (s : State) : State × Reply :=
  if payload.isEmpty then f s else refuseWith .badRequest s

/-- An owner that only reads the state. -/
def readOwner (read : State → Frame) (s : State) : State × Reply := (s, Reply.ok (read s))

/-- An owner whose one operand is a connector index (11.6). -/
def connOperand (payload : Frame) (f : Conn → State → State × Reply) (s : State) : State × Reply :=
  match payload with
  | [b] =>
    match indexByte 48 b with
    | some n => f n s
    | none => refuseWith .badIndex s
  | _ => refuseWith .badRequest s

/-- An owner whose one operand is a pedestal number (11.6). -/
def pedOperand (payload : Frame) (f : Ped → State → State × Reply) (s : State) : State × Reply :=
  match payload with
  | [b] =>
    match pedByte b with
    | some p => f p s
    | none => refuseWith .badIndex s
  | _ => refuseWith .badRequest s

/-- An owner whose one operand is a plan slot (11.6). -/
def slotOperand (payload : Frame) (f : PlanSlot → State → State × Reply) (s : State) : State × Reply :=
  match payload with
  | [b] =>
    match indexByte 16 b with
    | some k => f k s
    | none => refuseWith .badIndex s
  | _ => refuseWith .badRequest s

/-! ### The transmitter (R174) -/

/-- What the transmitter may start. -/
inductive Outbound where
  | notice
  | response (r : Response)
  | query (h : HeldEntry)
  | passUp (e : PassUpEntry)
  deriving DecidableEq, Repr

/-- The oldest held entry whose query is unsent (R65). -/
def State.unsentQuery (s : State) : Option HeldEntry := s.auth.held.find? fun h => !h.sent

/-- The first outbound frame that may start, in the order of R174. -/
def State.outbound (s : State) : Option Outbound :=
  if s.uplink.noticePending then some .notice
  else
    match s.uplink.responses with
    | r :: _ => some (.response r)
    | [] =>
      match s.uplink.link with
      | .offline => none
      | .online =>
        match s.unsentQuery with
        | some h => some (.query h)
        | none => s.classifier.passUp.head?.map .passUp

/-- What the transmitter starts now: its choice while it is free (R174). -/
def State.nextOutbound (s : State) : Option Outbound := if s.uplink.sending.isNone then s.outbound else none

/-- The transmitter starts a frame. -/
def State.startFrame (f : OutFrame) (s : State) : State := s.updUplink fun u => { u with sending := some f }

/-- The transmitter is free again. -/
def State.endFrame (s : State) : State := s.updUplink fun u => { u with sending := none }

end Sys2Proof.Machine
end

