-- ==== Sys2Proof/Machine/Clock.lean ====
section
/-! DEFINITION. The Band Clock's shared operations: the band in force (R113), the boundary event (R114), the history
ring (R115). -/

namespace Sys2Proof.Machine

/-- The band a schedule puts in force at a minute of day: that of the last boundary at or before it, else that of the
schedule's last boundary; band 0 for an empty schedule (R113; DEDUCED, unsafe: notes/assumptions/28.md). -/
def scheduleBand (schedule : List Boundary) (minute : Nat) : Band :=
  match (schedule.filter fun b => b.minute ≤ minute).getLast? with
  | some b => b.band
  | none =>
    match schedule.getLast? with
    | some b => b.band
    | none => 0

/-- The band in force (R113). -/
def ClockState.bandInForce (c : ClockState) : Band :=
  match c.wall with
  | none => 0
  | some w => scheduleBand c.schedule (w.sec / 60)

/-- The epoch advances by one, the ring records the current band for it, and its LATCH is requested
(R114 steps 1 to 3, R115, R116). -/
def State.nextEpoch (s : State) : State :=
  let e := s.clock.epoch + 1
  ({ s with clock :=
    { s.clock with epoch := e, ring := tset s.clock.ring (ringPlace e) s.clock.band } }).requestLatch e

/-- A test that finds band b in force, with the boundary event it may bring (R113, R114). -/
def State.takeBand (b : Band) (s : State) : State :=
  if b = s.clock.band then s
  else ({ s with clock := { s.clock with band := b } }).nextEpoch.raise .bandChanged

/-- The test of the band in force at the wall clock's own minute of day (R113). -/
def State.testBand (s : State) : State := s.takeBand s.clock.bandInForce

/-- The oldest of the last k minutes of day that a wall clock entered, its own among them: k - 1 minutes before it. -/
def WallTime.oldestMinute (k : Nat) (w : WallTime) : Nat := (w.sec / 60 + 1439 * k + 1) % 1440

/-- The oldest minute test still due is taken (R110, R113). -/
def State.testDueMinute (s : State) : State :=
  match s.clock.wall, s.clock.minutesDue with
  | some w, k + 1 =>
    ({ s with clock := { s.clock with minutesDue := k } }).takeBand
      (scheduleBand s.clock.schedule (w.oldestMinute (k + 1)))
  | some _, 0 => s
  | none, _ => s

/-- The minute tests that are due, as many as the count, oldest first. -/
def State.testDueMinutes : Nat → State → State
  | 0, s => s
  | k + 1, s => s.testDueMinute.testDueMinutes k

/-- All minute tests still due are taken: they belong to advances of the clock before this event (R110, R113). -/
def State.settleMinutes (s : State) : State := s.testDueMinutes s.clock.minutesDue

end Sys2Proof.Machine
end

