-- ==== Sys2Proof/Machine/AuthRequests.lean ====
section
/-! DEFINITION. The requests of spec/04_tokens_and_authorization.md: SET_AUTH_POLICY (R76), LOAD_TOKENS, LOAD_WATCH and
CLEAR_TOKENS (R77), READ_TOKEN and READ_AUTH (R78), AUTH_ANSWER (R70), REMOTE_START (R75). -/

namespace Sys2Proof.Machine

/-- The owner of SET_AUTH_POLICY (R76). -/
def ownSetAuthPolicy (payload : Frame) (s : State) : State × Reply :=
  match payload with
  | [t, o, l3, l2, l1, l0] =>
    match boolByte o with
    | none => refuseWith .badRequest s
    | some accept =>
      let timeout := clamp 1 30 t.toNat
      ({ s with auth :=
        { s.auth with queryTimeout := timeout, offlineAccept := accept, offlineLimit := num [l3, l2, l1, l0] } },
        Reply.forced (timeout != t.toNat))
  | _ => refuseWith .badRequest s

/-- SET_AUTH_POLICY (R76). -/
def execSetAuthPolicy (tag : Byte) (payload : Frame) (s : State) : Result :=
  .next (s.takeRequest 17 tag payload (ownSetAuthPolicy payload))

/-- Writes entries from an index on, until the list or the table ends; answers the entries left (R77). -/
def writeEntries : List (Option TokenEntry) → Nat → Table (Option TokenEntry) 512 → Table (Option TokenEntry) 512 × Nat
  | [], _, t => (t, 0)
  | e :: es, i, t =>
    if h : i < 512 then writeEntries es (i + 1) (tset t ⟨i, h⟩ e) else (t, (e :: es).length)

/-- Writes a load of good form, and answers how many entries were written (R77). -/
def State.loadEntries (first : Nat) (es : List (Option TokenEntry)) (s : State) : State × Reply :=
  let r := writeEntries es first s.auth.tokens
  ({ s with auth := { s.auth with tokens := r.1 } },
    ⟨if r.2 = 0 then .ok else .badIndex, [byte (es.length - r.2)]⟩)

/-- The owner of LOAD_TOKENS (R77). -/
def ownLoadTokens (payload : Frame) (s : State) : State × Reply :=
  match payload with
  | i1 :: i0 :: count :: rest =>
    if 1 ≤ count.toNat ∧ count.toNat ≤ 8 ∧ rest.length = 20 * count.toNat then
      match (chunks 20 count.toNat rest).mapM parseEntry with
      | some es => s.loadEntries (num [i1, i0]) es
      | none => refuseWith .badRequest s
    else refuseWith .badRequest s
  | _ => refuseWith .badRequest s

/-- LOAD_TOKENS (R77). -/
def execLoadTokens (tag : Byte) (payload : Frame) (s : State) : Result :=
  .next (s.takeRequest 18 tag payload (ownLoadTokens payload))

/-- The owner of LOAD_WATCH (R77). -/
def ownLoadWatch (payload : Frame) (s : State) : State × Reply :=
  match payload with
  | seg :: bits =>
    if bits.length = 16 then
      match indexByte 8 seg with
      | some k =>
        ({ s with auth := { s.auth with watch := tset s.auth.watch k (segmentOf bits) } }, Reply.bare .ok)
      | none => refuseWith .badIndex s
    else refuseWith .badRequest s
  | [] => refuseWith .badRequest s

/-- LOAD_WATCH (R77). -/
def execLoadWatch (tag : Byte) (payload : Frame) (s : State) : Result :=
  .next (s.takeRequest 19 tag payload (ownLoadWatch payload))

/-- The owner of CLEAR_TOKENS (R77). -/
def ownClearTokens (s : State) : State × Reply :=
  ({ s with auth := { s.auth with tokens := Vector.replicate 512 none } }, Reply.bare .ok)

/-- CLEAR_TOKENS (R77). -/
def execClearTokens (tag : Byte) (payload : Frame) (s : State) : Result :=
  .next (s.takeRequest 20 tag payload (noOperands payload ownClearTokens))

/-- The owner of READ_TOKEN (R78). -/
def ownReadToken (payload : Frame) (s : State) : State × Reply :=
  match payload with
  | [i1, i0] =>
    if h : num [i1, i0] < 512 then (s, Reply.ok (entryBytes (tget s.auth.tokens ⟨num [i1, i0], h⟩)))
    else refuseWith .badIndex s
  | _ => refuseWith .badRequest s

/-- READ_TOKEN (R78). -/
def execReadToken (tag : Byte) (payload : Frame) (s : State) : Result :=
  .next (s.takeRequest 21 tag payload (ownReadToken payload))

/-- READ_AUTH (R78). -/
def execReadAuth (tag : Byte) (payload : Frame) (s : State) : Result :=
  .next (s.takeRequest 22 tag payload (noOperands payload (readOwner State.authPayload)))

/-- A verdict byte: 0 ACCEPT, 1 REJECT (11.6). -/
def verdictByte (b : Byte) : Option Bool :=
  if b = 0 then some true else if b = 1 then some false else none

/-- The owner of AUTH_ANSWER (R70). -/
def ownAuthAnswer (payload : Frame) (s : State) : State × Reply :=
  match payload with
  | [n, tag, verdict, b3, b2, b1, b0, cls, plan] =>
    match indexByte 48 n, optSlotByte plan with
    | some n, some plan =>
      match verdictByte verdict, indexByte 4 cls with
      | some accept, some cls =>
        let r := s.takeAnswer ⟨n, tag, accept, num [b3, b2, b1, b0], cls, plan⟩
        (r.1, Reply.ok [byte r.2.number])
      | _, _ => refuseWith .badRequest s
    | _, _ => refuseWith .badIndex s
  | _ => refuseWith .badRequest s

/-- AUTH_ANSWER (R70, R72). -/
def execAuthAnswer (tag : Byte) (payload : Frame) (s : State) : Result :=
  .next (s.takeRequest 23 tag payload (ownAuthAnswer payload))

/-- The token operand of REMOTE_START: kind 0 is absent (11.6); the outer absence is a malformed token (R75;
DEDUCED, unsafe: notes/assumptions/11.md). -/
def tokenOperand : Frame → Option (Option Token)
  | kind :: len :: id => if kind = 0 then some none else (makeToken kind len id).map some
  | _ => none

/-- The checks of R75 from the third on, and the start. -/
def State.remoteStart (n : Conn) (budget : Nat) (cls : ClassNo) (plan : Option PlanSlot) (token : Option Token)
    (s : State) : State × Reply :=
  if s.linkOf n = .unconfigured then refuseWith .wrongState s
  else if (s.sess n).state ≠ .empty then refuseWith .wrongState s
  else if !(s.seq n).locks.isEmpty || (s.seq n).contactor == .faulted then refuseWith .wrongState s
  else
    let k := s.choosePlan n none plan
    if (s.plan k).loaded then (s.accept n ⟨token, .remote, cls, budget, k, none⟩, Reply.bare .ok)
    else (s.decide n (.refused .noTariff), Reply.bare .empty)

/-- The owner of REMOTE_START (R75). -/
def ownRemoteStart (payload : Frame) (s : State) : State × Reply :=
  match payload with
  | n :: b3 :: b2 :: b1 :: b0 :: cls :: plan :: token =>
    if token.length = 12 then
      match indexByte 48 n, optSlotByte plan with
      | some n, some plan =>
        match indexByte 4 cls, tokenOperand token with
        | some cls, some token => s.remoteStart n (num [b3, b2, b1, b0]) cls plan token
        | _, _ => refuseWith .badRequest s
      | _, _ => refuseWith .badIndex s
    else refuseWith .badRequest s
  | _ => refuseWith .badRequest s

/-- REMOTE_START (R75). -/
def execRemoteStart (tag : Byte) (payload : Frame) (s : State) : Result :=
  .next (s.takeRequest 24 tag payload (ownRemoteStart payload))

end Sys2Proof.Machine
end

