-- ==== Sys2Proof/Machine/ClassifierRequests.lean ====
section
/-! DEFINITION. The requests of spec/02_message_classes_and_pass_through.md: SET_CLASS (R33), PASS_DOWN (R34), DISPLAY
(R35), READ_CLASSES and READ_PASS_THROUGH (R37). -/

namespace Sys2Proof.Machine

/-- An action byte of SET_CLASS (11.6). -/
def actionByte (b : Byte) : Option Action :=
  if b = 0 then some .toOwner
  else if b = 1 then some .up
  else if b = 2 then some .toOwnerAndUp
  else if b = 3 then some .drop
  else none

/-- Whether a code is one of the four that have an owner (R27). -/
def definedCode (c : Code) : Bool := 1 ≤ c.val && c.val ≤ 4

/-- Whether an action hands a message to its owner. -/
def Action.isLocal : Action → Bool
  | .toOwner | .toOwnerAndUp => true
  | .up | .drop => false

/-- The owner of SET_CLASS (R33). -/
def ownSetClass (payload : Frame) (s : State) : State × Reply :=
  match payload with
  | [code, action] =>
    match indexByte 64 code, actionByte action with
    | none, _ => refuseWith .badIndex s
    | some _, none => refuseWith .badRequest s
    | some c, some a =>
      if a.isLocal && !definedCode c then refuseWith .badRequest s
      else
        ({ s with classifier := { s.classifier with actions := tset s.classifier.actions c a } }, Reply.bare .ok)
  | _ => refuseWith .badRequest s

/-- SET_CLASS (R33). -/
def execSetClass (tag : Byte) (payload : Frame) (s : State) : Result :=
  .next (s.takeRequest 5 tag payload (ownSetClass payload))

/-- Offers a host command to pedestal p's queue; the queue decides the result (R34, R16). -/
def offerDown (p : Ped) (c : QueueCmd) (s : State) : State × Reply :=
  if (s.ped p).link = .unconfigured then refuseWith .wrongState s
  else if s.queueTakes p then (s.enqueue p ⟨c, .classifier⟩, Reply.bare .ok)
  else refuseWith .full s

/-- The owner of PASS_DOWN (R34). -/
def ownPassDown (payload : Frame) (s : State) : State × Reply :=
  match payload with
  | p :: letter :: code :: len :: body =>
    match pedByte p, indexByte 64 code with
    | some p, some c =>
      match letterByte letter with
      | some l =>
        if 40 < len.toNat || body.length != len.toNat then refuseWith .badRequest s
        else offerDown p (.passDown l c body) s
      | none => refuseWith .badRequest s
    | _, _ => refuseWith .badIndex s
  | _ => refuseWith .badRequest s

/-- PASS_DOWN (R34). -/
def execPassDown (tag : Byte) (payload : Frame) (s : State) : Result :=
  .next (s.takeRequest 6 tag payload (ownPassDown payload))

/-- The owner of DISPLAY (R35). -/
def ownDisplay (payload : Frame) (s : State) : State × Reply :=
  match payload with
  | p :: letter :: len :: text =>
    match pedByte p with
    | some p =>
      match letterByte letter with
      | some l =>
        if 40 < len.toNat || text.length != len.toNat then refuseWith .badRequest s
        else offerDown p (.display l .text text) s
      | none => refuseWith .badRequest s
    | none => refuseWith .badIndex s
  | _ => refuseWith .badRequest s

/-- DISPLAY (R35). -/
def execDisplay (tag : Byte) (payload : Frame) (s : State) : Result :=
  .next (s.takeRequest 7 tag payload (ownDisplay payload))

/-- READ_CLASSES (R37). -/
def execReadClasses (tag : Byte) (payload : Frame) (s : State) : Result :=
  .next (s.takeRequest 8 tag payload (noOperands payload (readOwner State.classesPayload)))

/-- READ_PASS_THROUGH (2.6, R37). -/
def execReadPassThrough (tag : Byte) (payload : Frame) (s : State) : Result :=
  .next (s.takeRequest 9 tag payload (pedOperand payload fun p => readOwner fun s => s.passThroughPayload p))

end Sys2Proof.Machine
end

