-- ==== Sys2Proof/Machine/LineRequests.lean ====
section
/-! DEFINITION. The requests of spec/01_the_park_line.md: SET_PEDESTAL (R3, R141), SET_LINE_TIMING (R4),
CLEAR_PEDESTAL (R21, R57, R73, R102, R160) and READ_PEDESTAL (R24). -/

namespace Sys2Proof.Machine

/-! ### SET_PEDESTAL -/

/-- The operands of SET_PEDESTAL with present yes, as carried (11.6). -/
structure PedestalFields where
  slot : Byte
  limit : Nat
  ratingA : Nat
  ratingB : Nat
  failsafeA : Nat
  failsafeB : Nat
  plans : Byte
  deriving DecidableEq, Repr

/-- The configuration a SET_PEDESTAL gives, each power field forced into range (R141); the limit used is kept. -/
def PedestalFields.config (f : PedestalFields) (c : PedConfig) : PedConfig where
  limit := min f.limit 600
  ratingA := min f.ratingA 400
  ratingB := min f.ratingB 400
  failsafeA := min f.failsafeA 50
  failsafeB := min f.failsafeB 50
  planA := ⟨f.plans.toNat / 16, by have := f.plans.isLt; omega⟩
  planB := ⟨f.plans.toNat % 16, by omega⟩
  limitUsed := c.limitUsed

/-- Whether a power field was forced (R141). -/
def PedestalFields.forced (f : PedestalFields) : Bool :=
  600 < f.limit || 400 < f.ratingA || 400 < f.ratingB || 50 < f.failsafeA || 50 < f.failsafeB

/-- Whether a field that calls for a pass has changed (R141, R146). -/
def PedConfig.powerChanged (c d : PedConfig) : Bool :=
  c.limit != d.limit || c.ratingA != d.ratingA || c.ratingB != d.ratingB || c.failsafeA != d.failsafeA
    || c.failsafeB != d.failsafeB

/-- Whether another configured pedestal holds a roll-call slot (R3). -/
def State.slotTaken (s : State) (p : Ped) (k : Fin 24) : Bool :=
  allPeds.any fun q => q != p && (s.ped q).configured && (s.ped q).slot == some k

/-- The entry a SET_PEDESTAL with present yes leaves (R3). -/
def Pedestal.configure (k : Fin 24) (e : Pedestal) : Pedestal :=
  if e.configured then { e with slot := some k }
  else
    { e with
      configured := true
      slot := some k
      link := .probing
      failCount := 0
      absentCount := 0
      checkFails := 0
      resync := false }

/-- Makes pedestal p present (R3, R141). -/
def State.setPresent (p : Ped) (k : Fin 24) (f : PedestalFields) (s : State) : State :=
  let was := (s.ped p).configured
  let old := s.config p
  let s := (s.updPed p (Pedestal.configure k)).updConfig p f.config
  if was && old.powerChanged (s.config p) then s.pass else s

/-- Whether a connector keeps its pedestal from being made absent (R3). -/
def State.inUse (s : State) (n : Conn) : Bool :=
  (s.sess n).state != .empty || (s.seq n).contactor != .opened

/-- Makes pedestal p absent: its own state returns to its power-on values (R3, R20, R22, R38, R141). -/
def State.setAbsent (p : Ped) (s : State) : State :=
  let s := (s.discardInflight (· == p)).updPed p fun _ => Pedestal.initial
  let s := (s.emptySlots p).updCounts p fun _ => ⟨0, 0, 0⟩
  let s := s.updConfig p fun _ => PedConfig.initial
  (connsOf p).foldl (fun s n => s.updSetpoint n fun _ => Setpoint.initial) s

/-- SET_PEDESTAL with present yes. -/
def ownPresent (b : Byte) (f : PedestalFields) (s : State) : State × Reply :=
  match pedByte b, indexByte 24 f.slot with
  | some p, some k =>
    if s.slotTaken p k then refuseWith .inUse s
    else (s.setPresent p k f, Reply.forced f.forced)
  | _, _ => refuseWith .badIndex s

/-- SET_PEDESTAL with present no. -/
def ownAbsent (b : Byte) (s : State) : State × Reply :=
  match pedByte b with
  | some p =>
    if (connsOf p).any s.inUse then refuseWith .inUse s
    else (if (s.ped p).configured then s.setAbsent p else s, Reply.bare .ok)
  | none => refuseWith .badIndex s

/-- The owner of SET_PEDESTAL: the form first, then the checks of R3 (DEDUCED, unsafe: notes/assumptions/9.md). -/
def ownSetPedestal (payload : Frame) (s : State) : State × Reply :=
  match payload with
  | [p, present] => if present = 0 then ownAbsent p s else refuseWith .badRequest s
  | [p, present, slot, l1, l0, a1, a0, b1, b0, fa, fb, plans] =>
    if present = 1 then
      ownPresent p ⟨slot, num [l1, l0], num [a1, a0], num [b1, b0], fa.toNat, fb.toNat, plans⟩ s
    else refuseWith .badRequest s
  | _ => refuseWith .badRequest s

/-- SET_PEDESTAL (R3, R141). -/
def execSetPedestal (tag : Byte) (payload : Frame) (s : State) : Result :=
  .next (s.takeRequest 1 tag payload (ownSetPedestal payload))

/-! ### SET_LINE_TIMING -/

/-- The owner of SET_LINE_TIMING (R4). -/
def ownSetLineTiming (payload : Frame) (s : State) : State × Reply :=
  match payload with
  | [r, p1, p0, c] =>
    let reply := clamp 2 100 r.toNat
    let poll := clamp 200 5000 (num [p1, p0])
    let roll := clamp 1 30 c.toNat
    ({ s with line := { s.line with replyTimeout := reply, pollPeriod := poll, rollPeriod := roll } },
      Reply.forced (reply != r.toNat || poll != num [p1, p0] || roll != c.toNat))
  | _ => refuseWith .badRequest s

/-- SET_LINE_TIMING (R4). -/
def execSetLineTiming (tag : Byte) (payload : Frame) (s : State) : Result :=
  .next (s.takeRequest 2 tag payload (ownSetLineTiming payload))

/-! ### CLEAR_PEDESTAL -/

/-- Whether a close at once of connector n's session carries LINK_LOST (R101, R102). -/
def State.linkLost (s : State) (n : Conn) : Bool :=
  s.linkOf n == .unreachable || (s.ped (pedOf n)).resync

/-- Closes an open session at once, with an end reason for one that was not STOPPING (R101, R102). -/
def State.closeAtOnce (reason : EndReason) (lost : Bool) (n : Conn) (s : State) : State :=
  match (s.sess n).state with
  | .authorized | .charging | .complete =>
    (s.updSess n fun e =>
      { e with endReason := some reason, flags := addFlagIf lost .linkLost e.flags }).closeSession n
  | .stopping => (s.updSess n fun e => { e with flags := addFlagIf lost .linkLost e.flags }).closeSession n
  | .empty | .awaitingAuth | .closed => s

/-- The Line Controller's part of a pedestal clear (R21). -/
def State.clearLine (p : Ped) (s : State) : State :=
  let s := (s.discardInflight (· == p)).updPed p fun e =>
    { e with queue := [], checkFails := 0, disposition := .none }
  (s.emptySlots p).enqueue p ⟨.clear, .lineController⟩

/-- The Connector Sequencer's part at connector n (R57). -/
def State.clearConnector (n : Conn) (s : State) : State :=
  let s := s.updSeq n fun r =>
    { r with
      fault := none
      attempt := 1
      openPending := false
      openAcked := false
      released := false
      settleDeadline := none
      idleCount := 0
      restCount := 0
      repliesSinceOpen := 0 }
  if (s.seq n).contactor = .locked then s
  else if (s.seq n).locks.isEmpty then s.setContactor n .opened
  else (s.setOpenSlot n).enterOpening n

/-- The Power Allocator's part at connector n (R160). -/
def State.clearSetpoint (n : Conn) (s : State) : State :=
  s.updSetpoint n fun r =>
    { r with target := 0, grant := 0, holdExpiry := none, state := .steady, participant := false, inFlight := none }

/-- The Session Table's part at connector n (R102, R73). -/
def State.clearSession (n : Conn) (s : State) : State :=
  if (s.sess n).state = .awaitingAuth then s.withdraw n
  else s.closeAtOnce .pedestalClear (s.linkLost n) n

/-- A pedestal clear of p (R21, R38, R57, R102, R160), in the order of notes/assumptions/18.md (DEDUCED, unsafe). -/
def State.clearPed (p : Ped) (s : State) : State :=
  let s := (s.clearLine p).updCounts p fun _ => ⟨0, 0, 0⟩
  let s := (s.clearConnector (connOf p .a)).clearConnector (connOf p .b)
  let s := (s.clearSetpoint (connOf p .a)).clearSetpoint (connOf p .b)
  (s.clearSession (connOf p .a)).clearSession (connOf p .b)

/-- The owner of CLEAR_PEDESTAL (R21). -/
def ownClearPedestal (p : Ped) (s : State) : State × Reply :=
  if (s.ped p).link = .unconfigured then refuseWith .wrongState s
  else (s.clearPed p, Reply.bare .ok)

/-- CLEAR_PEDESTAL (R21). -/
def execClearPedestal (tag : Byte) (payload : Frame) (s : State) : Result :=
  .next (s.takeRequest 3 tag payload (pedOperand payload ownClearPedestal))

/-! ### READ_PEDESTAL -/

/-- READ_PEDESTAL (R24). -/
def execReadPedestal (tag : Byte) (payload : Frame) (s : State) : Result :=
  .next (s.takeRequest 4 tag payload (pedOperand payload fun p => readOwner fun s => s.pedestalPayload p))

end Sys2Proof.Machine
end

