-- ==== Sys2Proof/Machine/Moments.lean ====
section
/-! DEFINITION. Moments of time (R108): each step lets monotonic time pass to its moment, when that lies ahead, and
does what the moment brings; a moment that is not armed leaves the state unchanged (DESIGN CHOICE,
safe: notes/assumptions/5.md). -/

namespace Sys2Proof.Machine

/-- The moment a roll call falls due by its period (R6); absent while none has been started or none is wanted. -/
def State.rollDueAt (s : State) : Option Nat :=
  if allPeds.any fun p => (s.ped p).configured then s.line.rollTimer.map (· + s.line.rollPeriod * 1000) else none

/-- ROLL_CALL_DUE: the roll-call period has passed since the last roll call began (R6). -/
def execRollCallDue (s : State) : Result :=
  match s.rollDueAt with
  | some t => .next (s.advanceTo t)
  | none => .next s

/-- POLL_DUE: the next poll of pedestal p falls due (R15). -/
def execPollDue (p : Ped) (s : State) : Result :=
  match (s.ped p).nextPoll with
  | some t => .next (s.advanceTo t)
  | none => .next s

/-- POLL_AGED: the due poll of pedestal p becomes aged (R15). -/
def execPollAged (p : Ped) (s : State) : Result :=
  match (s.ped p).nextPoll with
  | some t => .next (s.advanceTo (t + 2 * s.line.pollPeriod))
  | none => .next s

/-- QUERY_DEADLINE: the held query of connector n times out (R71). -/
def execQueryDeadline (n : Conn) (s : State) : Result :=
  match s.heldOf n with
  | some h =>
    .next ((((s.advanceToSec h.deadline).dropHeld n).raise .authTimeout).offlineRule n h.token (some h.tag))
  | none => .next s

/-- SETTLE_DEADLINE: the settle time of connector n has passed; by itself this changes nothing else (R43). -/
def execSettleDeadline (n : Conn) (s : State) : Result :=
  match (s.seq n).settleDeadline with
  | some t => .next (s.advanceTo t)
  | none => .next s

/-- READY_DEADLINE: the ready wait of an AUTHORIZED session expires (R86). -/
def execReadyDeadline (n : Conn) (s : State) : Result :=
  match (s.sess n).state, (s.sess n).readyDeadline with
  | .authorized, some d => .next ((s.advanceToSec d).stopCause .notReady n)
  | _, _ => .next s

/-- The second a session of an age limit is stopped: the limit itself, or the second after the maximum was lowered when
the age exceeded it by then (R91). -/
def SessionTable.maxSecond (x : SessionTable) (start : Nat) : Nat :=
  if start + x.maxHours * 3600 + 1 < x.maxFrom then x.maxFrom else start + x.maxHours * 3600

/-- The moment a session is stopped by the maximum duration (R91). -/
def State.maxMoment (s : State) (n : Conn) : Option Nat :=
  match (s.sess n).state with
  | .authorized | .charging | .complete => (s.sess n).startSec.map s.sessions.maxSecond
  | .empty | .awaitingAuth | .stopping | .closed => none

/-- MAX_DURATION: a session reaches the maximum duration (R91). -/
def execMaxDuration (n : Conn) (s : State) : Result :=
  match s.maxMoment n with
  | some d => .next ((s.advanceToSec d).stopCause .maxTime n)
  | none => .next s

/-- STOP_DEADLINE: the stop wait of a STOPPING session expires (R94). -/
def execStopDeadline (n : Conn) (s : State) : Result :=
  match (s.sess n).state, (s.sess n).stopDeadline with
  | .stopping, some d =>
    .next (((s.advanceToSec d).updSess n fun e => { e with flags := addFlag .linkLost e.flags }).closeSession n)
  | _, _ => .next s

/-- MINUTE_TICK: the next whole minute of monotonic time (R109, R132). -/
def execMinuteTick (s : State) : Result :=
  let k := s.clock.ticksTaken + 1
  let s := s.advanceToSec (k * 60)
  let s := { s with clock := { s.clock with ticksTaken := k } }
  .next (allConns.foldl (fun s n => s.idleMinute n) s)

/-- The seconds until the wall clock enters its next minute of day (R110). -/
def WallTime.toNextMinute (w : WallTime) : Nat := 60 - w.sec % 60

/-- WALL_CLOCK_MINUTE: the set wall clock enters a new minute of day, and the band in force is tested (R110, R113).
While minutes already entered wait for their test, the oldest of them is tested and no time passes (DESIGN CHOICE, safe:
notes/assumptions/2.md). -/
def execWallClockMinute (s : State) : Result :=
  match s.clock.wall with
  | none => .next s
  | some w =>
    .next (if 0 < s.clock.minutesDue then s.testDueMinute
      else (s.advanceToSec (s.sec + w.toNextMinute)).testDueMinute)

/-- RENEWAL_DUE: the renewal of connector n falls due, one second after its hold comes within the renew threshold
(R152). -/
def execRenewalDue (n : Conn) (s : State) : Result :=
  match (s.setpoint n).holdExpiry with
  | some e => .next (s.advanceToSec (e + 1 - s.alloc.renew))
  | none => .next s

/-- HOLD_EXPIRY: the setpoint of connector n runs out unrenewed (R156). -/
def execHoldExpiry (n : Conn) (s : State) : Result :=
  match (s.setpoint n).holdExpiry with
  | some e => .next ((s.advanceToSec e).fallBack n)
  | none => .next s

/-- CURTAIL_EXPIRY: the curtailment in force ends (R144). -/
def execCurtailExpiry (s : State) : Result :=
  match s.alloc.curtailment with
  | some c =>
    let s := s.advanceToSec c.deadline
    .next (({ s with alloc := { s.alloc with curtailment := none } }).raise .curtailExpired).pass
  | none => .next s

end Sys2Proof.Machine
end

