-- ==== Sys2Proof/Machine/PowerRequests.lean ====
section
/-! DEFINITION. SET_HEADROOM (R121) of spec/07_metering_and_price_arithmetic.md, and the requests of
spec/08_power_allocation_and_setpoints.md: SET_SITE_LIMIT (R142), CURTAIL (R143), SET_SETPOINT_TIMING (R145),
READ_ALLOCATION (R158). -/

namespace Sys2Proof.Machine

/-- The owner of SET_HEADROOM (R121). -/
def ownSetHeadroom (payload : Frame) (s : State) : State × Reply :=
  match payload with
  | [h1, h0] =>
    ({ s with metering := { s.metering with headroom := min (num [h1, h0]) 10000 } },
      Reply.forced (10000 < num [h1, h0]))
  | _ => refuseWith .badRequest s

/-- SET_HEADROOM (R121). -/
def execSetHeadroom (tag : Byte) (payload : Frame) (s : State) : Result :=
  .next (s.takeRequest 35 tag payload (ownSetHeadroom payload))

/-- The owner of SET_SITE_LIMIT (R142). -/
def ownSetSiteLimit (payload : Frame) (s : State) : State × Reply :=
  match payload with
  | [l1, l0] =>
    let limit := min (num [l1, l0]) 4000
    let t := { s with alloc := { s.alloc with baseLimit := limit } }
    (if limit = s.alloc.baseLimit then t else t.pass, Reply.forced (4000 < num [l1, l0]))
  | _ => refuseWith .badRequest s

/-- SET_SITE_LIMIT (R142). -/
def execSetSiteLimit (tag : Byte) (payload : Frame) (s : State) : Result :=
  .next (s.takeRequest 36 tag payload (ownSetSiteLimit payload))

/-- Imposes or replaces a curtailment (R143). -/
def State.setCurtailment (limit hold : Nat) (s : State) : State :=
  let t := { s with alloc := { s.alloc with curtailment := some ⟨limit, s.sec + hold⟩ } }
  if s.alloc.curtailment.map (·.limit) = some limit then t else t.pass

/-- The owner of CURTAIL (R143). -/
def ownCurtail (payload : Frame) (s : State) : State × Reply :=
  match payload with
  | [l1, l0, h1, h0] =>
    let limit := min (num [l1, l0]) s.alloc.baseLimit
    let hold := clamp 5 3600 (num [h1, h0])
    (s.setCurtailment limit hold, Reply.forced (limit != num [l1, l0] || hold != num [h1, h0]))
  | _ => refuseWith .badRequest s

/-- CURTAIL (R143). -/
def execCurtail (tag : Byte) (payload : Frame) (s : State) : Result :=
  .next (s.takeRequest 37 tag payload (ownCurtail payload))

/-- The owner of SET_SETPOINT_TIMING (R145). -/
def ownSetSetpointTiming (payload : Frame) (s : State) : State × Reply :=
  match payload with
  | [y, h, r] =>
    let hysteresis := clamp 1 20 y.toNat
    let hold := clamp 5 120 h.toNat
    let renew := min (clamp 1 60 r.toNat) (hold - 1)
    ({ s with alloc := { s.alloc with hysteresis := hysteresis, hold := hold, renew := renew } },
      Reply.forced (hysteresis != y.toNat || hold != h.toNat || renew != r.toNat))
  | _ => refuseWith .badRequest s

/-- SET_SETPOINT_TIMING (R145). -/
def execSetSetpointTiming (tag : Byte) (payload : Frame) (s : State) : Result :=
  .next (s.takeRequest 38 tag payload (ownSetSetpointTiming payload))

/-- READ_ALLOCATION (R158). -/
def execReadAllocation (tag : Byte) (payload : Frame) (s : State) : Result :=
  .next (s.takeRequest 39 tag payload (noOperands payload (readOwner State.allocationPayload)))

end Sys2Proof.Machine
end

