-- ==== Sys2Proof/Machine/Replies.lean ====
section
/-! DEFINITION. What arrives on the park line (R6, R7, R9, R11, R13, R22). A frame is judged by its bytes alone (R9),
so the five frame steps share one reading of them (DEDUCED, safe: notes/assumptions/10.md). -/

namespace Sys2Proof.Machine

/-- STATUS_REPLY: a frame arrives; a good STATUS reply stores the reports and delivers its parts (R9, R11). -/
def execStatusReply (frame : Frame) (s : State) : Result := .next (s.receive frame)

/-- ACK_REPLY: a frame arrives; a good ACK ends its command transaction (R9, R13). -/
def execAckReply (frame : Frame) (s : State) : Result := .next (s.receive frame)

/-- NAK_REPLY: a frame arrives; a good NAK ends its transaction, or fails the attempt of an OPEN or a decrease
(R9, R13). -/
def execNakReply (frame : Frame) (s : State) : Result := .next (s.receive frame)

/-- BAD_REPLY: a frame arrives; one that fails a test is a failed attempt (R9, R20). -/
def execBadReply (frame : Frame) (s : State) : Result := .next (s.receive frame)

/-- STRAY_FRAME: a frame arrives; while no attempt waits it is discarded and counted nowhere (R9). -/
def execStrayFrame (frame : Frame) (s : State) : Result := .next (s.receive frame)

/-- REPLY_TIMEOUT: the attempt's deadline passes with no frame (R9, R22). -/
def execReplyTimeout (s : State) : Result := .next s.replyDeadline

/-- ROLL_CALL_SLOT: a slot of the roll-call window ends, with the bytes that arrived in it (R6, R7). -/
def execRollCallSlot (answer : Frame) (s : State) : Result := .next (s.endSlot answer)

end Sys2Proof.Machine
end

