-- ==== Sys2Proof/Machine/Resets.lean ====
section
/-! DEFINITION. Power-on and the reset input (R181 and the power-on columns of every chapter). -/

namespace Sys2Proof.Machine

/-- The effect of power-on: every block takes its power-on values. The in-flight transaction record and the open
roll-call window, which no power-on rule names, keep their value by R1 (DEDUCED, unsafe: notes/assumptions/31.md); the
commands that wait outside the part stay (DESIGN CHOICE, safe: notes/assumptions/7.md). -/
def State.powerOn (s : State) : State :=
  { State.reset with
    line := { State.reset.line with inflight := s.line.inflight, window := s.line.window }
    pending := s.pending }

/-- POWER_ON (R1, R181 and the power-on column of every chapter). -/
def execPowerOn (s : State) : Result := .next s.powerOn

/-- RESET_INPUT: the same effect as power-on (spec/00_scope.md, External connections). -/
def execResetInput (s : State) : Result := .next s.powerOn

end Sys2Proof.Machine
end

