-- ==== Sys2Proof/Machine/SequencerRequests.lean ====
section
/-! DEFINITION. The requests of spec/03_connector_sequencing.md: SET_SEQUENCING (R40), LOCKOUT and UNLOCK (R51),
CLEAR_FAULT (R53), PARK_STOP and PARK_RESUME (R54), READ_CONNECTOR (R55). -/

namespace Sys2Proof.Machine

/-- The owner of SET_SEQUENCING (R40). -/
def ownSetSequencing (payload : Frame) (s : State) : State × Reply :=
  match payload with
  | [t1, t0, r] =>
    let settle := clamp 100 2000 (num [t1, t0])
    let release := clamp 2 20 r.toNat
    ({ s with sequencer := { s.sequencer with settleTime := settle, idleRelease := release } },
      Reply.forced (settle != num [t1, t0] || release != r.toNat))
  | _ => refuseWith .badRequest s

/-- SET_SEQUENCING (R40). -/
def execSetSequencing (tag : Byte) (payload : Frame) (s : State) : Result :=
  .next (s.takeRequest 10 tag payload (ownSetSequencing payload))

/-- The owner of LOCKOUT (R51). -/
def ownLockout (n : Conn) (s : State) : State × Reply :=
  if s.linkOf n = .unconfigured then refuseWith .wrongState s
  else (s.addLock n .host, Reply.bare .ok)

/-- LOCKOUT (R51). -/
def execLockout (tag : Byte) (payload : Frame) (s : State) : Result :=
  .next (s.takeRequest 11 tag payload (connOperand payload ownLockout))

/-- The owner of UNLOCK (R51). -/
def ownUnlock (n : Conn) (s : State) : State × Reply := (s.removeLock n .host, Reply.bare .ok)

/-- UNLOCK (R51). -/
def execUnlock (tag : Byte) (payload : Frame) (s : State) : Result :=
  .next (s.takeRequest 12 tag payload (connOperand payload ownUnlock))

/-- Returns a FAULTED connector to service (R53). -/
def State.clearFaultAt (n : Conn) (s : State) : State :=
  let s := s.updSeq n fun r => { r with fault := none }
  if (s.seq n).locks.isEmpty then s.enterOpen n else (s.setOpenSlot n).enterOpening n

/-- The owner of CLEAR_FAULT (R53). -/
def ownClearFault (n : Conn) (s : State) : State × Reply :=
  if (s.seq n).contactor = .faulted then (s.clearFaultAt n, Reply.bare .ok)
  else refuseWith .wrongState s

/-- CLEAR_FAULT (R53). -/
def execClearFault (tag : Byte) (payload : Frame) (s : State) : Result :=
  .next (s.takeRequest 13 tag payload (connOperand payload ownClearFault))

/-- The open cause of a beginning park stop at connector n (R54). -/
def State.parkOpen (s : State) (n : Conn) : State := if (s.seq n).contactor.live then s.openCause n else s

/-- Park stop begins (R54, R73): open causes, stops of running sessions, withdrawals in list order (DEDUCED, unsafe:
notes/assumptions/23.md). -/
def State.beginParkStop (s : State) : State :=
  let s := { s with sequencer := { s.sequencer with parkStop := true } }
  let s := allConns.foldl State.parkOpen s
  let s := allConns.foldl (fun s n => s.stopCause .parkStop n) s
  (s.auth.held.map (·.conn)).foldl (fun s n => s.withdraw n) s

/-- The owner of PARK_STOP (R54). -/
def ownParkStop (s : State) : State × Reply :=
  (if s.sequencer.parkStop then s else s.beginParkStop, Reply.bare .ok)

/-- PARK_STOP (R54). -/
def execParkStop (tag : Byte) (payload : Frame) (s : State) : Result :=
  .next (s.takeRequest 14 tag payload (noOperands payload ownParkStop))

/-- Park stop ends (R54). -/
def State.endParkStop (s : State) : State :=
  let s := { s with sequencer := { s.sequencer with parkStop := false } }
  allConns.foldl (fun s n => s.testClose n) s

/-- The owner of PARK_RESUME (R54). -/
def ownParkResume (s : State) : State × Reply :=
  (if s.sequencer.parkStop then s.endParkStop else s, Reply.bare .ok)

/-- PARK_RESUME (R54). -/
def execParkResume (tag : Byte) (payload : Frame) (s : State) : Result :=
  .next (s.takeRequest 15 tag payload (noOperands payload ownParkResume))

/-- READ_CONNECTOR (R55). -/
def execReadConnector (tag : Byte) (payload : Frame) (s : State) : Result :=
  .next (s.takeRequest 16 tag payload (connOperand payload fun n => readOwner fun s => s.connectorPayload n))

end Sys2Proof.Machine
end

