-- ==== Sys2Proof/Machine/SessionRequests.lean ====
section
/-! DEFINITION. The requests of spec/05_the_session_table.md: REMOTE_STOP (R92), SET_SESSION_TIMING (R98), READ_SESSION
(R99). -/

namespace Sys2Proof.Machine

/-- The owner of REMOTE_STOP (R92). -/
def ownRemoteStop (n : Conn) (s : State) : State × Reply :=
  match (s.sess n).state with
  | .empty | .closed => refuseWith .wrongState s
  | .awaitingAuth | .authorized | .charging | .complete | .stopping =>
    (s.stopCause .remoteStop n, Reply.bare .ok)

/-- REMOTE_STOP (R92). -/
def execRemoteStop (tag : Byte) (payload : Frame) (s : State) : Result :=
  .next (s.takeRequest 25 tag payload (connOperand payload ownRemoteStop))

/-- The owner of SET_SESSION_TIMING (R98). A lowered maximum stops a session whose age already exceeds it at the next
second (R91). -/
def ownSetSessionTiming (payload : Frame) (s : State) : State × Reply :=
  match payload with
  | [r1, r0, t1, t0, h] =>
    let ready := clamp 10 600 (num [r1, r0])
    let stop := clamp 30 600 (num [t1, t0])
    let hours := clamp 1 48 h.toNat
    ({ s with sessions :=
        { s.sessions with
          readyWait := ready
          stopWait := stop
          maxHours := hours
          maxFrom := if hours < s.sessions.maxHours then s.sec + 1 else s.sessions.maxFrom } },
      Reply.forced (ready != num [r1, r0] || stop != num [t1, t0] || hours != h.toNat))
  | _ => refuseWith .badRequest s

/-- SET_SESSION_TIMING (R98). -/
def execSetSessionTiming (tag : Byte) (payload : Frame) (s : State) : Result :=
  .next (s.takeRequest 26 tag payload (ownSetSessionTiming payload))

/-- READ_SESSION (R99). -/
def execReadSession (tag : Byte) (payload : Frame) (s : State) : Result :=
  .next (s.takeRequest 27 tag payload (connOperand payload fun n => readOwner fun s => s.sessionPayload n))

end Sys2Proof.Machine
end

