-- ==== Sys2Proof/Machine/SettlementRequests.lean ====
section
/-! DEFINITION. The requests of spec/09_the_settlement_queue.md: READ_SETTLEMENT (R165) and DISCARD_SETTLEMENT (R166,
R167). -/

namespace Sys2Proof.Machine

/-- The owner of READ_SETTLEMENT (R165). -/
def ownReadSettlement (s : State) : State × Reply :=
  match s.settlement.records with
  | [] => (s, ⟨.empty, [0, 0]⟩)
  | r :: _ =>
    ({ s with settlement := { s.settlement with readMark := true } },
      Reply.ok (byte s.settlement.records.length :: byte s.sessions.waiting.length :: recordBytes r.sequence r.body))

/-- READ_SETTLEMENT (R165). -/
def execReadSettlement (tag : Byte) (payload : Frame) (s : State) : Result :=
  .next (s.takeRequest 40 tag payload (noOperands payload ownReadSettlement))

/-- The record a CLOSED entry waits with. -/
def State.waitingRecord (s : State) (n : Conn) : Option BuiltRecord := (s.sess n).record

/-- The waiting record of connector n joins the queue, its connector leaves the list, its entry becomes EMPTY
(R97, R167). -/
def State.transfer (n : Conn) (rest : List Conn) (r : BuiltRecord) (s : State) : State :=
  let s := s.appendRecord r
  ({ s with sessions := { s.sessions with waiting := rest } }).setSess n Session.initial

/-- Removes the head record (R164, R166). -/
def State.dropHead (s : State) : State :=
  { s with settlement := { s.settlement with records := s.settlement.records.tail, readMark := false } }

/-- Removes the head, and moves a waiting record when there is one; answers the sequence number given to it, 0 for
none (R166, R167). -/
def State.discardHead (s : State) : State × Nat :=
  match s.sessions.waiting with
  | [] => (s.dropHead, 0)
  | n :: rest =>
    match s.waitingRecord n with
    | some r => (s.dropHead.transfer n rest r, s.settlement.nextSequence)
    | none => (s.dropHead, 0)

/-- The owner of DISCARD_SETTLEMENT (R166). -/
def ownDiscardSettlement (s : State) : State × Reply :=
  match s.settlement.records with
  | [] => (s, ⟨.empty, [0]⟩)
  | r :: _ =>
    if s.settlement.readMark then
      let d := s.discardHead
      (d.1, Reply.ok (be 4 r.sequence ++ [byte d.1.settlement.records.length] ++ be 4 d.2))
    else (s, ⟨.notRead, be 4 r.sequence ++ [byte s.settlement.records.length]⟩)

/-- DISCARD_SETTLEMENT (R166, R167). -/
def execDiscardSettlement (tag : Byte) (payload : Frame) (s : State) : Result :=
  .next (s.takeRequest 41 tag payload (noOperands payload ownDiscardSettlement))

end Sys2Proof.Machine
end

