-- ==== Sys2Proof/Machine/TariffRequests.lean ====
section
/-! DEFINITION. The requests of spec/06_tariff_plans_and_the_band_clock.md: LOAD_PLAN (R105), CLEAR_PLAN (R106),
READ_PLAN (R107), SET_TIME (R111), SET_BANDS (R112), LATCH_NOW (R116), READ_CLOCK (R117). -/

namespace Sys2Proof.Machine

/-! ### Plans -/

/-- The highest energy price (R103). -/
def maxPrice : Nat := 9999999

/-- Four numbers as a table over the bands. -/
def bandTable (x0 x1 x2 x3 : Nat) : Table Nat 4 := #v[x0, x1, x2, x3]

/-- Writes plan contents into a slot: LOADED, the next revision (R105). -/
def Plan.load (c : PlanContents) (p : Plan) : Plan :=
  { p with loaded := true, revision := p.revision + 1, contents := c }

/-- The contents a LOAD_PLAN payload gives after its slot byte, with each energy price forced into range, and whether
one was forced; `none` where the form is not good (R105, 11.4). -/
def planOperand : Frame → Option (PlanContents × Bool)
  | [c0, c1, c2, f3, f2, f1, f0, a3, a2, a1, a0, b3, b2, b1, b0, d3, d2, d1, d0, e3, e2, e1, e0,
      i1, i0, j1, j0, k1, k0, l1, l0, grace] =>
    if isCapital c0 && isCapital c1 && isCapital c2 then
      let p0 := num [a3, a2, a1, a0]
      let p1 := num [b3, b2, b1, b0]
      let p2 := num [d3, d2, d1, d0]
      let p3 := num [e3, e2, e1, e0]
      some
        ({ currency := some ⟨c0, c1, c2⟩
           startFee := num [f3, f2, f1, f0]
           energyPrice := bandTable (min p0 maxPrice) (min p1 maxPrice) (min p2 maxPrice) (min p3 maxPrice)
           idlePrice := bandTable (num [i1, i0]) (num [j1, j0]) (num [k1, k0]) (num [l1, l0])
           grace := grace.toNat },
          maxPrice < p0 || maxPrice < p1 || maxPrice < p2 || maxPrice < p3)
    else none
  | _ => none

/-- The owner of LOAD_PLAN, with the checks in the order of R105: the slot, the payload's length and currency, the use
count (where R184 would put the length first: DEDUCED, unsafe: notes/assumptions/9.md). -/
def ownLoadPlan (payload : Frame) (s : State) : State × Reply :=
  match payload with
  | slot :: rest =>
    match indexByte 16 slot with
    | none => refuseWith .badIndex s
    | some k =>
      match planOperand rest with
      | none => refuseWith .badRequest s
      | some (c, forced) =>
        if 0 < (s.plan k).useCount then refuseWith .inUse s
        else
          (s.updPlan k (Plan.load c),
            ⟨if forced then .clamped else .ok, be 2 ((s.plan k).revision + 1).toNat⟩)
  | [] => refuseWith .badRequest s

/-- LOAD_PLAN (R105). -/
def execLoadPlan (tag : Byte) (payload : Frame) (s : State) : Result :=
  .next (s.takeRequest 28 tag payload (ownLoadPlan payload))

/-- The owner of CLEAR_PLAN (R106). -/
def ownClearPlan (k : PlanSlot) (s : State) : State × Reply :=
  if 0 < (s.plan k).useCount then refuseWith .inUse s
  else (s.updPlan k fun p => { p with loaded := false, contents := PlanContents.initial }, Reply.bare .ok)

/-- CLEAR_PLAN (R106). -/
def execClearPlan (tag : Byte) (payload : Frame) (s : State) : Result :=
  .next (s.takeRequest 29 tag payload (slotOperand payload ownClearPlan))

/-- READ_PLAN (R107). -/
def execReadPlan (tag : Byte) (payload : Frame) (s : State) : Result :=
  .next (s.takeRequest 30 tag payload (slotOperand payload fun k => readOwner fun s => s.planReadPayload k))

/-! ### The clock -/

/-- The owner of SET_TIME (R111). Minute tests still due are taken first: their advances came before this event. -/
def ownSetTime (payload : Frame) (s : State) : State × Reply :=
  match payload with
  | [d1, d0, t3, t2, t1, t0] =>
    if num [t3, t2, t1, t0] < 86400 then
      let s := s.settleMinutes
      (({ s with clock :=
          { s.clock with wall := some ⟨num [d1, d0], num [t3, t2, t1, t0]⟩, minutesDue := 0 } }).testBand,
        Reply.bare .ok)
    else refuseWith .badRequest s
  | _ => refuseWith .badRequest s

/-- SET_TIME (R111). -/
def execSetTime (tag : Byte) (payload : Frame) (s : State) : Result :=
  .next (s.takeRequest 31 tag payload (ownSetTime payload))

/-- One boundary of SET_BANDS (11.6). -/
def parseBoundary : Frame → Option Boundary
  | [m1, m0, b] =>
    if num [m1, m0] < 1440 then (indexByte 4 b).map fun band => ⟨num [m1, m0], band⟩ else none
  | _ => none

/-- Whether the minutes of a schedule are strictly ascending (R112). -/
def ascending : List Boundary → Bool
  | [] => true
  | [_] => true
  | a :: b :: rest => a.minute < b.minute && ascending (b :: rest)

/-- The schedule a SET_BANDS payload gives, when it is of good form (R112). -/
def scheduleOperand : Frame → Option (List Boundary)
  | count :: rest =>
    if 1 ≤ count.toNat ∧ count.toNat ≤ 8 ∧ rest.length = 3 * count.toNat then
      match (chunks 3 count.toNat rest).mapM parseBoundary with
      | some bs => if ascending bs then some bs else none
      | none => none
    else none
  | [] => none

/-- The owner of SET_BANDS (R112). Minute tests still due are taken first, under the schedule they fell in. -/
def ownSetBands (payload : Frame) (s : State) : State × Reply :=
  match scheduleOperand payload with
  | some bs =>
    let s := s.settleMinutes
    (({ s with clock := { s.clock with schedule := bs, minutesDue := 0 } }).testBand, Reply.bare .ok)
  | none => refuseWith .badRequest s

/-- SET_BANDS (R112). -/
def execSetBands (tag : Byte) (payload : Frame) (s : State) : Result :=
  .next (s.takeRequest 32 tag payload (ownSetBands payload))

/-- LATCH_NOW (R116). -/
def execLatchNow (tag : Byte) (payload : Frame) (s : State) : Result :=
  .next (s.takeRequest 33 tag payload (noOperands payload fun s => (s.nextEpoch, Reply.bare .ok)))

/-- READ_CLOCK (R117). -/
def execReadClock (tag : Byte) (payload : Frame) (s : State) : Result :=
  .next (s.takeRequest 34 tag payload (noOperands payload (readOwner State.clockPayload)))

end Sys2Proof.Machine
end

