-- ==== Sys2Proof/Machine/Transmitter.lean ====
section
/-! DEFINITION. The uplink transmitter's steps (R174, R178, R65, R32). Each start answers the state unchanged when the
transmitter is not free or another frame comes first; each completion when another frame is on the line. -/

namespace Sys2Proof.Machine

/-- NOTICE_ATTENTION starts: it carries the two sets as they stand, and notice pending becomes no (R174, R178). -/
def execNoticeAttention (s : State) : Result :=
  match s.nextOutbound with
  | some .notice =>
    .next ((s.startFrame (.notice s.uplink.pendingSet s.uplink.enableSet)).updUplink fun u =>
      { u with noticePending := false })
  | _ => .next s

/-- RESPONSE_START: the oldest response leaves its queue and is sent (R174). -/
def execResponseStart (s : State) : Result :=
  match s.nextOutbound with
  | some (.response r) =>
    .next ((s.startFrame (.response r)).updUplink fun u => { u with responses := u.responses.tail })
  | _ => .next s

/-- AUTH_QUERY starts for the oldest unsent query (R65, R174). -/
def execAuthQuery (s : State) : Result :=
  match s.nextOutbound with
  | some (.query h) => .next (s.startFrame (.query h))
  | _ => .next s

/-- Marks the query of connector n with this tag sent, when it is still held (R65). -/
def State.markSent (h : HeldEntry) (s : State) : State :=
  { s with auth :=
    { s.auth with held := s.auth.held.map fun x =>
      if x.conn == h.conn && x.tag == h.tag then { x with sent := true } else x } }

/-- AUTH_QUERY_SENT: the frame has been sent in full (R65, R174). -/
def execAuthQuerySent (s : State) : Result :=
  match s.uplink.sending with
  | some (.query h) => .next (s.endFrame.markSent h)
  | _ => .next s

/-- PASS_UP starts for the head of the pass-up queue (R32, R174). -/
def execPassUp (s : State) : Result :=
  match s.nextOutbound with
  | some (.passUp e) => .next (s.startFrame (.passUp e true))
  | _ => .next s

/-- Removes the head of the pass-up queue. -/
def State.dropPassUp (s : State) : State :=
  { s with classifier := { s.classifier with passUp := s.classifier.passUp.tail } }

/-- PASS_UP_SENT: its entry leaves the head of the queue, unless RESTART has emptied the queue (R32, R38, R174). -/
def execPassUpSent (s : State) : Result :=
  match s.uplink.sending with
  | some (.passUp _ live) => .next (if live then s.endFrame.dropPassUp else s.endFrame)
  | _ => .next s

/-- UPLINK_FRAME_SENT: a response or a notice has been sent in full, and the transmitter is free (R174). -/
def execUplinkFrameSent (s : State) : Result :=
  match s.uplink.sending with
  | some (.response _) | some (.notice _ _) => .next s.endFrame
  | _ => .next s

end Sys2Proof.Machine
end

