-- ==== Sys2Proof/Machine/UplinkRequests.lean ====
section
/-! DEFINITION. The requests and events of spec/10_uplink_and_management_requests.md: READ_EVENTS (R176),
SET_EVENT_ENABLE (R177), SET_UPLINK_TIMING (R173), READ_UPLINK (R180), RESTART (R179), frames that are no request of the
catalogue (R171), frames that fail (R170), and the silence deadline (R172). -/

namespace Sys2Proof.Machine

/-- The owner of READ_EVENTS (R176): the kinds returned leave the pending set. -/
def ownReadEvents (s : State) : State × Reply :=
  ((s.updUplink fun u => { u with pendingSet := 0 }).testAttention s.attention,
    Reply.ok (eventBytes s.uplink.pendingSet ++ eventBytes s.uplink.enableSet))

/-- READ_EVENTS (R176). -/
def execReadEvents (tag : Byte) (payload : Frame) (s : State) : Result :=
  .next (s.takeRequest 42 tag payload (noOperands payload ownReadEvents))

/-- The owner of SET_EVENT_ENABLE (R177). -/
def ownSetEventEnable (payload : Frame) (s : State) : State × Reply :=
  match payload with
  | [e1, e0] =>
    if num [e1, e0] < 32768 then
      ((s.updUplink fun u => { u with enableSet := BitVec.ofNat 15 (num [e1, e0]) }).testAttention s.attention,
        Reply.bare .ok)
    else refuseWith .badRequest s
  | _ => refuseWith .badRequest s

/-- SET_EVENT_ENABLE (R177). -/
def execSetEventEnable (tag : Byte) (payload : Frame) (s : State) : Result :=
  .next (s.takeRequest 43 tag payload (ownSetEventEnable payload))

/-- The owner of SET_UPLINK_TIMING (R173). -/
def ownSetUplinkTiming (payload : Frame) (s : State) : State × Reply :=
  match payload with
  | [t1, t0] =>
    let t := clamp 5 300 (num [t1, t0])
    (s.updUplink fun u => { u with silenceTime := t, silenceDeadline := some (s.sec + t) },
      Reply.forced (t != num [t1, t0]))
  | _ => refuseWith .badRequest s

/-- SET_UPLINK_TIMING (R173). -/
def execSetUplinkTiming (tag : Byte) (payload : Frame) (s : State) : Result :=
  .next (s.takeRequest 44 tag payload (ownSetUplinkTiming payload))

/-- READ_UPLINK (R180). -/
def execReadUplink (tag : Byte) (payload : Frame) (s : State) : Result :=
  .next (s.takeRequest 45 tag payload (noOperands payload (readOwner State.uplinkPayload)))

/-! ### RESTART (R179) -/

/-- The Connector Sequencer's part at connector n (R56). -/
def State.restartConnector (s : State) (n : Conn) : State :=
  let s := s.updSeq n fun r => { r with idleCount := 0, restCount := 0, released := false }
  match (s.seq n).contactor with
  | .closing | .verifying | .closed | .opening =>
    ((s.enterOpening n).updSeq n fun r =>
      { r with attempt := 1, openPending := false, settleDeadline := none }).setOpenSlot n
  | .opened | .faulted | .locked => s

/-- The Connector Sequencer's part (R56). -/
def State.restartSequencer (s : State) : State :=
  let s := { s with sequencer := { s.sequencer with parkStop := false } }
  allConns.foldl State.restartConnector s

/-- A pedestal entry after RESTART (R23). -/
def Pedestal.restart (e : Pedestal) : Pedestal :=
  { e with
    link := if e.configured then .probing else e.link
    failCount := 0
    absentCount := 0
    resync := false
    nextPoll := none
    disposition := .none
    queue := [] }

/-- The Line Controller's part (R23). -/
def State.restartLine (s : State) : State :=
  let s := s.discardInflight fun _ => true
  { s with line :=
    { s.line with
      peds := s.line.peds.map Pedestal.restart
      rollTimer := none
      pointer3 := 23
      pointer5 := 23 } }

/-- An outbound frame whose entry RESTART has taken away (R38, R174). -/
def OutFrame.orphan : OutFrame → OutFrame
  | .passUp e _ => .passUp e false
  | .response r => .response r
  | .notice p e => .notice p e
  | .query h => .query h

/-- The Message Classifier's part (R38). -/
def State.restartClassifier (s : State) : State :=
  ({ s with classifier := { s.classifier with passUp := [] } }).updUplink fun u =>
    { u with sending := u.sending.map OutFrame.orphan }

/-- The Authorization Unit's part (R79). -/
def State.restartAuth (s : State) : State := { s with auth := { s.auth with held := [] } }

/-- The Session Table's part at connector n (R101); `lost` is judged on the state the request found. -/
def State.restartSession (lost : Conn → Bool) (s : State) (n : Conn) : State :=
  if (s.sess n).state = .awaitingAuth then s.setSess n Session.initial
  else s.closeAtOnce .restart (lost n) n

/-- The Power Allocator's part at connector n (R159). -/
def State.restartSetpoint (s : State) (n : Conn) : State :=
  let s := s.updSetpoint n fun r =>
    if r.state = .increaseSent then
      { r with
        grant := r.inFlight.getD r.grant
        holdExpiry := some (s.sec + s.alloc.hold)
        inFlight := none
        state := .steady
        target := 0
        participant := false }
    else { r with inFlight := none, target := 0, participant := false }
  s.place n

/-- The Line Controller's test after the whole request (R5): a pedestal with something open becomes ACTIVE. -/
def State.restartActivity (s : State) (p : Ped) : State :=
  if (connsOf p).any s.inUse then s.localActivity p else s

/-- The effects of RESTART on every block, in the order of notes/assumptions/17.md (DEDUCED, unsafe). -/
def State.restartBlocks (s : State) : State :=
  let lost := s.linkLost
  let s := s.restartSequencer.restartLine.restartClassifier.restartAuth
  let s := allConns.foldl (State.restartSession lost) s
  let s := allConns.foldl State.restartSetpoint s
  allPeds.foldl State.restartActivity s

/-- The owner of RESTART (R179). -/
def ownRestart (s : State) : State × Reply :=
  let t := (s.updUplink fun u => { u with pendingSet := EventKind.restarted.only }).restartBlocks
  let t := t.testAttention s.attention
  (if t.attention then t.updUplink fun u => { u with noticePending := true } else t, Reply.bare .ok)

/-- RESTART (R179). -/
def execRestart (tag : Byte) (payload : Frame) (s : State) : Result :=
  .next (s.takeRequest 46 tag payload (noOperands payload ownRestart))

/-! ### Frames that are no request of the catalogue (R171) -/

/-- UNKNOWN_REQUEST: a good frame of another kind is answered BAD_REQUEST under kind 255 (R171, R184). -/
def execUnknownRequest (kind tag : Byte) (payload : Frame) (s : State) : Result :=
  if catalogueKind kind then .next s
  else .next (s.takeFrame 255 tag payload (refuseWith .badRequest))

/-- REQUEST_OVERRUN: a good frame that finds the response queue full is not taken (R171). -/
def execRequestOverrun (_kind _tag : Byte) (payload : Frame) (s : State) : Result :=
  if maxPayload < payload.length ∨ s.responseRoom then .next s
  else .next s.goodFrame.overrun

/-! ### Frames that fail (R170) -/

/-- UPLINK_FRAMING_ERROR: a declared length below a bare header with its check word or above 256 (R170 test 1). -/
def execUplinkFramingError (declared : BitVec 16) (s : State) : Result :=
  if badLength declared then .next s.framingError else .next s

/-- UPLINK_TRUNCATED: reception stops before the declared length is complete (R170 test 2). -/
def execUplinkTruncated (received : Frame) (s : State) : Result :=
  if cutOff received then .next s.framingError else .next s

/-- UPLINK_CHECK_FAILURE: a whole frame whose check word is not good (R170 test 3). -/
def execUplinkCheckFailure (frame : Frame) (s : State) : Result :=
  if wholeFrame frame && !checkGood frame then .next s.uplinkCheckFailed else .next s

/-! ### The silence deadline (R172) -/

/-- SILENCE_DEADLINE: an ONLINE link goes OFFLINE. -/
def execSilenceDeadline (s : State) : Result :=
  match s.uplink.link, s.uplink.silenceDeadline with
  | .online, some d =>
    .next ((s.advanceToSec d).updUplink fun u => { u with link := .offline, silenceDeadline := none })
  | _, _ => .next s

end Sys2Proof.Machine
end

