-- ==== Sys2Proof/Machine/Dispatch.lean ====
section
/-! DEFINITION. One arm per command: each is one call of its meaning. -/

namespace Sys2Proof.Machine

def exec (i : Instr) (s : State) : Host.Outcome State Fault Refusal :=
  match i with
  | .powerOn => Sys2Proof.Machine.execPowerOn s
  | .resetInput => Sys2Proof.Machine.execResetInput s
  | .setPedestal tag payload => Sys2Proof.Machine.execSetPedestal tag payload s
  | .setLineTiming tag payload => Sys2Proof.Machine.execSetLineTiming tag payload s
  | .clearPedestal tag payload => Sys2Proof.Machine.execClearPedestal tag payload s
  | .readPedestal tag payload => Sys2Proof.Machine.execReadPedestal tag payload s
  | .setClass tag payload => Sys2Proof.Machine.execSetClass tag payload s
  | .passDown tag payload => Sys2Proof.Machine.execPassDown tag payload s
  | .display tag payload => Sys2Proof.Machine.execDisplay tag payload s
  | .readClasses tag payload => Sys2Proof.Machine.execReadClasses tag payload s
  | .readPassThrough tag payload => Sys2Proof.Machine.execReadPassThrough tag payload s
  | .setSequencing tag payload => Sys2Proof.Machine.execSetSequencing tag payload s
  | .lockout tag payload => Sys2Proof.Machine.execLockout tag payload s
  | .unlock tag payload => Sys2Proof.Machine.execUnlock tag payload s
  | .clearFault tag payload => Sys2Proof.Machine.execClearFault tag payload s
  | .parkStop tag payload => Sys2Proof.Machine.execParkStop tag payload s
  | .parkResume tag payload => Sys2Proof.Machine.execParkResume tag payload s
  | .readConnector tag payload => Sys2Proof.Machine.execReadConnector tag payload s
  | .setAuthPolicy tag payload => Sys2Proof.Machine.execSetAuthPolicy tag payload s
  | .loadTokens tag payload => Sys2Proof.Machine.execLoadTokens tag payload s
  | .loadWatch tag payload => Sys2Proof.Machine.execLoadWatch tag payload s
  | .clearTokens tag payload => Sys2Proof.Machine.execClearTokens tag payload s
  | .readToken tag payload => Sys2Proof.Machine.execReadToken tag payload s
  | .readAuth tag payload => Sys2Proof.Machine.execReadAuth tag payload s
  | .authAnswer tag payload => Sys2Proof.Machine.execAuthAnswer tag payload s
  | .remoteStart tag payload => Sys2Proof.Machine.execRemoteStart tag payload s
  | .remoteStop tag payload => Sys2Proof.Machine.execRemoteStop tag payload s
  | .setSessionTiming tag payload => Sys2Proof.Machine.execSetSessionTiming tag payload s
  | .readSession tag payload => Sys2Proof.Machine.execReadSession tag payload s
  | .loadPlan tag payload => Sys2Proof.Machine.execLoadPlan tag payload s
  | .clearPlan tag payload => Sys2Proof.Machine.execClearPlan tag payload s
  | .readPlan tag payload => Sys2Proof.Machine.execReadPlan tag payload s
  | .setTime tag payload => Sys2Proof.Machine.execSetTime tag payload s
  | .setBands tag payload => Sys2Proof.Machine.execSetBands tag payload s
  | .latchNow tag payload => Sys2Proof.Machine.execLatchNow tag payload s
  | .readClock tag payload => Sys2Proof.Machine.execReadClock tag payload s
  | .setHeadroom tag payload => Sys2Proof.Machine.execSetHeadroom tag payload s
  | .setSiteLimit tag payload => Sys2Proof.Machine.execSetSiteLimit tag payload s
  | .curtail tag payload => Sys2Proof.Machine.execCurtail tag payload s
  | .setSetpointTiming tag payload => Sys2Proof.Machine.execSetSetpointTiming tag payload s
  | .readAllocation tag payload => Sys2Proof.Machine.execReadAllocation tag payload s
  | .readSettlement tag payload => Sys2Proof.Machine.execReadSettlement tag payload s
  | .discardSettlement tag payload => Sys2Proof.Machine.execDiscardSettlement tag payload s
  | .readEvents tag payload => Sys2Proof.Machine.execReadEvents tag payload s
  | .setEventEnable tag payload => Sys2Proof.Machine.execSetEventEnable tag payload s
  | .setUplinkTiming tag payload => Sys2Proof.Machine.execSetUplinkTiming tag payload s
  | .readUplink tag payload => Sys2Proof.Machine.execReadUplink tag payload s
  | .restart tag payload => Sys2Proof.Machine.execRestart tag payload s
  | .unknownRequest kind tag payload => Sys2Proof.Machine.execUnknownRequest kind tag payload s
  | .requestOverrun kind tag payload => Sys2Proof.Machine.execRequestOverrun kind tag payload s
  | .uplinkFramingError declared => Sys2Proof.Machine.execUplinkFramingError declared s
  | .uplinkTruncated received => Sys2Proof.Machine.execUplinkTruncated received s
  | .uplinkCheckFailure frame => Sys2Proof.Machine.execUplinkCheckFailure frame s
  | .silenceDeadline => Sys2Proof.Machine.execSilenceDeadline s
  | .noticeAttention => Sys2Proof.Machine.execNoticeAttention s
  | .responseStart => Sys2Proof.Machine.execResponseStart s
  | .authQuery => Sys2Proof.Machine.execAuthQuery s
  | .authQuerySent => Sys2Proof.Machine.execAuthQuerySent s
  | .passUp => Sys2Proof.Machine.execPassUp s
  | .passUpSent => Sys2Proof.Machine.execPassUpSent s
  | .sendLatch => Sys2Proof.Machine.execSendLatch s
  | .sendRollCall => Sys2Proof.Machine.execSendRollCall s
  | .sendPoll => Sys2Proof.Machine.execSendPoll s
  | .sendOpen => Sys2Proof.Machine.execSendOpen s
  | .sendDecrease => Sys2Proof.Machine.execSendDecrease s
  | .sendClose => Sys2Proof.Machine.execSendClose s
  | .sendDisplay => Sys2Proof.Machine.execSendDisplay s
  | .sendPassDown => Sys2Proof.Machine.execSendPassDown s
  | .sendClear => Sys2Proof.Machine.execSendClear s
  | .sendSetpoint => Sys2Proof.Machine.execSendSetpoint s
  | .statusReply frame => Sys2Proof.Machine.execStatusReply frame s
  | .ackReply frame => Sys2Proof.Machine.execAckReply frame s
  | .nakReply frame => Sys2Proof.Machine.execNakReply frame s
  | .badReply frame => Sys2Proof.Machine.execBadReply frame s
  | .replyTimeout => Sys2Proof.Machine.execReplyTimeout s
  | .strayFrame frame => Sys2Proof.Machine.execStrayFrame frame s
  | .rollCallSlot answer => Sys2Proof.Machine.execRollCallSlot answer s
  | .rollCallDue => Sys2Proof.Machine.execRollCallDue s
  | .pollDue p => Sys2Proof.Machine.execPollDue p s
  | .pollAged p => Sys2Proof.Machine.execPollAged p s
  | .queryDeadline n => Sys2Proof.Machine.execQueryDeadline n s
  | .settleDeadline n => Sys2Proof.Machine.execSettleDeadline n s
  | .readyDeadline n => Sys2Proof.Machine.execReadyDeadline n s
  | .maxDuration n => Sys2Proof.Machine.execMaxDuration n s
  | .stopDeadline n => Sys2Proof.Machine.execStopDeadline n s
  | .minuteTick => Sys2Proof.Machine.execMinuteTick s
  | .wallClockMinute => Sys2Proof.Machine.execWallClockMinute s
  | .renewalDue n => Sys2Proof.Machine.execRenewalDue n s
  | .holdExpiry n => Sys2Proof.Machine.execHoldExpiry n s
  | .curtailExpiry => Sys2Proof.Machine.execCurtailExpiry s
  | .broadcastSent => Sys2Proof.Machine.execBroadcastSent s
  | .uplinkFrameSent => Sys2Proof.Machine.execUplinkFrameSent s

end Sys2Proof.Machine
end

