-- ==== Sys2Proof/WellFormed.lean ====
section
/-! DEFINITION. Well-formed commands: those the outside of the part can send. A request's payload fits a frame of 256
bytes (R170); a frame that fails fails the test it is named for (R170, R171); a frame on the park line has at least
one byte. -/

namespace Sys2Proof

/-- A payload that fits a frame (R170). -/
def payloadFits (payload : Frame) : Bool := payload.length ≤ Machine.maxPayload

/-- Whether a command is well formed. -/
def Instr.wellFormed : Instr → Bool
  | .powerOn => true
  | .resetInput => true
  | .setPedestal _ payload => payloadFits payload
  | .setLineTiming _ payload => payloadFits payload
  | .clearPedestal _ payload => payloadFits payload
  | .readPedestal _ payload => payloadFits payload
  | .setClass _ payload => payloadFits payload
  | .passDown _ payload => payloadFits payload
  | .display _ payload => payloadFits payload
  | .readClasses _ payload => payloadFits payload
  | .readPassThrough _ payload => payloadFits payload
  | .setSequencing _ payload => payloadFits payload
  | .lockout _ payload => payloadFits payload
  | .unlock _ payload => payloadFits payload
  | .clearFault _ payload => payloadFits payload
  | .parkStop _ payload => payloadFits payload
  | .parkResume _ payload => payloadFits payload
  | .readConnector _ payload => payloadFits payload
  | .setAuthPolicy _ payload => payloadFits payload
  | .loadTokens _ payload => payloadFits payload
  | .loadWatch _ payload => payloadFits payload
  | .clearTokens _ payload => payloadFits payload
  | .readToken _ payload => payloadFits payload
  | .readAuth _ payload => payloadFits payload
  | .authAnswer _ payload => payloadFits payload
  | .remoteStart _ payload => payloadFits payload
  | .remoteStop _ payload => payloadFits payload
  | .setSessionTiming _ payload => payloadFits payload
  | .readSession _ payload => payloadFits payload
  | .loadPlan _ payload => payloadFits payload
  | .clearPlan _ payload => payloadFits payload
  | .readPlan _ payload => payloadFits payload
  | .setTime _ payload => payloadFits payload
  | .setBands _ payload => payloadFits payload
  | .latchNow _ payload => payloadFits payload
  | .readClock _ payload => payloadFits payload
  | .setHeadroom _ payload => payloadFits payload
  | .setSiteLimit _ payload => payloadFits payload
  | .curtail _ payload => payloadFits payload
  | .setSetpointTiming _ payload => payloadFits payload
  | .readAllocation _ payload => payloadFits payload
  | .readSettlement _ payload => payloadFits payload
  | .discardSettlement _ payload => payloadFits payload
  | .readEvents _ payload => payloadFits payload
  | .setEventEnable _ payload => payloadFits payload
  | .setUplinkTiming _ payload => payloadFits payload
  | .readUplink _ payload => payloadFits payload
  | .restart _ payload => payloadFits payload
  | .unknownRequest kind _ payload => !Machine.catalogueKind kind && payloadFits payload
  | .requestOverrun _ _ payload => payloadFits payload
  | .uplinkFramingError declared => Machine.badLength declared
  | .uplinkTruncated received => Machine.cutOff received
  | .uplinkCheckFailure frame => Machine.wholeFrame frame && !Machine.checkGood frame
  | .silenceDeadline => true
  | .noticeAttention => true
  | .responseStart => true
  | .authQuery => true
  | .authQuerySent => true
  | .passUp => true
  | .passUpSent => true
  | .sendLatch => true
  | .sendRollCall => true
  | .sendPoll => true
  | .sendOpen => true
  | .sendDecrease => true
  | .sendClose => true
  | .sendDisplay => true
  | .sendPassDown => true
  | .sendClear => true
  | .sendSetpoint => true
  | .statusReply frame => !frame.isEmpty
  | .ackReply frame => !frame.isEmpty
  | .nakReply frame => !frame.isEmpty
  | .badReply frame => !frame.isEmpty
  | .replyTimeout => true
  | .strayFrame frame => !frame.isEmpty
  | .rollCallSlot _ => true
  | .rollCallDue => true
  | .pollDue _ => true
  | .pollAged _ => true
  | .queryDeadline _ => true
  | .settleDeadline _ => true
  | .readyDeadline _ => true
  | .maxDuration _ => true
  | .stopDeadline _ => true
  | .minuteTick => true
  | .wallClockMinute => true
  | .renewalDue _ => true
  | .holdExpiry _ => true
  | .curtailExpiry => true
  | .broadcastSent => true
  | .uplinkFrameSent => true

end Sys2Proof
end

