-- ==== Sys2Proof/Safety.lean ====
section
/-! DEFINITION. The terms claims are stated in: the blocks a step leaves untouched, the uplink after an answered
request, the STATUS reply a pedestal sends, the work that waits for the line, and the invariants of the part. -/

namespace Sys2Proof.Machine

/-! ### Blocks and frames -/

/-- The blocks of the state, and the queue of commands. -/
inductive Block
  | line | classifier | sequencer | auth | sessions | tariff | clock | metering | alloc | settlement | uplink | pending
  deriving DecidableEq, Repr

/-- Two states agree on a block. -/
def SameAt (s t : State) : Block → Prop
  | .line => t.line = s.line
  | .classifier => t.classifier = s.classifier
  | .sequencer => t.sequencer = s.sequencer
  | .auth => t.auth = s.auth
  | .sessions => t.sessions = s.sessions
  | .tariff => t.tariff = s.tariff
  | .clock => t.clock = s.clock
  | .metering => t.metering = s.metering
  | .alloc => t.alloc = s.alloc
  | .settlement => t.settlement = s.settlement
  | .uplink => t.uplink = s.uplink
  | .pending => t.pending = s.pending

/-- Two states agree on every block but the ones named. -/
def SameBut (touched : List Block) (s t : State) : Prop := ∀ b, b ∉ touched → SameAt s t b

/-! ### The uplink -/

/-- Whether two event sets share a kind (R178). -/
def UplinkState.shares (u : UplinkState) : Prop := u.pendingSet &&& u.enableSet ≠ 0

/-- Whether the response queue has room, so that a good frame is taken (R171). -/
def State.hasRoom (s : State) : Prop := s.uplink.responses.length < 8

/-- The uplink after a good frame has been taken and answered, when its owner raises nothing: ONLINE, the silence
deadline rearmed, one more request taken, one more response (R171, R172). -/
def State.answered (s : State) (kind tag : Byte) (code : ResultCode) (payload : Frame) : UplinkState :=
  { s.uplink with
    link := .online
    silenceDeadline := some (s.sec + s.uplink.silenceTime)
    requestsTaken := s.uplink.requestsTaken + 1
    responses := s.uplink.responses ++ [⟨kind, tag, code, payload⟩] }

/-- The uplink after an event kind has been raised (R175, R178). -/
def UplinkState.withRaised (k : EventKind) (u : UplinkState) : UplinkState :=
  { u with
    pendingSet := u.pendingSet ||| k.only
    noticePending := u.noticePending ||
      ((u.pendingSet &&& u.enableSet) == 0 && ((u.pendingSet ||| k.only) &&& u.enableSet) != 0) }

/-- The catalogue place, host tag and payload of a request (10.6). -/
def requestOf : Instr → Option (Nat × Byte × Frame)
  | .setPedestal tag payload => some (1, tag, payload)
  | .setLineTiming tag payload => some (2, tag, payload)
  | .clearPedestal tag payload => some (3, tag, payload)
  | .readPedestal tag payload => some (4, tag, payload)
  | .setClass tag payload => some (5, tag, payload)
  | .passDown tag payload => some (6, tag, payload)
  | .display tag payload => some (7, tag, payload)
  | .readClasses tag payload => some (8, tag, payload)
  | .readPassThrough tag payload => some (9, tag, payload)
  | .setSequencing tag payload => some (10, tag, payload)
  | .lockout tag payload => some (11, tag, payload)
  | .unlock tag payload => some (12, tag, payload)
  | .clearFault tag payload => some (13, tag, payload)
  | .parkStop tag payload => some (14, tag, payload)
  | .parkResume tag payload => some (15, tag, payload)
  | .readConnector tag payload => some (16, tag, payload)
  | .setAuthPolicy tag payload => some (17, tag, payload)
  | .loadTokens tag payload => some (18, tag, payload)
  | .loadWatch tag payload => some (19, tag, payload)
  | .clearTokens tag payload => some (20, tag, payload)
  | .readToken tag payload => some (21, tag, payload)
  | .readAuth tag payload => some (22, tag, payload)
  | .authAnswer tag payload => some (23, tag, payload)
  | .remoteStart tag payload => some (24, tag, payload)
  | .remoteStop tag payload => some (25, tag, payload)
  | .setSessionTiming tag payload => some (26, tag, payload)
  | .readSession tag payload => some (27, tag, payload)
  | .loadPlan tag payload => some (28, tag, payload)
  | .clearPlan tag payload => some (29, tag, payload)
  | .readPlan tag payload => some (30, tag, payload)
  | .setTime tag payload => some (31, tag, payload)
  | .setBands tag payload => some (32, tag, payload)
  | .latchNow tag payload => some (33, tag, payload)
  | .readClock tag payload => some (34, tag, payload)
  | .setHeadroom tag payload => some (35, tag, payload)
  | .setSiteLimit tag payload => some (36, tag, payload)
  | .curtail tag payload => some (37, tag, payload)
  | .setSetpointTiming tag payload => some (38, tag, payload)
  | .readAllocation tag payload => some (39, tag, payload)
  | .readSettlement tag payload => some (40, tag, payload)
  | .discardSettlement tag payload => some (41, tag, payload)
  | .readEvents tag payload => some (42, tag, payload)
  | .setEventEnable tag payload => some (43, tag, payload)
  | .setUplinkTiming tag payload => some (44, tag, payload)
  | .readUplink tag payload => some (45, tag, payload)
  | .restart tag payload => some (46, tag, payload)
  | _ => none

/-- The payload lengths a request of fixed layout may have (11.6), by catalogue place; `none` for PASS_DOWN, DISPLAY,
LOAD_TOKENS and SET_BANDS, whose length varies. -/
def fixedLengths : Nat → Option (List Nat)
  | 1 => some [2, 12]
  | 2 => some [4]
  | 3 | 4 | 9 | 11 | 12 | 13 | 16 | 25 | 27 | 29 | 30 => some [1]
  | 5 | 21 | 35 | 36 | 43 | 44 => some [2]
  | 6 | 7 | 18 | 32 => none
  | 10 | 38 => some [3]
  | 8 | 14 | 15 | 20 | 22 | 33 | 34 | 39 | 40 | 41 | 42 | 45 | 46 => some [0]
  | 17 | 31 => some [6]
  | 19 => some [17]
  | 23 => some [9]
  | 24 => some [19]
  | 26 => some [5]
  | 28 => some [33]
  | 37 => some [4]
  | _ => none

/-! ### The STATUS reply a pedestal sends (11.2) -/

/-- A connector block: the state word and the meter reading. -/
def blockBytes (r : ConnReport) : Frame :=
  let bit := fun (b : Bool) (k : Nat) => if b then 2 ^ k else 0
  be 3 (bit r.plugged 23 + bit r.ready 22 + bit r.complete 21 + bit r.latch.isSome 20
      + r.contact.number * 2 ^ 18 + r.demand * 2 ^ 9 + r.power)
    ++ be 4 r.reading.toNat

/-- The latched part: the epoch, then the latched reading of each connector that has one. -/
def latchBytes (a b : ConnReport) : Frame :=
  match a.latch, b.latch with
  | none, none => []
  | some (e, x), none => e :: be 4 x.toNat
  | none, some (e, y) => e :: be 4 y.toNat
  | some (e, x), some (_, y) => e :: (be 4 x.toNat ++ be 4 y.toNat)

/-- The message part: the number, then head and payload. -/
def messageBytes : Option Message → Frame
  | none => [0]
  | some m =>
    m.number :: byte (m.code.val + 64 * (match m.letter with
      | none => 0
      | some .a => 1
      | some .b => 2)) :: m.payload

/-- The body of a STATUS reply. -/
def statusBody (r : StatusReply) : Frame :=
  be 2 r.available ++ blockBytes r.a ++ blockBytes r.b ++ latchBytes r.a r.b ++ messageBytes r.message

/-- A STATUS reply whose fields the layout can carry: powers in range, one latch epoch for both connectors, a message
of a number above 0 that fits the frame (R11, R12, 11.2). -/
def StatusReply.fits (r : StatusReply) : Prop :=
  r.available ≤ 600 ∧ r.a.demand ≤ 400 ∧ r.b.demand ≤ 400 ∧ r.a.power < 512 ∧ r.b.power < 512 ∧
  (∀ x y, r.a.latch = some x → r.b.latch = some y → x.1 = y.1) ∧
  (∀ m, r.message = some m → m.number ≠ 0 ∧ m.payload.length ≤ 40) ∧
  (statusBody r).length ≤ 59

/-- The frame of a STATUS reply of pedestal p. -/
def statusFrame (p : Ped) (r : StatusReply) : Frame := lineFrame (p.val + 1) 129 (statusBody r)

/-- The frame of an ACK of pedestal p. -/
def ackFrame (p : Ped) : Frame := lineFrame (p.val + 1) 130 []

/-- The frame of a NAK of pedestal p. -/
def nakFrame (p : Ped) : Frame := lineFrame (p.val + 1) 131 []

/-! ### Work that waits for the line (R14) -/

/-- The class of an item of work. -/
def Work.cls : Work → Nat
  | .latch _ => 1
  | .resyncPoll _ | .openSlot _ | .decrease _ => 2
  | .agedPoll _ | .head _ _ => 3
  | .setpoint _ => 4
  | .duePoll _ => 5
  | .rollCall => 6

/-- Whether a pedestal can be sent anything: it is neither UNCONFIGURED nor UNREACHABLE. -/
def State.reachable (s : State) (p : Ped) : Prop :=
  (s.ped p).link ≠ .unconfigured ∧ (s.ped p).link ≠ .unreachable

/-- The items of work that may start (R14, R15, R19). -/
def State.offers (s : State) : Work → Prop
  | .latch e => s.line.pendingLatch = some e
  | .resyncPoll p => s.reachable p ∧ (s.ped p).resync = true
  | .openSlot n => s.reachable (pedOf n) ∧ (s.ped (pedOf n)).resync = false ∧ (s.slots n).openSet = true
  | .decrease n => s.reachable (pedOf n) ∧ (s.ped (pedOf n)).resync = false ∧ (s.slots n).decSet = true
  | .agedPoll p =>
    s.reachable p ∧ (s.ped p).resync = false ∧ (s.ped p).link = .active ∧
      ∃ d, (s.ped p).nextPoll = some d ∧ d + 2 * s.line.pollPeriod ≤ s.clock.ms
  | .head p e => s.reachable p ∧ (s.ped p).resync = false ∧ (s.ped p).queue.head? = some e
  | .setpoint w => s.setpointWork = some w
  | .duePoll p =>
    s.reachable p ∧ (s.ped p).resync = false ∧ (s.ped p).link = .active ∧
      ∃ d, (s.ped p).nextPoll = some d ∧ d ≤ s.clock.ms ∧ s.clock.ms < d + 2 * s.line.pollPeriod
  | .rollCall => s.rollCallDue = true

/-- The connector whose place in class 2 an item of work has. -/
def Work.place : Work → Nat
  | .resyncPoll p => 2 * p.val
  | .openSlot n => n.val
  | .decrease n => n.val
  | .latch _ | .agedPoll _ | .head _ _ | .setpoint _ | .duePoll _ | .rollCall => 0

/-- The in-flight record of a transaction as the arbiter creates it (R8), with the frame it sends. -/
def State.freshTxn (s : State) (target : Option Ped) (k : TxnKind) (o : Originator) : Txn where
  target := target
  kind := k
  originator := o
  attempt := 1
  deadline := s.clock.ms + s.line.replyTimeout
  discarded := false
  sentAt := s.clock.ms
  setAgain := false
  frame := txnFrame target
    (match target with
      | some p => (s.ped p).disposition
      | none => .none) k

/-- The entry of a pedestal after a good reply to a command at a moment (R9, R12). -/
def Pedestal.replied (ms : Nat) (e : Pedestal) : Pedestal :=
  { e with failCount := 0, lastReply := some ms, disposition := .none }

/-! ### What one event leaves -/

/-- The clock after monotonic time has passed to a moment in ms, when that lies ahead: the wall clock advances with the
second count, and the schedule, the band, the epoch and the ring stay (R108, R110). -/
def ClockAt (m : Nat) (c d : ClockState) : Prop :=
  if m ≤ c.ms then d = c
  else
    d.ms = m ∧ d.wall = c.wall.map (WallTime.later (m / 1000 - c.ms / 1000)) ∧ d.schedule = c.schedule ∧
    d.band = c.band ∧ d.epoch = c.epoch ∧ d.ring = c.ring ∧ d.ticksTaken = c.ticksTaken

/-- The second count after time has passed to a moment in ms, when that lies ahead. -/
def State.secAt (s : State) (m : Nat) : Nat := max s.clock.ms m / 1000

/-- A session entry that a stop cause has put into STOPPING at a second (R90). -/
def Session.stoppedAt (why : EndReason) (stopBy : Nat) (e : Session) : Session :=
  { e with state := .stopping, endReason := some why, stopDeadline := some stopBy, readyDeadline := none }

/-- What a stop cause taken at second `now` leaves of connector n's session: nothing, a withdrawal or STOPPING, by the
state it finds (R89, R90, R73). -/
def StopTaken (why : EndReason) (n : Conn) (now : Nat) (s t : State) : Prop :=
  match (s.sess n).state with
  | .empty | .closed | .stopping => t.sess n = s.sess n
  | .awaitingAuth =>
    if why.withdraws then t.sess n = Session.initial ∧ ∀ h ∈ t.auth.held, h.conn ≠ n
    else t.sess n = s.sess n
  | .authorized =>
    if why.stopsAuthorized then t.sess n = (s.sess n).stoppedAt why (now + s.sessions.stopWait)
    else t.sess n = s.sess n
  | .charging | .complete =>
    if why.stopsRunning then t.sess n = (s.sess n).stoppedAt why (now + s.sessions.stopWait)
    else t.sess n = s.sess n

/-- Whether a session state has a session that a REMOTE_STOP, a LOCKOUT or a fault puts into STOPPING (R89). -/
def SessionKind.open_ (k : SessionKind) : Prop := k = .authorized ∨ k = .charging ∨ k = .complete

/-- The contactor state an open cause leaves (R47): a CLOSING connector whose CLOSE is on the line waits for it. -/
def State.contactorAfterOpen (s : State) (n : Conn) : ContactorState :=
  match (s.seq n).contactor with
  | .verifying | .closed => .opening
  | .closing => if s.closeWaits n then .opening else .closing
  | .opened => .opened
  | .opening => .opening
  | .faulted => .faulted
  | .locked => .locked

/-- What the close condition asks of connector n's pedestal and of its report (R41, tests 3 and 5). -/
def State.closable (s : State) (n : Conn) : Prop :=
  s.linkOf n ≠ .unreachable ∧ (s.ped (pedOf n)).resync = false ∧
  ∃ r, s.report n = some r ∧ r.plugged = true ∧ r.ready = true ∧ r.contact = .opened

/-- Everything the close condition asks of connector n besides an AUTHORIZED session and no park stop (R41). -/
def State.readyToClose (s : State) (n : Conn) : Prop := (s.seq n).contactor = .opened ∧ s.closable n

/-- Whether a contactor state counts as reopened for the end of a STOPPING session (R93). -/
def ContactorState.reopened (c : ContactorState) : Prop := c = .opened ∨ c = .locked ∨ c = .faulted

/-- The connector record after a fault cause (R52). -/
def SeqRecord.faultedBy (k : FaultKind) (r : SeqRecord) : SeqRecord :=
  { SeqRecord.initial with contactor := .faulted, fault := some k, locks := r.locks }

/-- What a fault cause at connector n leaves (R52, R90): nothing where it is FAULTED already; else the FAULTED record,
the OPEN slot set, CONNECTOR_FAULT and the stop of its session. -/
def FaultTaken (k : FaultKind) (n : Conn) (s t : State) : Prop :=
  if (s.seq n).contactor = .faulted then t.seq n = s.seq n ∧ t.sess n = s.sess n
  else
    t.seq n = (s.seq n).faultedBy k ∧ (t.slots n).openSet = true ∧
    hasEvent .connectorFault t.uplink.pendingSet = true ∧ StopTaken .pedestalFault n s.sec s t

/-- A record of the close of a session entry at connector n and second `now`, and where it goes (R95, R96, R104, R134,
R135, R162): the settlement queue while that has room, with the entry EMPTY; else the entry, now CLOSED, on the
closed-waiting list. -/
def SessionClosed (r : BuiltRecord) (n : Conn) (e : Session) (now : Nat) (s t : State) : Prop :=
  let cost := (e.costAcc + 500000) / 1000000
  let sum := e.startFee + e.idleCost + cost
  r.conn = n ∧ r.token = e.token ∧ r.source = e.source ∧ r.cls = e.cls ∧ r.plan = e.plan ∧
  r.startWall = e.startWall ∧ r.endWall = t.clock.wall ∧ (∀ b, e.startSec = some b → r.duration = now - b) ∧
  r.energyTotal = min e.energyTotal 4294967295 ∧ (∀ b, tget r.bandEnergy b = min (tget e.bandEnergy b) 4294967295) ∧
  r.energyCost = min cost 4294967295 ∧ r.idleMinutes = e.idleMinutes ∧ r.idleCost = min e.idleCost 4294967295 ∧
  r.startFee = min e.startFee 4294967295 ∧ r.totalCost = min sum e.budget ∧ r.budget = e.budget ∧
  r.endReason = e.endReason ∧
  (∀ f, f ≠ .capped → f ≠ .clockUnset → hasFlag f r.flags = hasFlag f e.flags) ∧
  (hasFlag .capped e.flags = false → hasFlag .capped r.flags = decide (e.budget < sum)) ∧
  (∀ k rev, e.plan = some (k, rev) →
    r.currency = (s.plan k).contents.currency ∧
    t.plan k = { s.plan k with useCount := (s.plan k).useCount - 1 } ∧ ∀ j, j ≠ k → t.plan j = s.plan j) ∧
  (s.settlement.records.length < 96 →
    t.sess n = Session.initial ∧ t.sessions.waiting = s.sessions.waiting ∧
    t.settlement.records = s.settlement.records ++ [⟨s.settlement.nextSequence, r⟩] ∧
    t.settlement.nextSequence =
      (if s.settlement.nextSequence = 4294967295 then 1 else s.settlement.nextSequence + 1) ∧
    t.uplink = (if s.settlement.records.length = 0 then s.uplink.withRaised .settlementReady
      else if s.settlement.records.length = 95 then s.uplink.withRaised .queueFull else s.uplink)) ∧
  (s.settlement.records.length = 96 →
    (t.sess n).state = .closed ∧ (t.sess n).record = some r ∧ (t.sess n).plan = none ∧
    t.sessions.waiting = s.sessions.waiting ++ [n] ∧ t.settlement = s.settlement ∧ t.uplink = s.uplink)

/-- The state with another connector record at n and nothing else changed. -/
def State.withSeq (s : State) (n : Conn) (r : SeqRecord) : State :=
  { s with sequencer := { s.sequencer with recs := tset s.sequencer.recs n r } }

/-- The state with another session entry at n and nothing else changed. -/
def State.withSess (s : State) (n : Conn) (e : Session) : State :=
  { s with sessions := { s.sessions with entries := tset s.sessions.entries n e } }

/-- The connector record as it enters CLOSING (R41). -/
def SeqRecord.startClose (r : SeqRecord) : SeqRecord :=
  { r with contactor := .closing, attempt := 1, openPending := false }

/-- What the entry of connector n to OPEN, with the record r, leaves (R41): a CLOSE when the close condition holds, and
else that record. -/
def OpenEntered (r : SeqRecord) (n : Conn) (s t : State) : Prop :=
  let closes := (s.sess n).state = .authorized ∧ s.sequencer.parkStop = false ∧ s.closable n
  (closes → t.seq n = r.startClose ∧ t.closeWaits n = true) ∧ (¬ closes → t.seq n = r)

/-- The plan slot an acceptance takes (R67): the override of the token's matching entry, else the plan given, else the
connector's default plan. -/
def planTaken (entry : Option TokenEntry) (given : Option PlanSlot) (default_ : PlanSlot) : PlanSlot :=
  match entry.bind (·.override) with
  | some k => k
  | none => given.getD default_

/-- What an acceptance at connector n leaves (R68, R83, R41): the AUTHORIZED entry, one more use of its plan slot, the
decision, and a CLOSE when the connector is ready to close. -/
def Accepted (n : Conn) (a : Acceptance) (s t : State) : Prop :=
  t.sess n =
    { Session.initial with
      state := .authorized
      token := a.token
      source := some a.source
      cls := a.cls
      plan := some (a.plan, (s.plan a.plan).revision)
      budget := a.budget
      threshold := a.budget - s.metering.headroom
      lateTag := a.lateTag
      startWall := t.clock.wall
      startSec := some t.sec
      readyDeadline := some (t.sec + s.sessions.readyWait)
      plugSeen := s.plugSeenNow n
      flags := (if a.source.isOffline then 64 else 0) ||| (if t.clock.wall = none then 128 else 0) } ∧
  t.plan a.plan = { s.plan a.plan with useCount := (s.plan a.plan).useCount + 1 } ∧
  (∀ k, k ≠ a.plan → t.plan k = s.plan k) ∧ t.decision n = some ⟨.accepted a.source, t.sec⟩ ∧
  (s.readyToClose n ∧ s.sequencer.parkStop = false → t.seq n = (s.seq n).startClose ∧ t.closeWaits n = true) ∧
  (¬ (s.readyToClose n ∧ s.sequencer.parkStop = false) → t.seq n = s.seq n)

/-- What a refusal at connector n records (R69): the reason, and the DISPLAY offered to the pedestal's queue, which an
UNCONFIGURED pedestal or a queue of four drops. -/
def Refused (n : Conn) (why : RefuseReason) (s t : State) : Prop :=
  t.decision n = some ⟨.refused why, t.sec⟩ ∧
  t.ped (pedOf n) =
    (if s.linkOf n ≠ .unconfigured ∧ (s.ped (pedOf n)).queue.length < 4 then
      { s.ped (pedOf n) with
        queue := (s.ped (pedOf n)).queue ++
          [⟨.display (some (letterOf n)) (if why = .busy then .tryAgain else .refused) [], .authorization⟩] }
    else s.ped (pedOf n)) ∧
  t.seq n = s.seq n

/-- Whether a CLOSE that an acceptance at connector n may bring finds room in the pedestal's queue (R16). -/
def State.roomForClose (s : State) (n : Conn) : Prop :=
  s.linkOf n ≠ .unconfigured ∧ (s.ped (pedOf n)).queue.length < 4

/-- Where a setpoint record stands after its placement (R151). -/
def Placed (x : Setpoint) (y : SafetySlots) : Prop :=
  (x.target < x.grant → x.state = .decreasePending ∧ y.decSet = true ∧ y.decValue = x.target) ∧
  (x.grant < x.target → x.state = .increaseDeferred ∧ y.decSet = false) ∧
  (x.target = x.grant →
    x.state = (if 0 < x.grant ∧ x.holdExpiry = none then .fallback else .steady) ∧ y.decSet = false)

/-- What holds right after an allocation pass: the power it shared, the participants and their demands, each target
within its demand, each pedestal within its limit, all targets within the power shared, and every record placed
(R147 to R151). -/
def PassTaken (t : State) : Prop :=
  t.alloc.available = t.effLimit - t.fixedSum ∧
  (∀ n, t.linkOf n ≠ .unreachable →
    (t.setpoint n).participant = t.participates n ∧ (t.setpoint n).demand = t.clampedDemand n ∧
    (t.setpoint n).target ≤ (t.setpoint n).demand ∧
    ((t.setpoint n).participant = false → (t.setpoint n).target = 0) ∧
    ((t.setpoint n).state = .increaseSent ∨ Placed (t.setpoint n) (t.slots n))) ∧
  (∀ p, (t.ped p).link ≠ .unreachable →
    (t.config p).limitUsed = t.pedLimit p ∧
    (t.setpoint (connOf p .a)).target + (t.setpoint (connOf p .b)).target ≤ t.pedLimit p) ∧
  ((allConns.filter fun n => t.linkOf n != .unreachable).map fun n => (t.setpoint n).target).sum ≤ t.alloc.available

/-- The pedestal shares of pedestal p's participants (R148): its effective limit serves the smaller demand first,
connector A on equal demands. -/
def PedestalShared (p : Ped) (t : State) : Prop :=
  let a := connOf p .a
  let b := connOf p .b
  let limit := t.pedLimit p
  let both := t.participates a = true ∧ t.participates b = true
  let asked := (t.setpoint a).demand + (t.setpoint b).demand
  (∀ x, t.participates (connOf p x) = true → ¬ both →
    t.pedShare (connOf p x) = min (t.setpoint (connOf p x)).demand limit) ∧
  (both → asked ≤ limit → t.pedShare a = (t.setpoint a).demand ∧ t.pedShare b = (t.setpoint b).demand) ∧
  (both → limit < asked → (t.setpoint a).demand ≤ (t.setpoint b).demand →
    t.pedShare a = min (t.setpoint a).demand (limit / 2) ∧
    t.pedShare b = min (t.setpoint b).demand (limit - t.pedShare a)) ∧
  (both → limit < asked → (t.setpoint b).demand < (t.setpoint a).demand →
    t.pedShare b = min (t.setpoint b).demand (limit / 2) ∧
    t.pedShare a = min (t.setpoint a).demand (limit - t.pedShare b))

/-- How a pass shares the power that the higher classes left among the participants of class c (R150): the members that
want no more than the share leave with what they want; those that stay get the share, and the first of them, in
ascending index, one of the kilowatts left over each. -/
def ClassShared (c : ClassNo) (t : State) : Prop :=
  let members := allConns.filter fun n => t.participates n && (t.sess n).cls == c
  let higher := allConns.filter fun n => t.participates n && decide (c < (t.sess n).cls)
  let power := t.alloc.available - (higher.map fun n => (t.setpoint n).target).sum
  (higher.map fun n => (t.setpoint n).target).sum ≤ t.alloc.available ∧
  ∃ stay : List Conn, stay.Sublist members ∧
    let leave := members.filter fun n => !stay.contains n
    let rest := power - (leave.map t.pedShare).sum
    let share := rest / stay.length
    (leave.map t.pedShare).sum ≤ power ∧
    (∀ n ∈ leave, (t.setpoint n).target = t.pedShare n ∧ (stay ≠ [] → t.pedShare n ≤ share)) ∧
    ∀ i n, stay[i]? = some n →
      share < t.pedShare n ∧ (t.setpoint n).target = share + if i < rest % stay.length then 1 else 0

/-! ### Invariants -/

/-- No queue or list passes its capacity (R16, R32, R64, R169, R161). -/
def State.QueuesBounded (s : State) : Prop :=
  (∀ p, (s.ped p).queue.length ≤ 4) ∧ s.classifier.passUp.length ≤ 16 ∧ s.auth.held.length ≤ 8 ∧
  s.uplink.responses.length ≤ 8 ∧ s.settlement.records.length ≤ 96

/-- The energy total of a session is the sum of its four band energies (R128). -/
def Session.EnergyAddsUp (e : Session) : Prop :=
  e.energyTotal = tget e.bandEnergy 0 + tget e.bandEnergy 1 + tget e.bandEnergy 2 + tget e.bandEnergy 3

/-- Every session's energy adds up (R128). -/
def State.EnergyAddsUp (s : State) : Prop := ∀ n, (s.sess n).EnergyAddsUp

/-- A connector in OPEN has an empty set of lock sources (R50). -/
def State.OpenUnlocked (s : State) : Prop :=
  ∀ n, (s.seq n).contactor = .opened → (s.seq n).locks = ⟨false, false⟩

/-- Each number of a list is followed by the next sequence number (R161, R162). -/
def consecutive : List Nat → Prop
  | [] => True
  | [_] => True
  | a :: b :: rest => b = (if a = 4294967295 then 1 else a + 1) ∧ consecutive (b :: rest)

/-- The settlement queue's numbering: in range, one step between neighbours, the next sequence after the tail; and an
empty queue has a clear read mark (R161, R162). -/
def State.SettlementsNumbered (s : State) : Prop :=
  (∀ q ∈ s.settlement.records.map (·.sequence) ++ [s.settlement.nextSequence], 1 ≤ q ∧ q ≤ 4294967295) ∧
  consecutive (s.settlement.records.map (·.sequence) ++ [s.settlement.nextSequence]) ∧
  (s.settlement.records = [] → s.settlement.readMark = false)

/-- No two held entries are for one connector, and each one's session waits in AWAITING_AUTH (R64). -/
def State.HeldSound (s : State) : Prop :=
  (s.auth.held.map (·.conn)).Nodup ∧ ∀ h ∈ s.auth.held, (s.sess h.conn).state = .awaitingAuth

/-- The closed-waiting list holds exactly the CLOSED connectors, each once; a CLOSED entry holds its record and names no
plan; and the list is empty unless the settlement queue holds 96 records (R80, R96, R97). -/
def State.WaitingSound (s : State) : Prop :=
  s.sessions.waiting.Nodup ∧ (∀ n, n ∈ s.sessions.waiting ↔ (s.sess n).state = .closed) ∧
  (∀ n, (s.sess n).state = .closed → (s.sess n).record.isSome = true ∧ (s.sess n).plan = none) ∧
  (s.sessions.waiting ≠ [] → s.settlement.records.length = 96)

/-- Whether an open session is priced on a plan slot (R104). -/
def Session.pricedOn (k : PlanSlot) (e : Session) : Bool :=
  e.state != .empty && e.state != .awaitingAuth && (e.plan.map (·.1)) == some k

/-- A slot's use count is the number of open sessions priced on it, and a slot in use is LOADED (R104). -/
def State.UseCountsRight (s : State) : Prop :=
  ∀ k, (s.plan k).useCount = allConns.countP (fun n => (s.sess n).pricedOn k) ∧
    (0 < (s.plan k).useCount → (s.plan k).loaded = true)

/-- The sessions, the lists that point at them, and the plans they are priced on agree (R64, R96, R97, R104). -/
def State.SessionsSound (s : State) : Prop := s.HeldSound ∧ s.WaitingSound ∧ s.UseCountsRight

/-- A notice is pending only while attention is asserted (R178). -/
def State.NoticeSound (s : State) : Prop := s.uplink.noticePending = true → s.uplink.shares

/-- A token id is 4, 7 or 10 bytes long (R59). -/
def Token.fits (t : Token) : Prop := t.id.length = 4 ∨ t.id.length = 7 ∨ t.id.length = 10

/-- Every token the part holds has an id of 4, 7 or 10 bytes (R59). -/
def State.TokensFit (s : State) : Prop :=
  (∀ i e, tget s.auth.tokens i = some e → e.token.fits) ∧ (∀ h ∈ s.auth.held, h.token.fits) ∧
  (∀ n t, (s.sess n).token = some t → t.fits) ∧
  (∀ n r t, (s.sess n).record = some r → r.token = some t → t.fits) ∧
  (∀ r ∈ s.settlement.records, ∀ t, r.body.token = some t → t.fits)

/-- The minutes of a schedule rise strictly, each below 1,440 (R112). -/
def scheduleSound : List Boundary → Prop
  | [] => True
  | [b] => b.minute < 1440
  | a :: b :: rest => a.minute < b.minute ∧ scheduleSound (b :: rest)

/-- Every configuration value lies in the range its rule gives it, and so do the millisecond count and the wall clock (R4,
R40, R76, R98, R108, R110, R112, R121, R140, R169). -/
def State.ParametersInRange (s : State) : Prop :=
  (2 ≤ s.line.replyTimeout ∧ s.line.replyTimeout ≤ 100) ∧ (200 ≤ s.line.pollPeriod ∧ s.line.pollPeriod ≤ 5000) ∧
  (1 ≤ s.line.rollPeriod ∧ s.line.rollPeriod ≤ 30) ∧
  (100 ≤ s.sequencer.settleTime ∧ s.sequencer.settleTime ≤ 2000) ∧
  (2 ≤ s.sequencer.idleRelease ∧ s.sequencer.idleRelease ≤ 20) ∧
  (1 ≤ s.auth.queryTimeout ∧ s.auth.queryTimeout ≤ 30) ∧ s.auth.offlineLimit ≤ 4294967295 ∧
  (10 ≤ s.sessions.readyWait ∧ s.sessions.readyWait ≤ 600) ∧
  (30 ≤ s.sessions.stopWait ∧ s.sessions.stopWait ≤ 600) ∧ (1 ≤ s.sessions.maxHours ∧ s.sessions.maxHours ≤ 48) ∧
  s.metering.headroom ≤ 10000 ∧ s.alloc.baseLimit ≤ 4000 ∧ (1 ≤ s.alloc.hysteresis ∧ s.alloc.hysteresis ≤ 20) ∧
  (5 ≤ s.alloc.hold ∧ s.alloc.hold ≤ 120) ∧ (1 ≤ s.alloc.renew ∧ s.alloc.renew ≤ 60 ∧ s.alloc.renew < s.alloc.hold) ∧
  (5 ≤ s.uplink.silenceTime ∧ s.uplink.silenceTime ≤ 300) ∧
  (∀ p, (s.config p).limit ≤ 600 ∧ (s.config p).ratingA ≤ 400 ∧ (s.config p).ratingB ≤ 400 ∧
    (s.config p).failsafeA ≤ 50 ∧ (s.config p).failsafeB ≤ 50) ∧
  s.clock.ms ≤ 281474976710655 ∧ (∀ w, s.clock.wall = some w → w.day ≤ 65535 ∧ w.sec ≤ 86399) ∧
  scheduleSound s.clock.schedule ∧ s.clock.schedule.length ≤ 8

/-- The pedestal table's standing: UNCONFIGURED exactly while not configured, a next poll exactly while ACTIVE, a resync
only while ACTIVE, no roll-call slot held by two configured pedestals, a broadcast on the line without a target, and a
roll-call window only while its roll call holds the line (R2, R3, R6, R8, R15, R19). -/
def State.PedestalsSound (s : State) : Prop :=
  (∀ p, (s.ped p).configured = false ↔ (s.ped p).link = .unconfigured) ∧
  (∀ p, (s.ped p).nextPoll.isSome = true ↔ (s.ped p).link = .active) ∧
  (∀ p, (s.ped p).resync = true → (s.ped p).link = .active) ∧
  (∀ p q k, (s.ped p).configured = true → (s.ped q).configured = true → (s.ped p).slot = some k →
    (s.ped q).slot = some k → p = q) ∧
  (∀ x, s.line.inflight = some x → (x.kind = .rollCall ∨ ∃ epoch, x.kind = .latch epoch) → x.target = none) ∧
  (∀ w, s.line.window = some w → ∃ x, s.line.inflight = some x ∧ x.target = none ∧ x.kind = .rollCall)

end Sys2Proof.Machine
end

