-- ==== Sys2Proof/Certificates/Slice0/Obligations.lean ====
section
/-! DEFINITION. The statements for the provers, in the order of the manual's chapters: the queue of commands and
power-on, invariants, whole-machine rules, the bytes of frames, then the commands family by family. Wherever a
statement names a model's choice, it names the log entry. -/

open Sys2Proof Sys2Proof.Machine

/-! ### The queue of commands, power-on, and the state after it -/

/-- The command at the front of the queue runs on the state with the rest of the queue. -/
def Obligations.QueueFrontCommandRuns : Prop :=
  ∀ (c : Instr) (s : State), step { s with pending := c :: s.pending } = exec c s

/-- Power-on and the reset input give every block its power-on values, both round-robin pointers at pedestal 24 and the
available power of the last pass at 0 among them. A transaction in flight and an open roll-call window, which no
power-on rule names, are kept (the model's reading of R1, notes/assumptions/31.md); so are the commands that wait (the
model's choice, notes/assumptions/7.md), and the 0 of an empty decrease slot is the model's choice too
(notes/assumptions/4.md). -/
def Obligations.PowerOnGivesTheInitialValues : Prop :=
  ∀ s : State, ∃ t, exec .powerOn s = .next t ∧ exec .resetInput s = .next t ∧ t.pending = s.pending ∧
    (∀ p, t.ped p = Pedestal.initial ∧ t.counts p = ⟨0, 0, 0⟩ ∧ t.config p = PedConfig.initial) ∧
    (∀ n, t.seq n = SeqRecord.initial ∧ t.sess n = Session.initial ∧ t.slots n = ⟨false, false, 0⟩ ∧
      t.setpoint n = ⟨0, 0, 0, none, .steady, false, none⟩ ∧ t.decision n = none) ∧
    (∀ k, t.plan k = ⟨false, 0, 0, PlanContents.initial⟩) ∧ (∀ i, tget t.auth.tokens i = none) ∧
    (∀ i, tget t.auth.watch i = 0) ∧
    (∀ c : Code, tget t.classifier.actions c = if 1 ≤ c.val ∧ c.val ≤ 4 then .toOwner else .up) ∧
    t.line.inflight = s.line.inflight ∧ t.line.window = s.line.window ∧ t.line.pointer3 = 23 ∧ t.line.pointer5 = 23 ∧
    t.line.pendingLatch = none ∧ t.line.rollTimer = none ∧ t.line.replyTimeout = 10 ∧ t.line.pollPeriod = 1000 ∧
    t.line.rollPeriod = 2 ∧ t.classifier.passUp = [] ∧
    t.sequencer.parkStop = false ∧ t.sequencer.settleTime = 300 ∧ t.sequencer.idleRelease = 3 ∧
    t.auth.held = [] ∧ t.auth.nextTag = 0 ∧ t.auth.queryTimeout = 8 ∧ t.auth.offlineAccept = false ∧
    t.auth.offlineLimit = 0 ∧ t.sessions.waiting = [] ∧ t.sessions.readyWait = 90 ∧ t.sessions.stopWait = 120 ∧
    t.sessions.maxHours = 12 ∧ t.clock.ms = 0 ∧ t.clock.wall = none ∧ t.clock.schedule = [] ∧ t.clock.band = 0 ∧
    t.clock.epoch = 0 ∧ (∀ i, tget t.clock.ring i = 0) ∧ t.metering.headroom = 50 ∧ t.alloc.baseLimit = 0 ∧
    t.alloc.curtailment = none ∧ t.alloc.hysteresis = 2 ∧ t.alloc.hold = 20 ∧ t.alloc.renew = 5 ∧
    t.alloc.available = 0 ∧ t.settlement = ⟨[], 1, false⟩ ∧
    t.uplink = ⟨.offline, 30, none, [], none, EventKind.powerOn.only, 0, false, 0, 0, 0, 0⟩

/-- The state after reset meets every invariant stated below. (That the line is free in it is the model's choice,
notes/assumptions/31.md.) -/
def Obligations.ResetMeetsEveryInvariant : Prop :=
  State.reset.QueuesBounded ∧ State.reset.EnergyAddsUp ∧ State.reset.OpenUnlocked ∧ State.reset.SettlementsNumbered ∧
  State.reset.SessionsSound ∧ State.reset.NoticeSound ∧ State.reset.TokensFit ∧ State.reset.ParametersInRange ∧
  State.reset.PedestalsSound

/-! ### Invariants that every step keeps -/

/-- No queue or list ever passes its capacity; sequence numbers of the settlement queue always follow each other, and an
empty queue has no read mark. -/
def Obligations.StepKeepsQueuesBoundedAndNumbered : Prop :=
  (∀ s t : State, s.QueuesBounded → step s = .next t → t.QueuesBounded) ∧
  (∀ s t : State, s.SettlementsNumbered → step s = .next t → t.SettlementsNumbered)

/-- A session's energy total is always the sum of its four band energies; a connector in OPEN always has an empty set of
lock sources; a notice is pending only while attention is asserted. -/
def Obligations.StepKeepsEnergyLocksAndNotice : Prop :=
  (∀ s t : State, s.EnergyAddsUp → step s = .next t → t.EnergyAddsUp) ∧
  (∀ s t : State, s.OpenUnlocked → step s = .next t → t.OpenUnlocked) ∧
  (∀ s t : State, s.NoticeSound → step s = .next t → t.NoticeSound)

/-- The held list, the closed-waiting list and the use counts always agree with the session table, while the settlement
queue stays within its 96 records. -/
def Obligations.StepKeepsSessionsSound : Prop :=
  ∀ s t : State, s.QueuesBounded → s.SessionsSound → step s = .next t → t.SessionsSound

/-- Every token the part holds keeps an id of 4, 7 or 10 bytes; every configuration value, the millisecond count and the
wall clock stay in the range of their rule. -/
def Obligations.StepKeepsTokensAndParametersInRange : Prop :=
  (∀ s t : State, s.TokensFit → step s = .next t → t.TokensFit) ∧
  (∀ s t : State, s.ParametersInRange → step s = .next t → t.ParametersInRange)

/-- Link states, next polls, resync flags and roll-call slots stay consistent, a broadcast on the line has no target, and a
roll-call window is open only while its roll call holds the line. -/
def Obligations.StepKeepsPedestalsSound : Prop :=
  ∀ s t : State, s.PedestalsSound → step s = .next t → t.PedestalsSound

/-! ### Rules over every command -/

/-- Only LOAD_TOKENS, CLEAR_TOKENS, power-on and the reset input change the token table, and only LOAD_WATCH, power-on
and the reset input the watch bitmap; only LOAD_PLAN, CLEAR_PLAN, power-on and the reset input change what a plan slot
holds besides its use count. -/
def Obligations.TablesHaveTheirWritersOnly : Prop :=
  ∀ (c : Instr) (s t : State), exec c s = .next t → c ≠ .powerOn → c ≠ .resetInput →
    ((∀ tag body, c ≠ .loadTokens tag body ∧ c ≠ .clearTokens tag body) → t.auth.tokens = s.auth.tokens) ∧
    ((∀ tag body, c ≠ .loadWatch tag body) → t.auth.watch = s.auth.watch) ∧
    ((∀ tag body, c ≠ .loadPlan tag body ∧ c ≠ .clearPlan tag body) →
      ∀ k, (t.plan k).loaded = (s.plan k).loaded ∧ (t.plan k).revision = (s.plan k).revision ∧
        (t.plan k).contents = (s.plan k).contents)

/-- The band epoch stands still or advances by one, and it advances only at a boundary event or a LATCH_NOW, with the
ring entry of the new epoch and its LATCH. (A SET_TIME or a SET_BANDS takes the minute tests still due before its own,
and with such tests it may bring several boundary events: the model's choice, notes/assumptions/2.md.) -/
def Obligations.EpochAdvancesByOneWithItsLatch : Prop :=
  ∀ (c : Instr) (s t : State), exec c s = .next t → c ≠ .powerOn → c ≠ .resetInput →
    (s.clock.minutesDue ≠ 0 → ∀ tag body, c ≠ .setTime tag body ∧ c ≠ .setBands tag body) →
    (t.clock.epoch = s.clock.epoch ∧ t.clock.ring = s.clock.ring ∧ t.clock.band = s.clock.band) ∨
    (t.clock.epoch = s.clock.epoch + 1 ∧ t.clock.ring = tset s.clock.ring (ringPlace t.clock.epoch) t.clock.band ∧
      t.line.pendingLatch = some t.clock.epoch ∧
      ((∃ tag body, c = .latchNow tag body) ∨
        (t.clock.band ≠ s.clock.band ∧ hasEvent .bandChanged t.uplink.pendingSet = true ∧
          (c = .wallClockMinute ∨ ∃ tag body, c = .setTime tag body ∨ c = .setBands tag body))))

/-! ### The bytes of frames -/

/-- A frame closed with its check word passes the receiver's test, and no such frame still passes it after one of its
bytes has been changed. -/
def Obligations.CheckWordCatchesOneWrongByte : Prop :=
  (∀ body : Frame, checkGood (withCheck body) = true) ∧
  ∀ (frame : Frame) (i : Nat) (b : Byte), checkGood frame = true → i < frame.length → frame[i]? ≠ some b →
    checkGood (frame.set i b) = false

/-- The frame of every transaction with a pedestal passes the receiver's length test for its kind and the check-word
test, and carries the pedestal's number, its own length and its kind; so does a broadcast with address 0. Every uplink
frame the part sends declares its own length and passes the check-word test. -/
def Obligations.SentFramesFitTheirLayout : Prop :=
  (∀ (target : Option Ped) (d : Disposition) (k : TxnKind),
    (target = none ↔ (k = .rollCall ∨ ∃ e, k = .latch e)) →
    (∀ l x text, k = .queued (.display l x text) → text.length ≤ 40) →
    (∀ l c body, k = .queued (.passDown l c body) → body.length ≤ 40) →
    lengthGood (txnFrame target d k) = true ∧ checkGood (txnFrame target d k) = true ∧
      ∃ a len kind rest, txnFrame target d k = a :: len :: kind :: rest ∧
        a.toNat = (match target with
          | some p => p.val + 1
          | none => 0) ∧
        len.toNat = (txnFrame target d k).length ∧
        kind.toNat = (match k with
          | .poll => 1
          | .queued (.close _) => 2
          | .openSlot _ => 3
          | .decrease _ _ _ | .increase _ _ _ | .renewal _ _ _ => 4
          | .queued (.display _ _ _) => 5
          | .queued (.passDown _ _ _) => 6
          | .queued .clear => 7
          | .latch _ => 8
          | .rollCall => 9)) ∧
  (∀ f : OutFrame, f.bytes.length < 65536 →
    declaredLength f.bytes = some (BitVec.ofNat 16 f.bytes.length) ∧ checkGood f.bytes = true)

/-- A STATUS reply whose fields the layout can carry is read back field for field, whatever its latches and its
message. -/
def Obligations.StatusRepliesAreReadAsSent : Prop :=
  ∀ (p : Ped) (r : StatusReply), r.fits → classifyFrame p true (statusFrame p r) = .status r

/-! ### Frames from the host -/

/-- A good frame that finds 8 responses waiting is not taken: the link is ONLINE, the overrun count increases up to
65,535, LINK_ERRORS is raised, and no block sees the frame. -/
def Obligations.FullResponseQueueTurnsFramesAway : Prop :=
  ∀ (s : State) (c : Instr) (payload : Frame),
    ((∃ place tag, requestOf c = some (place, tag, payload)) ∨
      (∃ kind tag, c = .unknownRequest kind tag payload ∧ catalogueKind kind = false) ∨
      (∃ kind tag, c = .requestOverrun kind tag payload)) →
    payload.length ≤ 250 → 8 ≤ s.uplink.responses.length →
    exec c s = .next { s with uplink :=
      { s.uplink with
        link := .online
        silenceDeadline := some (s.sec + s.uplink.silenceTime)
        overruns := min (s.uplink.overruns + 1) 65535 }.withRaised .linkErrors }

/-- A request that finds room is taken and answered by exactly one response, which carries the request's kind plus 128
and its host tag; the link is ONLINE, and the error counts stay. A request whose payload has not the length of its
layout is answered BAD_REQUEST, and nothing else changes; but a LOAD_PLAN is answered BAD_INDEX for a slot past 15
whatever its length, in the order of R105 (the model's reading, notes/assumptions/9.md). Of the four requests whose
length varies, a PASS_DOWN or DISPLAY without its fixed bytes or with a length field that does not match, and a
LOAD_TOKENS or SET_BANDS whose count is out of range or does not match, are answered BAD_REQUEST too. -/
def Obligations.EveryRequestTakenGetsOneResponse : Prop :=
  (∀ (s : State) (c : Instr) (place : Nat) (tag : Byte) (payload : Frame),
    requestOf c = some (place, tag, payload) → payload.length ≤ 250 → s.hasRoom →
    ∃ t code answer, exec c s = .next t ∧
      t.uplink.responses = s.uplink.responses ++ [⟨byte (place + 128), tag, code, answer⟩] ∧
      t.uplink.link = .online ∧ t.uplink.requestsTaken = s.uplink.requestsTaken + 1 ∧
      t.uplink.overruns = s.uplink.overruns ∧ t.uplink.framingErrors = s.uplink.framingErrors ∧
      t.uplink.checkFails = s.uplink.checkFails ∧ t.pending = s.pending ∧
      (place ≠ 44 → t.uplink.silenceTime = s.uplink.silenceTime ∧
        t.uplink.silenceDeadline = some (s.sec + s.uplink.silenceTime))) ∧
  (∀ (s : State) (c : Instr) (place : Nat) (tag : Byte) (payload : Frame) (lens : List Nat),
    requestOf c = some (place, tag, payload) → fixedLengths place = some lens → payload.length ∉ lens →
    (place = 28 → payload = [] ∨ ∃ k rest, payload = k :: rest ∧ k.toNat < 16) → payload.length ≤ 250 → s.hasRoom →
    exec c s = .next { s with uplink := s.answered (byte (place + 128)) tag .badRequest [] }) ∧
  (∀ (s : State) (tag k : Byte) (rest : Frame), 16 ≤ k.toNat → rest.length ≤ 249 → s.hasRoom →
    exec (.loadPlan tag (k :: rest)) s = .next { s with uplink := s.answered 156 tag .badIndex [] }) ∧
  (∀ (s : State) (tag : Byte) (payload : Frame), payload.length ≤ 250 → s.hasRoom →
    let tokens := (payload.getD 2 0).toNat
    let boundaries := (payload.getD 0 0).toNat
    (payload.length < 4 →
      exec (.passDown tag payload) s = .next { s with uplink := s.answered 134 tag .badRequest [] }) ∧
    (payload.length < 3 →
      exec (.display tag payload) s = .next { s with uplink := s.answered 135 tag .badRequest [] }) ∧
    (tokens = 0 ∨ 8 < tokens ∨ payload.length ≠ 3 + 20 * tokens →
      exec (.loadTokens tag payload) s = .next { s with uplink := s.answered 146 tag .badRequest [] }) ∧
    (boundaries = 0 ∨ 8 < boundaries ∨ payload.length ≠ 1 + 3 * boundaries →
      exec (.setBands tag payload) s = .next { s with uplink := s.answered 160 tag .badRequest [] })) ∧
  (∀ (s : State) (tag len : Byte) (p : Ped) (l : Option Letter) (code : Code) (body : Frame), s.hasRoom →
    body.length ≤ 246 → body.length ≠ len.toNat →
    exec (.passDown tag ([byte (p.val + 1), Letter.optByte l, byte code.val, len] ++ body)) s =
      .next { s with uplink := s.answered 134 tag .badRequest [] } ∧
    exec (.display tag ([byte (p.val + 1), Letter.optByte l, len] ++ body)) s =
      .next { s with uplink := s.answered 135 tag .badRequest [] })

/-- A good frame of a kind outside the catalogue is answered BAD_REQUEST under kind 255; a frame that fails a test of
R170 is discarded, its count increases up to 65,535 and LINK_ERRORS is raised. No block but the uplink changes. -/
def Obligations.FramesThatAreNoRequestReachNoBlock : Prop :=
  (∀ (s : State) (kind tag : Byte) (payload : Frame),
    (kind.toNat = 0 ∨ 47 ≤ kind.toNat) → payload.length ≤ 250 → s.hasRoom →
    exec (.unknownRequest kind tag payload) s = .next { s with uplink := s.answered 255 tag .badRequest [] }) ∧
  (∀ s : State,
    (∀ d : BitVec 16, d.toNat < 6 ∨ 256 < d.toNat →
      exec (.uplinkFramingError d) s = .next { s with uplink :=
        { s.uplink with framingErrors := min (s.uplink.framingErrors + 1) 65535 }.withRaised .linkErrors }) ∧
    (∀ bytes : Frame, cutOff bytes = true →
      exec (.uplinkTruncated bytes) s = .next { s with uplink :=
        { s.uplink with framingErrors := min (s.uplink.framingErrors + 1) 65535 }.withRaised .linkErrors }) ∧
    (∀ frame : Frame, wholeFrame frame = true → checkGood frame = false →
      exec (.uplinkCheckFailure frame) s = .next { s with uplink :=
        { s.uplink with checkFails := min (s.uplink.checkFails + 1) 65535 }.withRaised .linkErrors }))

/-- Raising an event kind adds it to the pending set, keeps the others and tests attention; READ_EVENTS answers both
sets, empties the pending set and ends attention with its notice; SET_EVENT_ENABLE replaces the enable set, tests
attention, and refuses a set with bit 15. -/
def Obligations.EventsAndTheirRequestsTestAttention : Prop :=
  (∀ (k : EventKind) (s : State),
    SameBut [.uplink] s (s.raise k) ∧ (s.raise k).uplink = s.uplink.withRaised k ∧
    (∀ j, hasEvent j (s.raise k).uplink.pendingSet = (decide (j = k) || hasEvent j s.uplink.pendingSet)) ∧
    (hasEvent k s.uplink.pendingSet = true → s.raise k = s) ∧
    (¬ s.uplink.shares → (s.raise k).uplink.shares → (s.raise k).uplink.noticePending = true) ∧
    (s.uplink.shares → (s.raise k).uplink.noticePending = s.uplink.noticePending) ∧
    (¬ (s.raise k).uplink.shares → (s.raise k).uplink.noticePending = s.uplink.noticePending)) ∧
  (∀ (s : State) (tag : Byte), s.hasRoom →
    exec (.readEvents tag []) s = .next { s with uplink :=
      { s.answered 170 tag .ok (be 2 s.uplink.pendingSet.toNat ++ be 2 s.uplink.enableSet.toNat) with
        pendingSet := 0
        noticePending := s.uplink.noticePending && !s.attention } } ∧
    (∀ e : EventSet,
      let before := s.uplink.pendingSet &&& s.uplink.enableSet
      let after := s.uplink.pendingSet &&& e
      exec (.setEventEnable tag (be 2 e.toNat)) s = .next { s with uplink :=
        { s.answered 171 tag .ok [] with
          enableSet := e
          noticePending := if before = 0 ↔ after = 0 then s.uplink.noticePending else decide (after ≠ 0) } }) ∧
    (∀ e1 e0 : Byte, 128 ≤ e1.toNat →
      exec (.setEventEnable tag [e1, e0]) s = .next { s with uplink := s.answered 171 tag .badRequest [] }))

/-- The reads answer the entry or the block they name in its layout, with the length 11.7 gives, and change only the
uplink; an index out of range is BAD_INDEX, a plan slot past 15 and a token index past 511 among them; READ_UPLINK shows
the link ONLINE and the request itself counted; an UNCONFIGURED pedestal is read with its power-on values. The zero
bytes of an EMPTY token entry, an absent decision, an absent plan revision, an absent currency and an absent fault code
are the model's choice (notes/assumptions/16.md and 34.md). -/
def Obligations.ReadsAnswerTheirLayoutAndChangeNothingElse : Prop :=
  (∀ (s : State) (tag : Byte), s.hasRoom →
    (∀ p : Ped, (s.pedestalPayload p).length = 26 ∧ (s.passThroughPayload p).length = 7 ∧
      exec (.readPedestal tag [byte (p.val + 1)]) s =
        .next { s with uplink := s.answered 132 tag .ok (s.pedestalPayload p) } ∧
      exec (.readPassThrough tag [byte (p.val + 1)]) s =
        .next { s with uplink := s.answered 137 tag .ok (s.passThroughPayload p) } ∧
      ((s.ped p).link = .unconfigured → s.pedestalPayload p = 0 :: 255 :: List.replicate 24 0 ∧
        (s.passThroughPayload p).take 6 = List.replicate 6 0)) ∧
    (∀ n : Conn, (s.connectorPayload n).length = 46 ∧
      exec (.readConnector tag [byte n.val]) s =
        .next { s with uplink := s.answered 144 tag .ok (s.connectorPayload n) } ∧
      exec (.readSession tag [byte n.val]) s =
        .next { s with uplink := s.answered 155 tag .ok (s.sessionPayload n) } ∧
      (s.TokensFit → (s.sess n).state ≠ .closed → (s.sessionPayload n).length = 143) ∧
      (s.TokensFit → (s.sess n).state = .closed → (s.sess n).record.isSome = true →
        (s.sessionPayload n).length = 231)) ∧
    (∀ k : PlanSlot, (s.planReadPayload k).length = 37 ∧
      exec (.readPlan tag [byte k.val]) s =
        .next { s with uplink := s.answered 158 tag .ok (s.planReadPayload k) }) ∧
    (∀ i : Fin 512, (s.TokensFit → (entryBytes (tget s.auth.tokens i)).length = 20) ∧
      exec (.readToken tag (be 2 i.val)) s =
        .next { s with uplink := s.answered 149 tag .ok (entryBytes (tget s.auth.tokens i)) }) ∧
    (∀ b : Byte, 48 ≤ b.toNat →
      exec (.readConnector tag [b]) s = .next { s with uplink := s.answered 144 tag .badIndex [] } ∧
      exec (.readSession tag [b]) s = .next { s with uplink := s.answered 155 tag .badIndex [] }) ∧
    (∀ b : Byte, 16 ≤ b.toNat →
      exec (.readPlan tag [b]) s = .next { s with uplink := s.answered 158 tag .badIndex [] }) ∧
    (∀ i1 i0 : Byte, 512 ≤ 256 * i1.toNat + i0.toNat →
      exec (.readToken tag [i1, i0]) s = .next { s with uplink := s.answered 149 tag .badIndex [] }) ∧
    (∀ b : Byte, b.toNat = 0 ∨ 24 < b.toNat →
      exec (.readPedestal tag [b]) s = .next { s with uplink := s.answered 132 tag .badIndex [] } ∧
      exec (.readPassThrough tag [b]) s = .next { s with uplink := s.answered 137 tag .badIndex [] })) ∧
  (∀ (s : State) (tag : Byte), s.hasRoom →
    exec (.readClasses tag []) s = .next { s with uplink := s.answered 136 tag .ok s.classesPayload } ∧
    s.classesPayload.length = 65 ∧
    exec (.readAuth tag []) s = .next { s with uplink := s.answered 150 tag .ok s.authPayload } ∧
    (s.TokensFit → s.authPayload.length = 392 + 22 * s.auth.held.length) ∧
    exec (.readClock tag []) s = .next { s with uplink := s.answered 162 tag .ok s.clockPayload } ∧
    s.clockPayload.length = 37 + 3 * s.clock.schedule.length ∧
    exec (.readAllocation tag []) s = .next { s with uplink := s.answered 167 tag .ok s.allocationPayload } ∧
    s.allocationPayload.length = 478 ∧
    ∃ answer, exec (.readUplink tag []) s = .next { s with uplink := s.answered 173 tag .ok answer } ∧
      answer = [0] ++ be 2 s.uplink.silenceTime ++ [1] ++ be 6 (s.sec + s.uplink.silenceTime)
        ++ [byte s.uplink.responses.length] ++ be 2 s.uplink.checkFails ++ be 2 s.uplink.framingErrors
        ++ be 2 s.uplink.overruns ++ be 4 (s.uplink.requestsTaken + 1).toNat
        ++ [flagByte s.attention, flagByte s.uplink.noticePending])

/-! ### Configuration requests -/

/-- The requests that set timing and policy parameters force each operand to the nearer bound of its range, set their
parameters, answer CLAMPED when one was forced, and change nothing else; an acceptance byte that is neither 0 nor 1 is
BAD_REQUEST. A lowered maximum duration applies to a session already past it from the next second on, which the model
keeps in a field of its own (notes/assumptions/33.md). -/
def Obligations.ParameterRequestsForceTheirOperands : Prop :=
  (∀ (s : State) (tag : Byte), s.hasRoom →
    (∀ r p1 p0 c : Byte,
      let asked := 256 * p1.toNat + p0.toNat
      let reply := max 2 (min 100 r.toNat)
      let poll := max 200 (min 5000 asked)
      let roll := max 1 (min 30 c.toNat)
      exec (.setLineTiming tag [r, p1, p0, c]) s = .next { s with
        line := { s.line with replyTimeout := reply, pollPeriod := poll, rollPeriod := roll }
        uplink := s.answered 130 tag
          (if reply = r.toNat ∧ poll = asked ∧ roll = c.toNat then .ok else .clamped) [] }) ∧
    (∀ t1 t0 r : Byte,
      let asked := 256 * t1.toNat + t0.toNat
      let settle := max 100 (min 2000 asked)
      let release := max 2 (min 20 r.toNat)
      exec (.setSequencing tag [t1, t0, r]) s = .next { s with
        sequencer := { s.sequencer with settleTime := settle, idleRelease := release }
        uplink := s.answered 138 tag (if settle = asked ∧ release = r.toNat then .ok else .clamped) [] }) ∧
    (∀ r1 r0 t1 t0 h : Byte,
      let askedReady := 256 * r1.toNat + r0.toNat
      let askedStop := 256 * t1.toNat + t0.toNat
      let ready := max 10 (min 600 askedReady)
      let stop := max 30 (min 600 askedStop)
      let hours := max 1 (min 48 h.toNat)
      exec (.setSessionTiming tag [r1, r0, t1, t0, h]) s = .next { s with
        sessions := { s.sessions with
          readyWait := ready, stopWait := stop, maxHours := hours,
          maxFrom := if hours < s.sessions.maxHours then s.sec + 1 else s.sessions.maxFrom }
        uplink := s.answered 154 tag
          (if ready = askedReady ∧ stop = askedStop ∧ hours = h.toNat then .ok else .clamped) [] })) ∧
  (∀ (s : State) (tag : Byte), s.hasRoom →
    (∀ (d : Byte) (accept : Bool) (limit : Nat), limit < 4294967296 →
      let timeout := max 1 (min 30 d.toNat)
      exec (.setAuthPolicy tag ([d, if accept then 1 else 0] ++ be 4 limit)) s = .next { s with
        auth := { s.auth with queryTimeout := timeout, offlineAccept := accept, offlineLimit := limit }
        uplink := s.answered 145 tag (if timeout = d.toNat then .ok else .clamped) [] }) ∧
    (∀ d o l3 l2 l1 l0 : Byte, 2 ≤ o.toNat →
      exec (.setAuthPolicy tag [d, o, l3, l2, l1, l0]) s =
        .next { s with uplink := s.answered 145 tag .badRequest [] }) ∧
    (∀ h1 h0 : Byte,
      let asked := 256 * h1.toNat + h0.toNat
      exec (.setHeadroom tag [h1, h0]) s = .next { s with
        metering := { s.metering with headroom := min 10000 asked }
        uplink := s.answered 163 tag (if asked ≤ 10000 then .ok else .clamped) [] }) ∧
    (∀ y h r : Byte,
      let hysteresis := max 1 (min 20 y.toNat)
      let hold := max 5 (min 120 h.toNat)
      let renew := if hold ≤ max 1 (min 60 r.toNat) then hold - 1 else max 1 (min 60 r.toNat)
      exec (.setSetpointTiming tag [y, h, r]) s = .next { s with
        alloc := { s.alloc with hysteresis := hysteresis, hold := hold, renew := renew }
        uplink := s.answered 166 tag
          (if hysteresis = y.toNat ∧ hold = h.toNat ∧ renew = r.toNat then .ok else .clamped) [] }))

/-- SET_UPLINK_TIMING, whole: the form, the forced range, the result, the deadline set again from the new silence
time, and RESTART, which keeps the silence time. -/
def Obligations.UplinkTimingSetsTheSilenceTime : Prop :=
  ∀ (s : State) (tag : Byte), s.hasRoom →
    (∀ payload : Frame, payload.length ≠ 2 → payload.length ≤ 250 →
      exec (.setUplinkTiming tag payload) s = .next { s with uplink := s.answered 172 tag .badRequest [] }) ∧
    (∀ t1 t0 : Byte,
      let asked := 256 * t1.toNat + t0.toNat
      let time := max 5 (min 300 asked)
      exec (.setUplinkTiming tag [t1, t0]) s = .next { s with uplink :=
        { s.answered 172 tag (if time = asked then .ok else .clamped) [] with
          silenceTime := time
          silenceDeadline := some (s.sec + time) } }) ∧
    ∃ t, exec (.restart tag []) s = .next t ∧ t.uplink.silenceTime = s.uplink.silenceTime

/-! ### Pedestals -/

/-- SET_PEDESTAL with present yes: the entry and the configuration it leaves; a new entry begins PROBING, a configured
one only takes the slot, and a pass is made when a power field of a configured one changed. -/
def Obligations.SetPedestalConfiguresIt : Prop :=
  ∀ (s : State) (p : Ped) (k : Fin 24) (tag l1 l0 a1 a0 b1 b0 fa fb plans : Byte), s.hasRoom →
    (∀ q, q ≠ p → (s.ped q).configured = true → (s.ped q).slot ≠ some k) →
    let l := 256 * l1.toNat + l0.toNat
    let a := 256 * a1.toNat + a0.toNat
    let b := 256 * b1.toNat + b0.toNat
    let c := s.config p
    let changed := c.limit ≠ min 600 l ∨ c.ratingA ≠ min 400 a ∨ c.ratingB ≠ min 400 b ∨
      c.failsafeA ≠ min 50 fa.toNat ∨ c.failsafeB ≠ min 50 fb.toNat
    ∃ t, exec (.setPedestal tag [byte (p.val + 1), 1, byte k.val, l1, l0, a1, a0, b1, b0, fa, fb, plans]) s = .next t ∧
      SameBut [.line, .alloc, .uplink] s t ∧
      t.uplink = s.answered 129 tag
        (if l ≤ 600 ∧ a ≤ 400 ∧ b ≤ 400 ∧ fa.toNat ≤ 50 ∧ fb.toNat ≤ 50 then .ok else .clamped) [] ∧
      t.ped p = (if (s.ped p).configured then { s.ped p with slot := some k } else
        { s.ped p with
          configured := true, slot := some k, link := .probing, failCount := 0, absentCount := 0, checkFails := 0,
          resync := false }) ∧
      (∀ q, q ≠ p → t.ped q = s.ped q) ∧ t.line.inflight = s.line.inflight ∧
      (t.config p).limit = min 600 l ∧ (t.config p).ratingA = min 400 a ∧ (t.config p).ratingB = min 400 b ∧
      (t.config p).failsafeA = min 50 fa.toNat ∧ (t.config p).failsafeB = min 50 fb.toNat ∧
      (t.config p).planA.val = plans.toNat / 16 ∧ (t.config p).planB.val = plans.toNat % 16 ∧
      (∀ q, q ≠ p → { t.config q with limitUsed := (s.config q).limitUsed } = s.config q) ∧
      ((s.ped p).configured = true → changed → PassTaken t) ∧
      ((s.ped p).configured = false ∨ ¬ changed → t.line.slots = s.line.slots ∧ t.alloc.setpoints = s.alloc.setpoints ∧
        ∀ q, (t.config q).limitUsed = (s.config q).limitUsed)

/-- SET_PEDESTAL with present no: an idle pedestal's own state returns to its power-on values and its transaction on the
line is discarded; an unconfigured one changes nothing. The refusals of either form: a number or slot out of range, a
slot another configured pedestal holds, an absence asked of a pedestal in use; nothing but the answer changes. (The
value 0 of an emptied decrease slot is the model's choice, notes/assumptions/4.md.) -/
def Obligations.SetPedestalAbsenceAndRefusals : Prop :=
  (∀ (s : State) (p : Ped) (tag : Byte), s.hasRoom →
    (∀ x, (s.sess (connOf p x)).state = .empty ∧ (s.seq (connOf p x)).contactor = .opened) →
    ((s.ped p).configured = false →
      exec (.setPedestal tag [byte (p.val + 1), 0]) s = .next { s with uplink := s.answered 129 tag .ok [] }) ∧
    ((s.ped p).configured = true →
      ∃ t, exec (.setPedestal tag [byte (p.val + 1), 0]) s = .next t ∧
        SameBut [.line, .classifier, .alloc, .uplink] s t ∧ t.uplink = s.answered 129 tag .ok [] ∧
        t.ped p = Pedestal.initial ∧ t.counts p = ⟨0, 0, 0⟩ ∧ t.config p = ⟨0, 0, 0, 0, 0, 0, 0, 0⟩ ∧
        (∀ x, t.slots (connOf p x) = ⟨false, false, 0⟩ ∧
          t.setpoint (connOf p x) = ⟨0, 0, 0, none, .steady, false, none⟩) ∧
        (∀ q, q ≠ p → t.ped q = s.ped q ∧ t.counts q = s.counts q ∧ t.config q = s.config q) ∧
        (∀ n, pedOf n ≠ p → t.slots n = s.slots n ∧ t.setpoint n = s.setpoint n) ∧
        t.classifier.actions = s.classifier.actions ∧ t.classifier.passUp = s.classifier.passUp ∧
        t.line.inflight = s.line.inflight.map fun x =>
          { x with discarded := x.discarded || decide (x.target = some p) })) ∧
  (∀ (s : State) (tag b : Byte) (rest : Frame), s.hasRoom → rest.length = 9 →
    (∀ k : Byte, b.toNat = 0 ∨ 24 < b.toNat ∨ 24 ≤ k.toNat →
      exec (.setPedestal tag ([b, 1, k] ++ rest)) s = .next { s with uplink := s.answered 129 tag .badIndex [] }) ∧
    (b.toNat = 0 ∨ 24 < b.toNat →
      exec (.setPedestal tag [b, 0]) s = .next { s with uplink := s.answered 129 tag .badIndex [] }) ∧
    (∀ (p q : Ped) (k : Fin 24), q ≠ p → (s.ped q).configured = true → (s.ped q).slot = some k →
      exec (.setPedestal tag ([byte (p.val + 1), 1, byte k.val] ++ rest)) s =
        .next { s with uplink := s.answered 129 tag .inUse [] }) ∧
    (∀ (p : Ped) (x : Letter),
      (s.sess (connOf p x)).state ≠ .empty ∨ (s.seq (connOf p x)).contactor ≠ .opened →
      exec (.setPedestal tag [byte (p.val + 1), 0]) s = .next { s with uplink := s.answered 129 tag .inUse [] }))

/-- CLEAR_PEDESTAL of a configured pedestal: its transaction is discarded, its queue holds one CLEAR, its counts, safety
slots, faults and setpoints are cleared, each contactor stands OPEN or reopens under its lock, and each session ends.
The records that join the settlement queue are those of the sessions that ended, at most one of each connector. The
other pedestals and connectors keep theirs. A number out of range is BAD_INDEX and an UNCONFIGURED pedestal WRONG_STATE.
(The value 0 of an emptied decrease slot is the model's choice, notes/assumptions/4.md, and so is the order of the
blocks' effects, notes/assumptions/18.md.) -/
def Obligations.ClearPedestalClearsItsState : Prop :=
  (∀ (s : State) (tag : Byte), s.hasRoom →
    (∀ b : Byte, b.toNat = 0 ∨ 24 < b.toNat →
      exec (.clearPedestal tag [b]) s = .next { s with uplink := s.answered 131 tag .badIndex [] }) ∧
    (∀ p, (s.ped p).link = .unconfigured →
      exec (.clearPedestal tag [byte (p.val + 1)]) s =
        .next { s with uplink := s.answered 131 tag .wrongState [] })) ∧
  ∀ (s : State) (p : Ped) (tag : Byte), s.hasRoom → s.HeldSound → s.OpenUnlocked → (s.ped p).link ≠ .unconfigured →
    ∃ t, exec (.clearPedestal tag [byte (p.val + 1)]) s = .next t ∧
      SameBut [.line, .classifier, .sequencer, .auth, .sessions, .tariff, .alloc, .settlement, .uplink] s t ∧
      t.ped p = { s.ped p with
        queue := [⟨.clear, .lineController⟩], checkFails := 0, disposition := .none } ∧
      t.counts p = ⟨0, 0, 0⟩ ∧
      (s.line.inflight = none → t.line.inflight = none) ∧
      (∀ x, s.line.inflight = some x → ∃ y, t.line.inflight = some y ∧ y.kind = x.kind ∧ y.target = x.target ∧
        y.attempt = x.attempt ∧ y.discarded = (x.discarded || decide (x.target = some p))) ∧
      (∀ x, let n := connOf p x
        (t.seq n).fault = none ∧ (t.seq n).locks = (s.seq n).locks ∧ (t.seq n).openPending = false ∧
        (t.seq n).settleDeadline = none ∧ (t.seq n).attempt = 1 ∧
        (t.seq n).contactor = (if (s.seq n).contactor = .locked then .locked
          else if (s.seq n).locks = ⟨false, false⟩ then .opened else .opening) ∧
        t.slots n = ⟨decide ((t.seq n).contactor = .opening), false, 0⟩ ∧
        (t.setpoint n).target = 0 ∧ (t.setpoint n).grant = 0 ∧ (t.setpoint n).holdExpiry = none ∧
        (t.setpoint n).inFlight = none ∧ (t.setpoint n).state = .steady ∧
        ((s.sess n).state = .empty ∨ (s.sess n).state = .closed → t.sess n = s.sess n) ∧
        ((s.sess n).state = .awaitingAuth → t.sess n = Session.initial ∧ ∀ h ∈ t.auth.held, h.conn ≠ n) ∧
        ((s.sess n).state.open_ ∨ (s.sess n).state = .stopping →
          t.sess n = Session.initial ∨
            ((t.sess n).state = .closed ∧ n ∈ t.sessions.waiting ∧
              ((s.sess n).state.open_ → (t.sess n).endReason = some .pedestalClear)))) ∧
      (∀ q, q ≠ p → t.ped q = s.ped q ∧ t.counts q = s.counts q) ∧
      (∀ n, pedOf n ≠ p → t.seq n = s.seq n ∧ t.sess n = s.sess n ∧ (t.slots n).openSet = (s.slots n).openSet ∧
        (t.setpoint n).grant = (s.setpoint n).grant) ∧
      (∃ more, t.settlement.records = s.settlement.records ++ more ∧ (more.map (·.body.conn)).Nodup ∧
        (∀ r ∈ more, ∃ x, let n := connOf p x
          r.body.conn = n ∧ ((s.sess n).state.open_ ∨ (s.sess n).state = .stopping) ∧ t.sess n = Session.initial ∧
          r.body.token = (s.sess n).token ∧ r.body.energyTotal = min (s.sess n).energyTotal 4294967295 ∧
          r.body.endReason =
            (if (s.sess n).state = .stopping then (s.sess n).endReason else some .pedestalClear)) ∧
        ∀ x, let n := connOf p x
          (s.sess n).state.open_ ∨ (s.sess n).state = .stopping → t.sess n = Session.initial →
            ∃ r ∈ more, r.body.conn = n)

/-! ### Message classes and pass-through -/

/-- SET_CLASS, whole: its three checks in order, then the one entry it writes; the pass-up queue, the dispositions and
everything else stay. -/
def Obligations.SetClassFollowsItsChecks : Prop :=
  ∀ (s : State) (tag code action : Byte), s.hasRoom →
    (64 ≤ code.toNat →
      exec (.setClass tag [code, action]) s = .next { s with uplink := s.answered 133 tag .badIndex [] }) ∧
    (∀ c : Code, code.toNat = c.val →
      (4 ≤ action.toNat →
        exec (.setClass tag [code, action]) s = .next { s with uplink := s.answered 133 tag .badRequest [] }) ∧
      (action = 0 ∨ action = 2 → c.val = 0 ∨ 5 ≤ c.val →
        exec (.setClass tag [code, action]) s = .next { s with uplink := s.answered 133 tag .badRequest [] }) ∧
      ∀ a : Action,
        action = (match a with
          | .toOwner => 0
          | .up => 1
          | .toOwnerAndUp => 2
          | .drop => 3) →
        (a = .up ∨ a = .drop ∨ (1 ≤ c.val ∧ c.val ≤ 4)) →
        exec (.setClass tag [code, action]) s = .next { s with
          classifier := { s.classifier with actions := tset s.classifier.actions c a }
          uplink := s.answered 133 tag .ok [] })

/-- PASS_DOWN and DISPLAY are refused in order: BAD_INDEX for a pedestal or a code out of range; BAD_REQUEST for a
payload over 40 bytes, a length field that does not match and a connector byte that is neither A, B nor absent;
WRONG_STATE for an UNCONFIGURED pedestal; FULL for a queue of four. Else one entry joins the tail of the pedestal's
command queue and nothing else changes. -/
def Obligations.DownwardRequestsQueueOneEntry : Prop :=
  (∀ (s : State) (tag b letter code len : Byte) (body : Frame), s.hasRoom → body.length ≤ 246 →
    let pass := exec (.passDown tag ([b, letter, code, len] ++ body)) s
    let show_ := exec (.display tag ([b, letter, len] ++ body)) s
    let outside := b.toNat = 0 ∨ 24 < b.toNat
    let malformed := 40 < len.toNat ∨ body.length ≠ len.toNat ∨ (letter ≠ 0 ∧ letter ≠ 1 ∧ letter ≠ 255)
    (outside ∨ 64 ≤ code.toNat → pass = .next { s with uplink := s.answered 134 tag .badIndex [] }) ∧
    (¬ outside → code.toNat < 64 → malformed →
      pass = .next { s with uplink := s.answered 134 tag .badRequest [] }) ∧
    (outside → show_ = .next { s with uplink := s.answered 135 tag .badIndex [] }) ∧
    (¬ outside → malformed → show_ = .next { s with uplink := s.answered 135 tag .badRequest [] })) ∧
  ∀ (s : State) (p : Ped) (l : Option Letter) (code : Code) (body : Frame) (tag : Byte), s.hasRoom →
    body.length ≤ 40 →
    let pass := exec (.passDown tag ([byte (p.val + 1), Letter.optByte l, byte code.val, byte body.length] ++ body)) s
    let show_ := exec (.display tag ([byte (p.val + 1), Letter.optByte l, byte body.length] ++ body)) s
    let queued := fun (c : QueueCmd) =>
      { s.line with peds := tset s.line.peds p { s.ped p with queue := (s.ped p).queue ++ [⟨c, .classifier⟩] } }
    ((s.ped p).link = .unconfigured →
      pass = .next { s with uplink := s.answered 134 tag .wrongState [] } ∧
      show_ = .next { s with uplink := s.answered 135 tag .wrongState [] }) ∧
    ((s.ped p).link ≠ .unconfigured → 4 ≤ (s.ped p).queue.length →
      pass = .next { s with uplink := s.answered 134 tag .full [] } ∧
      show_ = .next { s with uplink := s.answered 135 tag .full [] }) ∧
    ((s.ped p).link ≠ .unconfigured → (s.ped p).queue.length < 4 →
      pass = .next { s with line := queued (.passDown l code body), uplink := s.answered 134 tag .ok [] } ∧
      show_ = .next { s with line := queued (.display l .text body), uplink := s.answered 135 tag .ok [] })

/-- An offered message: a number told before is only ACCEPTED again; DROP accepts it and does nothing; UP appends it
while the pass-up queue has room, and a full queue holds it, counts it and raises PASS_UP_HELD. LOCAL hands it to its
owner, and LOCAL_AND_UP appends it first: a TOKEN to the decision on it, a STOP_REQUEST to its session, a FAULT_REPORT
to its connector or to both, a SERVICE_SWITCH to both; one that is not well formed has no other effect. A switch-off
that leaves a LOCKED connector without a source returns it to OPEN, where an AUTHORIZED session may start its CLOSE.
(That connector A is handled whole before connector B is the model's choice, notes/assumptions/23.md.) -/
def Obligations.OffersAreAcceptedOrHeld : Prop :=
  (∀ (s : State) (p : Ped) (m : Message),
    ((s.ped p).lastMessage = some m.number →
      s.offerMessage p m =
        { s with line := { s.line with peds := tset s.line.peds p { s.ped p with disposition := .accepted } } }) ∧
    ((s.ped p).lastMessage ≠ some m.number → tget s.classifier.actions m.code = .drop →
      s.offerMessage p m = { s with line := { s.line with
        peds := tset s.line.peds p
          { s.ped p with lastMessage := some m.number, disposition := .accepted } } }) ∧
    ((s.ped p).lastMessage ≠ some m.number → tget s.classifier.actions m.code = .up →
      s.classifier.passUp.length < 16 →
      s.offerMessage p m = { s with
        line := { s.line with
          peds := tset s.line.peds p
            { s.ped p with lastMessage := some m.number, disposition := .accepted } }
        classifier := { s.classifier with
          passUp := s.classifier.passUp ++ [⟨p, m.letter, m.code, m.payload⟩] } }) ∧
    ((s.ped p).lastMessage ≠ some m.number →
      tget s.classifier.actions m.code = .up ∨ tget s.classifier.actions m.code = .toOwnerAndUp →
      16 ≤ s.classifier.passUp.length →
      s.offerMessage p m = { s with
        line := { s.line with peds := tset s.line.peds p { s.ped p with disposition := .hold } }
        classifier := { s.classifier with
          counts := tset s.classifier.counts p
            { s.counts p with held := min ((s.counts p).held + 1) 65535 } }
        uplink := s.uplink.withRaised .passUpHeld })) ∧
  (∀ (s : State) (p : Ped) (m : Message), (s.ped p).lastMessage ≠ some m.number →
    tget s.classifier.actions m.code = .toOwner ∨
      (tget s.classifier.actions m.code = .toOwnerAndUp ∧ s.classifier.passUp.length < 16) →
    let t := s.offerMessage p m
    let offered := { s with classifier := { s.classifier with
      passUp := if tget s.classifier.actions m.code = .toOwner then s.classifier.passUp
        else s.classifier.passUp ++ [⟨p, m.letter, m.code, m.payload⟩] } }
    let accepted := fun (u : State) => { u with line := { u.line with
      peds := tset u.line.peds p { u.ped p with lastMessage := some m.number, disposition := .accepted } } }
    let local_ := fun (touched : List Block) => SameBut (.line :: .classifier :: touched) s t ∧
      t.classifier = offered.classifier ∧ (t.ped p).lastMessage = some m.number ∧
      (t.ped p).disposition = .accepted ∧ (∀ q, q ≠ p → t.ped q = s.ped q) ∧
      ∀ n, pedOf n ≠ p → t.seq n = s.seq n ∧ t.sess n = s.sess n ∧ (t.slots n).openSet = (s.slots n).openSet
    (m.code.val = 0 ∨ 5 ≤ m.code.val ∨ ((m.code = 1 ∨ m.code = 2) ∧ m.letter = none) ∨
      (m.code = 1 ∧ ∀ k : Token, k.fits → m.payload ≠
        (match k.kind with
          | .card => 1
          | .payment => 2) :: byte k.id.length :: k.id) ∨
      (m.code = 2 ∧ m.payload ≠ []) ∨ (m.code = 3 ∧ m.payload.length ≠ 1) ∨
      (m.code = 4 ∧ (m.letter ≠ none ∨ (m.payload ≠ [0] ∧ m.payload ≠ [1]))) → t = accepted offered) ∧
    (∀ l k, m.code = 1 → m.letter = some l → k.fits →
      m.payload = (match k.kind with
        | .card => 1
        | .payment => 2) :: byte k.id.length :: k.id →
      t = accepted (offered.decideToken (connOf p l) k)) ∧
    (∀ l, m.code = 2 → m.letter = some l → m.payload = [] →
      let n := connOf p l
      local_ [.sequencer, .auth, .sessions, .alloc] ∧ StopTaken .userStop n s.sec s t ∧
      ((s.sess n).state.open_ → (t.seq n).contactor = s.contactorAfterOpen n) ∧
      (¬ (s.sess n).state.open_ → t.seq n = s.seq n) ∧
      ∀ x, x ≠ n → t.seq x = s.seq x ∧ t.sess x = s.sess x) ∧
    (∀ code, m.code = 3 → m.payload = [code] →
      local_ [.sequencer, .auth, .sessions, .alloc, .uplink] ∧
      ∀ y, let n := connOf p y
        (m.letter = none ∨ m.letter = some y → FaultTaken (.reported code) n s t) ∧
        (m.letter ≠ none → m.letter ≠ some y → t.seq n = s.seq n ∧ t.sess n = s.sess n)) ∧
    (m.code = 4 → m.letter = none → m.payload = [1] →
      local_ [.sequencer, .auth, .sessions, .alloc] ∧
      ∀ y, let n := connOf p y
        (t.seq n).locks = { (s.seq n).locks with switch := true } ∧ (t.seq n).fault = (s.seq n).fault ∧
        ((s.seq n).locks = ⟨false, false⟩ → StopTaken .lockout n s.sec s t ∧
          ((s.seq n).contactor.live = true → (t.slots n).openSet = true) ∧
          (t.seq n).contactor = (if (s.seq n).contactor = .opened then .locked else s.contactorAfterOpen n)) ∧
        ((s.seq n).locks ≠ ⟨false, false⟩ →
          (t.seq n).contactor = (s.seq n).contactor ∧ t.sess n = s.sess n)) ∧
    (m.code = 4 → m.letter = none → m.payload = [0] →
      ((∃ y, (s.sess (connOf p y)).state = .authorized) →
        (s.ped p).link ≠ .unconfigured ∧ (s.ped p).queue.length ≤ 2) →
      local_ [.sequencer] ∧
      ∀ y, let n := connOf p y
        let freed := { s.seq n with locks := { (s.seq n).locks with switch := false } }
        let unlocked := (s.seq n).locks = ⟨false, true⟩ ∧ (s.seq n).contactor = .locked
        t.sess n = s.sess n ∧ (¬ unlocked → t.seq n = freed) ∧
        (unlocked → OpenEntered { freed with contactor := .opened } n s t)))

/-! ### The connector sequencer -/

/-- LOCKOUT adds the HOST source. On a connector that had no source, an OPEN contactor becomes LOCKED, a live one takes
the open cause, and the session takes the LOCKOUT stop; on one that had a source, nothing else changes. An index out of
range is BAD_INDEX, an UNCONFIGURED pedestal WRONG_STATE. -/
def Obligations.LockoutAddsTheHostSource : Prop :=
  ∀ (s : State) (n : Conn) (tag : Byte), s.hasRoom →
    (∀ b : Byte, 48 ≤ b.toNat →
      exec (.lockout tag [b]) s = .next { s with uplink := s.answered 139 tag .badIndex [] }) ∧
    (s.linkOf n = .unconfigured →
      exec (.lockout tag [byte n.val]) s = .next { s with uplink := s.answered 139 tag .wrongState [] }) ∧
    (s.linkOf n ≠ .unconfigured → (s.seq n).locks ≠ ⟨false, false⟩ →
      exec (.lockout tag [byte n.val]) s = .next { s with
        sequencer := { s.sequencer with
          recs := tset s.sequencer.recs n
            { s.seq n with locks := { (s.seq n).locks with host := true } } }
        uplink := s.answered 139 tag .ok [] }) ∧
    (s.linkOf n ≠ .unconfigured → (s.seq n).locks = ⟨false, false⟩ →
      ∃ t, exec (.lockout tag [byte n.val]) s = .next t ∧
        SameBut [.line, .sequencer, .auth, .sessions, .alloc, .uplink] s t ∧ t.uplink = s.answered 139 tag .ok [] ∧
        (t.seq n).locks = ⟨true, false⟩ ∧
        (t.seq n).contactor =
          (if (s.seq n).contactor = .opened then .locked else s.contactorAfterOpen n) ∧
        ((s.seq n).contactor.live = true → (t.slots n).openSet = true) ∧
        ((s.seq n).contactor = .closing → (t.seq n).openPending = !(s.closeWaits n)) ∧
        StopTaken .lockout n s.sec s t ∧ (t.seq n).fault = (s.seq n).fault ∧
        (∀ m, m ≠ n → t.seq m = s.seq m ∧ t.sess m = s.sess m ∧ t.decision m = s.decision m) ∧
        (∀ q, q ≠ pedOf n → t.ped q = s.ped q) ∧ t.sequencer.parkStop = s.sequencer.parkStop)

/-- UNLOCK removes the HOST source, in any pedestal state; a LOCKED connector left without a source returns to OPEN.
CLEAR_FAULT returns a FAULTED connector: to OPEN without a lock source, to OPENING with its OPEN slot set under one; any
other contactor state is WRONG_STATE. Back in OPEN, an AUTHORIZED session starts its CLOSE when the close condition
holds. An index out of range is BAD_INDEX. -/
def Obligations.UnlockAndClearFaultReturnAConnector : Prop :=
  (∀ (s : State) (tag b : Byte), s.hasRoom → 48 ≤ b.toNat →
    exec (.unlock tag [b]) s = .next { s with uplink := s.answered 140 tag .badIndex [] } ∧
    exec (.clearFault tag [b]) s = .next { s with uplink := s.answered 141 tag .badIndex [] }) ∧
  (∀ (s : State) (n : Conn) (tag : Byte), s.hasRoom →
    let freed := { s.seq n with locks := { (s.seq n).locks with host := false } }
    let unlocked := (s.seq n).locks = ⟨true, false⟩ ∧ (s.seq n).contactor = .locked
    let left := fun (r : SeqRecord) => { s with
      sequencer := { s.sequencer with recs := tset s.sequencer.recs n r }
      uplink := s.answered 140 tag .ok [] }
    (¬ unlocked → exec (.unlock tag [byte n.val]) s = .next (left freed)) ∧
    (unlocked → (s.sess n).state ≠ .authorized →
      exec (.unlock tag [byte n.val]) s = .next (left { freed with contactor := .opened })) ∧
    (unlocked → (s.sess n).state = .authorized → s.roomForClose n →
      ∃ t, exec (.unlock tag [byte n.val]) s = .next t ∧ SameBut [.line, .sequencer, .uplink] s t ∧
        t.uplink = s.answered 140 tag .ok [] ∧ OpenEntered { freed with contactor := .opened } n s t ∧
        (∀ m, m ≠ n → t.seq m = s.seq m) ∧ ∀ q, q ≠ pedOf n → t.ped q = s.ped q)) ∧
  (∀ (s : State) (n : Conn) (tag : Byte), s.hasRoom →
    ((s.seq n).contactor ≠ .faulted →
      exec (.clearFault tag [byte n.val]) s = .next { s with uplink := s.answered 141 tag .wrongState [] }) ∧
    ((s.seq n).contactor = .faulted → (s.seq n).locks = ⟨false, false⟩ → (s.sess n).state ≠ .authorized →
      exec (.clearFault tag [byte n.val]) s = .next { s with
        sequencer := { s.sequencer with
          recs := tset s.sequencer.recs n
            { s.seq n with fault := none, contactor := .opened } }
        uplink := s.answered 141 tag .ok [] }) ∧
    ((s.seq n).contactor = .faulted → (s.seq n).locks = ⟨false, false⟩ → (s.sess n).state = .authorized →
      s.roomForClose n →
      ∃ t, exec (.clearFault tag [byte n.val]) s = .next t ∧ SameBut [.line, .sequencer, .uplink] s t ∧
        t.uplink = s.answered 141 tag .ok [] ∧
        OpenEntered { s.seq n with fault := none, contactor := .opened } n s t ∧
        (∀ m, m ≠ n → t.seq m = s.seq m) ∧ ∀ q, q ≠ pedOf n → t.ped q = s.ped q) ∧
    ((s.seq n).contactor = .faulted → (s.seq n).locks ≠ ⟨false, false⟩ →
      ∃ t, exec (.clearFault tag [byte n.val]) s = .next t ∧ SameBut [.line, .sequencer, .uplink] s t ∧
        t.uplink = s.answered 141 tag .ok [] ∧
        t.seq n = { s.seq n with fault := none, contactor := .opening, openAcked := false, repliesSinceOpen := 0 } ∧
        (t.slots n).openSet = true ∧ (∀ m, m ≠ n → t.seq m = s.seq m ∧ t.slots m = s.slots m) ∧
        (∀ q, q ≠ pedOf n → t.ped q = s.ped q)))

/-- PARK_STOP: every live contactor takes the open cause, every CHARGING or COMPLETE session stops with PARK_STOP,
every held query is withdrawn; a park stop already in force changes nothing. -/
def Obligations.ParkStopStopsThePark : Prop :=
  ∀ (s : State) (tag : Byte), s.hasRoom → s.HeldSound →
    (s.sequencer.parkStop = true →
      exec (.parkStop tag []) s = .next { s with uplink := s.answered 142 tag .ok [] }) ∧
    (s.sequencer.parkStop = false →
      ∃ t, exec (.parkStop tag []) s = .next t ∧
        SameBut [.line, .sequencer, .auth, .sessions, .alloc, .uplink] s t ∧ t.uplink = s.answered 142 tag .ok [] ∧
        t.sequencer.parkStop = true ∧ t.auth.held = [] ∧
        ∀ n, (t.seq n).contactor = s.contactorAfterOpen n ∧ (t.seq n).locks = (s.seq n).locks ∧
          ((s.seq n).contactor.live = true → (t.slots n).openSet = true) ∧
          ((∃ h ∈ s.auth.held, h.conn = n) → t.sess n = Session.initial) ∧
          ((∀ h ∈ s.auth.held, h.conn ≠ n) → StopTaken .parkStop n s.sec s t) ∧
          (∀ h ∈ s.auth.held, h.conn = n → t.decision n = some ⟨.withdrawn h.tag, s.sec⟩))

/-- PARK_RESUME ends the park stop: every connector that now meets the close condition goes to CLOSING with its CLOSE at
its pedestal's queue; the others stay, and without a park stop nothing changes. (Queue room is asked only of the
pedestals of connectors that meet the condition: one place for each such connector.) -/
def Obligations.ParkResumeTestsTheCloseCondition : Prop :=
  ∀ (s : State) (tag : Byte), s.hasRoom →
    let meets := fun (n : Conn) => s.readyToClose n ∧ (s.sess n).state = .authorized
    (s.sequencer.parkStop = false →
      exec (.parkResume tag []) s = .next { s with uplink := s.answered 143 tag .ok [] }) ∧
    (s.sequencer.parkStop = true →
      (∀ n, meets n → s.roomForClose n ∧
        ((∀ m, pedOf m = pedOf n → meets m) → (s.ped (pedOf n)).queue.length ≤ 2)) →
      ∃ t, exec (.parkResume tag []) s = .next t ∧ SameBut [.line, .sequencer, .uplink] s t ∧
        t.uplink = s.answered 143 tag .ok [] ∧ t.sequencer.parkStop = false ∧ t.line.slots = s.line.slots ∧
        t.line.inflight = s.line.inflight ∧
        (∀ n, (meets n → t.seq n = (s.seq n).startClose ∧ t.closeWaits n = true) ∧
          (¬ meets n → t.seq n = s.seq n)) ∧
        ∀ p, (∀ n, pedOf n = p → ¬ meets n) → t.ped p = s.ped p)

/-! ### Tokens and authorization -/

/-- The matching entry of a token is the entry of the lowest index that holds the same token; an id is watched when
the bit its weighted byte sum names, modulo 1,024, is set. -/
def Obligations.LookupTakesTheLowestIndex : Prop :=
  (∀ (s : State) (t : Token) (e : TokenEntry),
    s.lookup t = some e ↔
      ∃ i, tget s.auth.tokens i = some e ∧ e.token = t ∧
        ∀ j, j.val < i.val → ∀ x, tget s.auth.tokens j = some x → x.token ≠ t) ∧
  (∀ (s : State) (id : Frame) (k : Fin 8) (j : Fin 128),
    (((id.zipIdx.map fun x => x.1.toNat * (2 * x.2 + 1)).sum) % 1024 = 128 * k.val + j.val) →
      s.watched id = (tget s.auth.watch k).getLsbD j.val)

/-- LOAD_TOKENS of good form writes its entries one by one from the first index to index 511, reports how many were
written, and answers BAD_INDEX when it stopped early; one entry out of form refuses the whole load (that a first byte
above 1 is out of form is the model's choice, notes/assumptions/11.md). LOAD_WATCH writes one segment, most significant
bit of each byte first; a segment past 7 is BAD_INDEX. CLEAR_TOKENS empties the table and leaves the bitmap. -/
def Obligations.TokenTableAndWatchAreWritten : Prop :=
  (∀ (s : State) (tag : Byte) (first : Nat) (es : List (Option TokenEntry)), s.hasRoom → first < 65536 →
    1 ≤ es.length → es.length ≤ 8 → (∀ e, some e ∈ es → e.token.fits ∧ e.limit < 4294967296) →
    ∃ t, exec (.loadTokens tag (be 2 first ++ [byte es.length] ++ es.flatMap entryBytes)) s = .next t ∧
      SameBut [.auth, .uplink] s t ∧ { t.auth with tokens := s.auth.tokens } = s.auth ∧
      (∀ i : Fin 512, tget t.auth.tokens i =
        if first ≤ i.val then (es[i.val - first]?).getD (tget s.auth.tokens i) else tget s.auth.tokens i) ∧
      t.uplink = s.answered 146 tag (if first + es.length ≤ 512 then .ok else .badIndex)
        [byte (min es.length (512 - first))]) ∧
  (∀ (s : State) (tag i1 i0 count flag status cls b3 b2 b1 b0 plan : Byte) (before token rest : Frame), s.hasRoom →
    1 ≤ count.toNat → count.toNat ≤ 8 → token.length = 12 → before.length % 20 = 0 →
    before.length + 20 + rest.length = 20 * count.toNat →
    2 ≤ flag.toNat ∨ (flag = 1 ∧ (2 ≤ status.toNat ∨ 4 ≤ cls.toNat ∨ (16 ≤ plan.toNat ∧ plan ≠ 255) ∨
      ∀ k : Token, k.fits → tokenBytes (some k) ≠ token)) →
    exec (.loadTokens tag ([i1, i0, count] ++ before ++ (flag :: token) ++ [status, cls, b3, b2, b1, b0, plan] ++ rest))
      s = .next { s with uplink := s.answered 146 tag .badRequest [] }) ∧
  (∀ (s : State) (tag : Byte), s.hasRoom →
    (∀ (k : Fin 8) (bits : Frame), bits.length = 16 →
      ∃ seg : BitVec 128, (∀ j : Fin 128, seg.getLsbD j.val = (bits.getD (j.val / 8) 0).getLsbD (7 - j.val % 8)) ∧
        exec (.loadWatch tag (byte k.val :: bits)) s = .next { s with
          auth := { s.auth with watch := tset s.auth.watch k seg }
          uplink := s.answered 147 tag .ok [] }) ∧
    (∀ (b : Byte) (bits : Frame), bits.length = 16 → 8 ≤ b.toNat →
      exec (.loadWatch tag (b :: bits)) s = .next { s with uplink := s.answered 147 tag .badIndex [] }) ∧
    exec (.clearTokens tag []) s = .next { s with
      auth := { s.auth with tokens := Vector.replicate 512 none }
      uplink := s.answered 148 tag .ok [] })

/-- A token presented is first compared with its own running session, then refused for the first reason that holds, in
order; only past these tests do the table and the watch bitmap decide: BLOCK refuses, and a card that is not watched is
accepted here on its entry. What is left asks the host with a query while the uplink is ONLINE and the held list has
room; OFFLINE, the offline rule decides at once, without a query, a tag or a late-answer tag. -/
def Obligations.TokenDecisionsFollowTheirOrder : Prop :=
  ∀ (s : State) (n : Conn) (k : Token),
    let stops := ((s.sess n).state = .charging ∨ (s.sess n).state = .complete) ∧ (s.sess n).token = some k
    let t := s.decideToken n k
    (stops → StopTaken .userStop n s.sec s t ∧ t.decision n = some ⟨.stop, s.sec⟩) ∧
    (¬ stops → (s.sess n).state ≠ .empty → Refused n .sessionPresent s t ∧ SameBut [.line, .auth] s t) ∧
    ((s.sess n).state = .empty → (s.seq n).locks ≠ ⟨false, false⟩ →
      Refused n .locked s t ∧ SameBut [.line, .auth] s t) ∧
    ((s.sess n).state = .empty → (s.seq n).locks = ⟨false, false⟩ → (s.seq n).contactor = .faulted →
      Refused n .faulted s t ∧ SameBut [.line, .auth] s t) ∧
    ((s.sess n).state = .empty → (s.seq n).locks = ⟨false, false⟩ → (s.seq n).contactor ≠ .faulted →
      (s.sequencer.parkStop = true → Refused n .parkStop s t ∧ SameBut [.line, .auth] s t) ∧
      (s.sequencer.parkStop = false →
        (∀ e, s.lookup k = some e → e.blocked = true → Refused n .blocked s t ∧ SameBut [.line, .auth] s t) ∧
        (∀ e, s.lookup k = some e → e.blocked = false → k.kind = .card → s.watched k.id = false → s.roomForClose n →
          let slot := planTaken (some e) none (s.defaultPlan n)
          ((s.plan slot).loaded = false → Refused n .noTariff s t ∧ SameBut [.line, .auth] s t) ∧
          ((s.plan slot).loaded = true → Accepted n ⟨some k, .here, e.cls, e.limit, slot, none⟩ s t)) ∧
        ((∀ e, s.lookup k = some e → e.blocked = false) →
          k.kind = .payment ∨ s.watched k.id = true ∨ s.lookup k = none → s.uplink.link = .online →
          (8 ≤ s.auth.held.length → Refused n .busy s t ∧ SameBut [.line, .auth] s t) ∧
          (s.auth.held.length < 8 →
            (t.sess n).state = .awaitingAuth ∧ (t.sess n).token = some k ∧ t.auth.nextTag = s.auth.nextTag + 1 ∧
            t.decision n = some ⟨.held s.auth.nextTag, s.sec⟩ ∧
            ∃ why, t.auth.held = s.auth.held ++
              [⟨n, s.auth.nextTag, k, why, s.sec + s.auth.queryTimeout, false⟩] ∧
              (k.kind = .payment → why = .payment) ∧
              (k.kind = .card → s.lookup k = none → why = .notInTable) ∧
              (k.kind = .card → s.lookup k ≠ none → why = .watched))) ∧
        ((∀ e, s.lookup k = some e → e.blocked = false) →
          k.kind = .payment ∨ s.watched k.id = true ∨ s.lookup k = none → s.uplink.link = .offline →
          let slot := planTaken (s.lookup k) none (s.defaultPlan n)
          let bought : Option (Source × ClassNo × Nat) := match s.lookup k, k.kind with
            | some e, _ => some (.offlineTable, e.cls, e.limit)
            | none, .card => if s.auth.offlineAccept then some (.offlinePark, 0, s.auth.offlineLimit) else none
            | none, .payment => none
          t.auth.held = s.auth.held ∧ t.auth.nextTag = s.auth.nextTag ∧
          (∀ x, bought = some x → (s.plan slot).loaded = true → s.roomForClose n →
            Accepted n ⟨some k, x.1, x.2.1, x.2.2, slot, none⟩ s t) ∧
          (∀ x, bought = some x → (s.plan slot).loaded = false → Refused n .noTariff s t ∧ SameBut [.line, .auth] s t) ∧
          (bought = none → Refused n .offline s t ∧ SameBut [.line, .auth] s t))))

/-- An answer on time ends its held query: a REJECT refuses it, an ACCEPT is accepted on the plan slot chosen when that
slot is LOADED and refused with NO_TARIFF when it is EMPTY. Whatever it answers, AUTH_ANSWER first checks its operands:
a connector or plan slot out of range is BAD_INDEX, then a verdict or class out of range BAD_REQUEST. -/
def Obligations.AnswersOnTimeDecideTheQuery : Prop :=
  (∀ (s : State) (tag n qtag verdict b3 b2 b1 b0 cls plan : Byte), s.hasRoom →
    let answer := exec (.authAnswer tag [n, qtag, verdict, b3, b2, b1, b0, cls, plan]) s
    let outside := 48 ≤ n.toNat ∨ (16 ≤ plan.toNat ∧ plan ≠ 255)
    (outside → answer = .next { s with uplink := s.answered 151 tag .badIndex [] }) ∧
    (¬ outside → 2 ≤ verdict.toNat ∨ 4 ≤ cls.toNat →
      answer = .next { s with uplink := s.answered 151 tag .badRequest [] })) ∧
  ∀ (s : State) (h : HeldEntry) (tag b3 b2 b1 b0 : Byte) (cls : ClassNo) (given : Option PlanSlot), s.hasRoom →
    s.HeldSound → h ∈ s.auth.held →
    let rest := [b3, b2, b1, b0, byte cls.val, match given with
      | some k => byte k.val
      | none => 255]
    let budget := num [b3, b2, b1, b0]
    let n := h.conn
    let slot := planTaken (s.lookup h.token) given (s.defaultPlan n)
    let kept := s.auth.held.filter fun x => x.conn ≠ n
    (∃ t, exec (.authAnswer tag ([byte n.val, h.tag, 1] ++ rest)) s = .next t ∧
      SameBut [.line, .auth, .sessions, .uplink] s t ∧ Refused n .rejected s t ∧ t.sess n = Session.initial ∧
      t.auth.held = kept ∧ t.uplink = s.answered 151 tag .ok [2] ∧ ∀ m, m ≠ n → t.sess m = s.sess m) ∧
    ((s.plan slot).loaded = false →
      ∃ t, exec (.authAnswer tag ([byte n.val, h.tag, 0] ++ rest)) s = .next t ∧
        SameBut [.line, .auth, .sessions, .uplink] s t ∧ Refused n .noTariff s t ∧ t.sess n = Session.initial ∧
        t.auth.held = kept ∧ t.uplink = s.answered 151 tag .ok [1] ∧ ∀ m, m ≠ n → t.sess m = s.sess m) ∧
    ((s.plan slot).loaded = true → s.roomForClose n →
      ∃ t, exec (.authAnswer tag ([byte n.val, h.tag, 0] ++ rest)) s = .next t ∧
        SameBut [.line, .sequencer, .auth, .sessions, .tariff, .uplink] s t ∧
        Accepted n ⟨some h.token, .online, cls, budget, slot, none⟩ s t ∧ t.auth.held = kept ∧
        t.uplink = s.answered 151 tag .ok [0] ∧ ∀ m, m ≠ n → t.sess m = s.sess m ∧ t.seq m = s.seq m)

/-- An answer that matches no held query: to a session that waits for this tag's late answer an ACCEPT gives the new
budget and the budget check, a REJECT the flag and the stop, or the flag alone when it is STOPPING already; any other
answer is ignored and raises LATE_ANSWER. -/
def Obligations.LateAnswersAdjustOrAreIgnored : Prop :=
  ∀ (s : State) (n : Conn) (tag qtag b3 b2 b1 b0 : Byte) (cls : ClassNo) (verdict : Bool), s.hasRoom →
    (∀ h ∈ s.auth.held, h.conn = n → h.tag ≠ qtag) →
    let command := Instr.authAnswer tag
      [byte n.val, qtag, if verdict then 0 else 1, b3, b2, b1, b0, byte cls.val, 255]
    let e := s.sess n
    let budget := max (num [b3, b2, b1, b0]) e.running
    let adjusted := { e with lateTag := none, budget := budget, threshold := budget - s.metering.headroom }
    let rejected := { e with lateTag := none, flags := e.flags ||| 32 }
    (e.lateTag ≠ some qtag →
      exec command s = .next { s with uplink := (s.answered 151 tag .ok [5]).withRaised .lateAnswer }) ∧
    (e.lateTag = some qtag → verdict = true → e.state = .charging ∨ e.state = .complete →
      ∃ t, exec command s = .next t ∧ SameBut [.line, .sequencer, .auth, .sessions, .alloc, .uplink] s t ∧
        t.uplink = s.answered 151 tag .ok [3] ∧ t.decision n = some ⟨.lateAccepted qtag, s.sec⟩ ∧
        t.sess n = (if adjusted.threshold ≤ adjusted.running then
          adjusted.stoppedAt .budget (s.sec + s.sessions.stopWait) else adjusted) ∧
        ∀ m, m ≠ n → t.sess m = s.sess m ∧ t.seq m = s.seq m) ∧
    (e.lateTag = some qtag → verdict = true → e.state = .authorized ∨ e.state = .stopping →
      exec command s = .next { s with
        sessions := { s.sessions with entries := tset s.sessions.entries n adjusted }
        auth := { s.auth with
          decisions := tset s.auth.decisions n (some ⟨.lateAccepted qtag, s.sec⟩) }
        uplink := s.answered 151 tag .ok [3] }) ∧
    (e.lateTag = some qtag → verdict = false → e.state = .stopping →
      exec command s = .next { s with
        sessions := { s.sessions with entries := tset s.sessions.entries n rejected }
        auth := { s.auth with
          decisions := tset s.auth.decisions n (some ⟨.lateRejected qtag, s.sec⟩) }
        uplink := s.answered 151 tag .ok [4] }) ∧
    (e.lateTag = some qtag → verdict = false → e.state.open_ →
      ∃ t, exec command s = .next t ∧ SameBut [.line, .sequencer, .auth, .sessions, .alloc, .uplink] s t ∧
        t.uplink = s.answered 151 tag .ok [4] ∧ t.decision n = some ⟨.lateRejected qtag, s.sec⟩ ∧
        t.sess n = rejected.stoppedAt .lateReject (s.sec + s.sessions.stopWait) ∧
        (t.seq n).contactor = s.contactorAfterOpen n ∧
        ∀ m, m ≠ n → t.sess m = s.sess m ∧ t.seq m = s.seq m)

/-- REMOTE_START checks in order: BAD_INDEX for a connector or plan slot out of range; BAD_REQUEST for a class out of
range or a token out of form (that kind 0 is absent whatever follows it is the model's reading,
notes/assumptions/11.md); WRONG_STATE for an UNCONFIGURED pedestal, a session present, a lock or a fault; EMPTY with the
decision NO_TARIFF for an EMPTY plan slot. Else it is an acceptance from source REMOTE, the token its record or none. -/
def Obligations.RemoteStartAcceptsOrRefuses : Prop :=
  (∀ (s : State) (tag n b3 b2 b1 b0 cls plan : Byte) (token : Frame), s.hasRoom → token.length = 12 →
    let start := exec (.remoteStart tag ([n, b3, b2, b1, b0, cls, plan] ++ token)) s
    let outside := 48 ≤ n.toNat ∨ (16 ≤ plan.toNat ∧ plan ≠ 255)
    (outside → start = .next { s with uplink := s.answered 152 tag .badIndex [] }) ∧
    (¬ outside → 4 ≤ cls.toNat ∨ (token.head? ≠ some 0 ∧ ∀ k : Token, k.fits → tokenBytes (some k) ≠ token) →
      start = .next { s with uplink := s.answered 152 tag .badRequest [] })) ∧
  ∀ (s : State) (n : Conn) (tag b3 b2 b1 b0 : Byte) (cls : ClassNo) (given : Option PlanSlot) (token : Option Token),
    s.hasRoom → (∀ k, token = some k → k.fits) →
    let command := Instr.remoteStart tag ([byte n.val, b3, b2, b1, b0, byte cls.val, match given with
      | some k => byte k.val
      | none => 255] ++ tokenBytes token)
    let slot := given.getD (s.defaultPlan n)
    let startable := s.linkOf n ≠ .unconfigured ∧ (s.sess n).state = .empty ∧ (s.seq n).locks = ⟨false, false⟩ ∧
      (s.seq n).contactor ≠ .faulted
    (¬ startable → exec command s = .next { s with uplink := s.answered 152 tag .wrongState [] }) ∧
    (startable → (s.plan slot).loaded = false → exec command s = .next { s with
      auth := { s.auth with decisions := tset s.auth.decisions n (some ⟨.refused .noTariff, s.sec⟩) }
      uplink := s.answered 152 tag .empty [] }) ∧
    (startable → (s.plan slot).loaded = true → (s.ped (pedOf n)).queue.length < 4 →
      ∃ t, exec command s = .next t ∧ SameBut [.line, .sequencer, .auth, .sessions, .tariff, .uplink] s t ∧
        Accepted n ⟨token, .remote, cls, num [b3, b2, b1, b0], slot, none⟩ s t ∧
        t.uplink = s.answered 152 tag .ok [] ∧ t.auth.held = s.auth.held ∧
        (s.linkOf n = .probing ∨ s.linkOf n = .quiet →
          t.linkOf n = .active ∧ (t.ped (pedOf n)).nextPoll = some s.clock.ms) ∧
        ∀ m, m ≠ n → t.sess m = s.sess m ∧ t.seq m = s.seq m)

/-- A held query at its deadline leaves the held list, raises AUTH_TIMEOUT, and the offline rule decides its token: the
token table first, then the park's offline acceptance for a card, else a refusal with OFFLINE. (That time passes to the
deadline, and that one already passed is taken now, is the model's choice, notes/assumptions/5.md.) -/
def Obligations.QueryDeadlineAppliesTheOfflineRule : Prop :=
  ∀ (s : State) (h : HeldEntry), s.HeldSound → h ∈ s.auth.held → h.deadline * 1000 ≤ Config.lastMs →
    s.roomForClose h.conn →
    let n := h.conn
    let slot := planTaken (s.lookup h.token) none (s.defaultPlan n)
    let bought : Option (Source × ClassNo × Nat) := match s.lookup h.token, h.token.kind with
      | some e, _ => if e.blocked then none else some (.offlineTable, e.cls, e.limit)
      | none, .card => if s.auth.offlineAccept then some (.offlinePark, 0, s.auth.offlineLimit) else none
      | none, .payment => none
    ∃ t, exec (.queryDeadline n) s = .next t ∧
      SameBut [.line, .sequencer, .auth, .sessions, .tariff, .clock, .uplink] s t ∧
      ClockAt (h.deadline * 1000) s.clock t.clock ∧ t.uplink = s.uplink.withRaised .authTimeout ∧
      t.auth.held = (s.auth.held.filter fun x => x.conn ≠ n) ∧
      (∀ m, m ≠ n → t.sess m = s.sess m ∧ t.seq m = s.seq m) ∧
      (∀ x, bought = some x → (s.plan slot).loaded = true →
        Accepted n ⟨some h.token, x.1, x.2.1, x.2.2, slot, some h.tag⟩ s t) ∧
      (∀ x, bought = some x → (s.plan slot).loaded = false → Refused n .noTariff s t ∧ t.sess n = Session.initial) ∧
      (bought = none → t.sess n = Session.initial ∧
        Refused n (if (s.lookup h.token).isSome then .blocked else .offline) s t)

/-! ### Sessions -/

/-- REMOTE_STOP: BAD_INDEX for an index out of range, WRONG_STATE for an EMPTY or CLOSED entry; a held query is
withdrawn; an open session takes the stop with its open cause; a STOPPING one stays. READY_DEADLINE stops an AUTHORIZED
session with NOT_READY and MAX_DURATION an open one with MAX_TIME, each at its moment, with the open cause; elsewhere
both leave the state unchanged. A reply's session step that shows an unplug withdraws the query or stops the session
with UNPLUGGED, which closes at once where the contactor is reopened already; before any plug was seen, and for a
plugged vehicle, AWAITING_AUTH and AUTHORIZED stay. (The passing of time to a moment is the model's choice,
notes/assumptions/5.md; a step whose occasion does not hold, notes/assumptions/1.md; the second of a lowered maximum,
notes/assumptions/33.md.) -/
def Obligations.StopRequestsAndDeadlinesStopTheSession : Prop :=
  (∀ (s : State) (n : Conn) (tag : Byte), s.hasRoom →
    (∀ b : Byte, 48 ≤ b.toNat →
      exec (.remoteStop tag [b]) s = .next { s with uplink := s.answered 153 tag .badIndex [] }) ∧
    ((s.sess n).state = .empty ∨ (s.sess n).state = .closed →
      exec (.remoteStop tag [byte n.val]) s = .next { s with uplink := s.answered 153 tag .wrongState [] }) ∧
    ((s.sess n).state = .stopping →
      exec (.remoteStop tag [byte n.val]) s = .next { s with uplink := s.answered 153 tag .ok [] }) ∧
    ((s.sess n).state = .awaitingAuth →
      ∃ t, exec (.remoteStop tag [byte n.val]) s = .next t ∧ SameBut [.auth, .sessions, .uplink] s t ∧
        t.uplink = s.answered 153 tag .ok [] ∧ StopTaken .remoteStop n s.sec s t ∧
        (∀ h, s.heldOf n = some h → t.decision n = some ⟨.withdrawn h.tag, s.sec⟩) ∧
        ∀ m, m ≠ n → t.sess m = s.sess m ∧ t.decision m = s.decision m) ∧
    ((s.sess n).state.open_ →
      ∃ t, exec (.remoteStop tag [byte n.val]) s = .next t ∧
        SameBut [.line, .sequencer, .sessions, .alloc, .uplink] s t ∧ t.uplink = s.answered 153 tag .ok [] ∧
        StopTaken .remoteStop n s.sec s t ∧ (t.seq n).contactor = s.contactorAfterOpen n ∧
        ((s.seq n).contactor.live = true → (t.slots n).openSet = true) ∧
        ((s.sess n).state = .charging → PassTaken t) ∧
        (∀ m, m ≠ n → t.sess m = s.sess m ∧ t.seq m = s.seq m ∧ (t.slots m).openSet = (s.slots m).openSet) ∧
        ∀ q, q ≠ pedOf n → t.ped q = s.ped q)) ∧
  (∀ (s : State) (n : Conn),
    (∀ d, (s.sess n).state = .authorized → (s.sess n).readyDeadline = some d → d * 1000 ≤ Config.lastMs →
      ∃ t, exec (.readyDeadline n) s = .next t ∧ SameBut [.line, .sequencer, .sessions, .clock] s t ∧
        ClockAt (d * 1000) s.clock t.clock ∧ StopTaken .notReady n (s.secAt (d * 1000)) s t ∧
        (t.seq n).contactor = s.contactorAfterOpen n ∧
        ∀ m, m ≠ n → t.sess m = s.sess m ∧ t.seq m = s.seq m) ∧
    (∀ b, (s.sess n).state.open_ → (s.sess n).startSec = some b →
      let limit := b + s.sessions.maxHours * 3600
      let moment := (if limit + 1 < s.sessions.maxFrom then s.sessions.maxFrom else limit) * 1000
      moment ≤ Config.lastMs →
      ∃ t, exec (.maxDuration n) s = .next t ∧ SameBut [.line, .sequencer, .sessions, .clock, .alloc] s t ∧
        ClockAt moment s.clock t.clock ∧ StopTaken .maxTime n (s.secAt moment) s t ∧
        (t.seq n).contactor = s.contactorAfterOpen n ∧
        ∀ m, m ≠ n → t.sess m = s.sess m ∧ t.seq m = s.seq m) ∧
    ((s.sess n).state ≠ .authorized → exec (.readyDeadline n) s = .next s) ∧
    (¬ (s.sess n).state.open_ → exec (.maxDuration n) s = .next s)) ∧
  (∀ (s : State) (n : Conn) (r : ConnReport),
    let e := s.sess n
    let t := s.replySession n r
    (r.plugged = false → e.plugSeen = true →
      (e.state = .awaitingAuth → SameBut [.auth, .sessions] s t ∧ StopTaken .unplugged n s.sec s t) ∧
      (e.state.open_ → ¬ (s.seq n).contactor.reopened →
        SameBut [.line, .sequencer, .sessions, .alloc] s t ∧ StopTaken .unplugged n s.sec s t ∧
        (t.seq n).contactor = s.contactorAfterOpen n ∧
        ((s.seq n).contactor.live = true → (t.slots n).openSet = true)) ∧
      (e.state.open_ → (s.seq n).contactor.reopened →
        SameBut [.line, .sequencer, .sessions, .tariff, .alloc, .settlement, .uplink] s t ∧
        ∃ w, SessionClosed w n (e.stoppedAt .unplugged (s.sec + s.sessions.stopWait)) s.sec s t)) ∧
    (r.plugged = true ∨ e.plugSeen = false → e.state = .awaitingAuth ∨ e.state = .authorized →
      t = s.withSess n { e with plugSeen := e.plugSeen || r.plugged }) ∧
    (e.state = .empty ∨ e.state = .closed → t = s) ∧
    ∀ m, m ≠ n → t.sess m = s.sess m ∧ t.seq m = s.seq m)

/-- STOP_DEADLINE closes a STOPPING session with LINK_LOST, and a reply's session step closes it when it finds the
contactor OPEN, LOCKED or FAULTED: the record joins the settlement queue, with its token, its energy and the cost of the
close, and the entry becomes EMPTY; when the queue holds 96 records the entry becomes CLOSED and joins the
closed-waiting list with that record. With any other contactor the reply leaves the session STOPPING. (That time passes
to the deadline, and that one already passed is taken now, is the model's choice, notes/assumptions/5.md.) -/
def Obligations.StopDeadlineClosesTheSession : Prop :=
  (∀ (s : State) (n : Conn) (d : Nat), (s.sess n).state = .stopping → (s.sess n).stopDeadline = some d →
    d * 1000 ≤ Config.lastMs →
    ∃ t r, exec (.stopDeadline n) s = .next t ∧
      SameBut [.sessions, .tariff, .clock, .settlement, .uplink] s t ∧ ClockAt (d * 1000) s.clock t.clock ∧
      SessionClosed r n { s.sess n with flags := (s.sess n).flags ||| 16 } (s.secAt (d * 1000)) s t ∧
      hasFlag .linkLost r.flags = true ∧ ∀ m, m ≠ n → t.sess m = s.sess m) ∧
  (∀ (s : State) (n : Conn) (report : ConnReport), (s.sess n).state = .stopping →
    let t := s.replySession n report
    ((s.seq n).contactor.reopened → SameBut [.sessions, .tariff, .settlement, .uplink] s t ∧
      (∃ r, SessionClosed r n (s.sess n) s.sec s t) ∧ ∀ m, m ≠ n → t.sess m = s.sess m) ∧
    (¬ (s.seq n).contactor.reopened → t = s))

/-! ### Plans and the band clock -/

/-- LOAD_PLAN of good form writes an unused slot: LOADED, the next revision, the contents with every energy price forced
to at most 9,999,999; a slot in use is IN_USE, a currency code that is not three capital letters BAD_REQUEST. CLEAR_PLAN
empties an unused slot and keeps its revision; a slot out of range is BAD_INDEX. -/
def Obligations.PlansAreWrittenWhileUnused : Prop :=
  (∀ (s : State) (tag : Byte), s.hasRoom →
    (∀ b : Byte, 16 ≤ b.toNat →
      exec (.clearPlan tag [b]) s = .next { s with uplink := s.answered 157 tag .badIndex [] }) ∧
    (∀ (k : PlanSlot) (c : PlanContents),
      (∀ x, c.currency = some x → ¬ (isCapital x.c0 = true ∧ isCapital x.c1 = true ∧ isCapital x.c2 = true)) →
      exec (.loadPlan tag (planPayload k c)) s = .next { s with uplink := s.answered 156 tag .badRequest [] })) ∧
  ∀ (s : State) (tag : Byte) (k : PlanSlot) (c : PlanContents), s.hasRoom →
    (∃ x, c.currency = some x ∧ isCapital x.c0 = true ∧ isCapital x.c1 = true ∧ isCapital x.c2 = true) →
    c.startFee < 4294967296 → (∀ b, tget c.energyPrice b < 4294967296) → (∀ b, tget c.idlePrice b < 65536) →
    c.grace < 256 →
    (0 < (s.plan k).useCount →
      exec (.loadPlan tag (planPayload k c)) s = .next { s with uplink := s.answered 156 tag .inUse [] } ∧
      exec (.clearPlan tag [byte k.val]) s = .next { s with uplink := s.answered 157 tag .inUse [] }) ∧
    ((s.plan k).useCount = 0 →
      (∃ t, exec (.loadPlan tag (planPayload k c)) s = .next t ∧ SameBut [.tariff, .uplink] s t ∧
        (t.plan k).loaded = true ∧ (t.plan k).revision = (s.plan k).revision + 1 ∧ (t.plan k).useCount = 0 ∧
        (t.plan k).contents.currency = c.currency ∧ (t.plan k).contents.startFee = c.startFee ∧
        (∀ b, tget (t.plan k).contents.energyPrice b = min (tget c.energyPrice b) 9999999) ∧
        (t.plan k).contents.idlePrice = c.idlePrice ∧ (t.plan k).contents.grace = c.grace ∧
        (∀ j, j ≠ k → t.plan j = s.plan j) ∧
        t.uplink = s.answered 156 tag (if ∀ b, tget c.energyPrice b ≤ 9999999 then .ok else .clamped)
          (be 2 ((s.plan k).revision + 1).toNat)) ∧
      exec (.clearPlan tag [byte k.val]) s = .next { s with
        tariff := { s.tariff with
          plans := tset s.tariff.plans k
            { s.plan k with
              loaded := false
              contents := ⟨none, 0, Vector.replicate 4 0, Vector.replicate 4 0, 0⟩ } }
        uplink := s.answered 157 tag .ok [] })

/-- The band in force: band 0 without a wall clock or a schedule; else that of the boundary with the greatest minute at
or before the minute of day, and before the first boundary that of the last. -/
def Obligations.BandInForceFollowsTheSchedule : Prop :=
  ∀ c : ClockState, scheduleSound c.schedule →
    (c.wall = none ∨ c.schedule = [] → c.bandInForce = 0) ∧
    (∀ w b, c.wall = some w → b ∈ c.schedule → b.minute ≤ w.sec / 60 →
      (∀ x ∈ c.schedule, x.minute ≤ w.sec / 60 → x.minute ≤ b.minute) → c.bandInForce = b.band) ∧
    (∀ w b, c.wall = some w → c.schedule.getLast? = some b → (∀ x ∈ c.schedule, w.sec / 60 < x.minute) →
      c.bandInForce = b.band)

/-- SET_TIME and SET_BANDS of good form set the wall clock and the schedule and test the band in force: an unchanged
band changes nothing more, a changed one is a boundary event, with the next epoch, its ring entry, its LATCH and
BAND_CHANGED; a second of day past 86,399, a schedule out of form and a band above 3 are BAD_REQUEST. Minute tests still
due come first: the request leaves the same state as after a WALL_CLOCK_MINUTE that takes the oldest of them (the
model's choice, notes/assumptions/2.md). LATCH_NOW advances the epoch with the current band, requests its LATCH in place
of a pending one, and raises nothing. -/
def Obligations.ClockRequestsTestTheBand : Prop :=
  (∀ (s : State) (tag : Byte), s.hasRoom →
    let outcome := fun (kind : Byte) (c : ClockState) (t : State) =>
      SameBut [.line, .clock, .uplink] s t ∧ t.clock.wall = c.wall ∧ t.clock.schedule = c.schedule ∧
      t.clock.ms = c.ms ∧ t.clock.ticksTaken = c.ticksTaken ∧ t.clock.minutesDue = 0 ∧ t.clock.band = c.bandInForce ∧
      (c.bandInForce = c.band →
        t.clock.epoch = c.epoch ∧ t.clock.ring = c.ring ∧ t.line = s.line ∧ t.uplink = s.answered kind tag .ok []) ∧
      (c.bandInForce ≠ c.band →
        t.clock.epoch = c.epoch + 1 ∧ t.clock.ring = tset c.ring (ringPlace (c.epoch + 1)) c.bandInForce ∧
        t.line = { s.line with pendingLatch := some (c.epoch + 1) } ∧
        t.uplink = (s.answered kind tag .ok []).withRaised .bandChanged)
    (∀ day sec : Nat, day < 65536 → sec < 86400 →
      (s.clock.minutesDue = 0 → ∃ t, exec (.setTime tag (be 2 day ++ be 4 sec)) s = .next t ∧
        outcome 159 { s.clock with wall := some ⟨day, sec⟩ } t) ∧
      (0 < s.clock.minutesDue → ∀ u, exec .wallClockMinute s = .next u →
        exec (.setTime tag (be 2 day ++ be 4 sec)) s = exec (.setTime tag (be 2 day ++ be 4 sec)) u)) ∧
    (∀ day sec : Nat, day < 65536 → 86400 ≤ sec → sec < 4294967296 →
      exec (.setTime tag (be 2 day ++ be 4 sec)) s = .next { s with uplink := s.answered 159 tag .badRequest [] }) ∧
    (∀ bs : List Boundary, 1 ≤ bs.length → bs.length ≤ 8 → scheduleSound bs →
      let command := Instr.setBands tag (byte bs.length :: bs.flatMap fun b => be 2 b.minute ++ [byte b.band.val])
      (s.clock.minutesDue = 0 → ∃ t, exec command s = .next t ∧ outcome 160 { s.clock with schedule := bs } t) ∧
      (0 < s.clock.minutesDue → ∀ u, exec .wallClockMinute s = .next u → exec command s = exec command u)) ∧
    (∀ bs : List Boundary, 1 ≤ bs.length → bs.length ≤ 8 → (∀ b ∈ bs, b.minute < 65536) → ¬ scheduleSound bs →
      exec (.setBands tag (byte bs.length :: bs.flatMap fun b => be 2 b.minute ++ [byte b.band.val])) s =
        .next { s with uplink := s.answered 160 tag .badRequest [] }) ∧
    (∀ (count m1 m0 band : Byte) (before rest : Frame), 1 ≤ count.toNat → count.toNat ≤ 8 → before.length % 3 = 0 →
      before.length + 3 + rest.length = 3 * count.toNat → 4 ≤ band.toNat →
      exec (.setBands tag ([count] ++ before ++ [m1, m0, band] ++ rest)) s =
        .next { s with uplink := s.answered 160 tag .badRequest [] })) ∧
  (∀ (s : State) (tag : Byte), s.hasRoom →
    exec (.latchNow tag []) s = .next { s with
      clock := { s.clock with
        epoch := s.clock.epoch + 1
        ring := tset s.clock.ring (ringPlace (s.clock.epoch + 1)) s.clock.band }
      line := { s.line with pendingLatch := some (s.clock.epoch + 1) }
      uplink := s.answered 161 tag .ok [] })

/-- WALL_CLOCK_MINUTE brings a set wall clock to its next minute of day and tests the band in force there; while minutes
already entered wait for their test, it tests the oldest of them and no time passes (the model's choice,
notes/assumptions/2.md). MINUTE_TICK brings monotonic time to the next whole minute and accrues grace or idle time and
cost for each COMPLETE session, with the budget check. (That time passes to the minute or the tick, and that one already
passed is taken now, is the model's choice, notes/assumptions/5.md.) -/
def Obligations.MinutesAccrueAndTestTheBand : Prop :=
  ∀ s : State,
    (∀ w, s.clock.wall = some w →
      let tested := fun (t : State) => SameBut [.line, .clock, .uplink] s t ∧ t.clock.schedule = s.clock.schedule ∧
        t.clock.ticksTaken = s.clock.ticksTaken ∧
        (t.clock.band = s.clock.band → t.line = s.line ∧ t.uplink = s.uplink ∧ t.clock.epoch = s.clock.epoch ∧
          t.clock.ring = s.clock.ring) ∧
        (t.clock.band ≠ s.clock.band →
          t.clock.epoch = s.clock.epoch + 1 ∧ t.line = { s.line with pendingLatch := some (s.clock.epoch + 1) } ∧
          t.clock.ring = tset s.clock.ring (ringPlace (s.clock.epoch + 1)) t.clock.band ∧
          t.uplink = s.uplink.withRaised .bandChanged)
      (let at_ := (s.sec + (60 - w.sec % 60)) * 1000
       s.clock.minutesDue = 0 → at_ ≤ Config.lastMs →
        ∃ t, exec .wallClockMinute s = .next t ∧ tested t ∧ t.clock.ms = at_ ∧
          t.clock.wall = some (w.later (60 - w.sec % 60)) ∧ t.clock.minutesDue = 0 ∧
          t.clock.band = t.clock.bandInForce) ∧
      (0 < s.clock.minutesDue →
        ∃ t, exec .wallClockMinute s = .next t ∧ tested t ∧ t.clock.ms = s.clock.ms ∧ t.clock.wall = some w ∧
          t.clock.minutesDue = s.clock.minutesDue - 1 ∧
          ∀ m : Nat, m < 1440 → (m + s.clock.minutesDue - 1) % 1440 = w.sec / 60 % 1440 →
            t.clock.band = scheduleBand s.clock.schedule m)) ∧
    (let at_ := (s.clock.ticksTaken + 1) * 60 * 1000
     at_ ≤ Config.lastMs →
      ∃ t, exec .minuteTick s = .next t ∧ SameBut [.line, .sequencer, .sessions, .clock] s t ∧
        t.clock.ticksTaken = s.clock.ticksTaken + 1 ∧ t.clock.ms = max s.clock.ms at_ ∧ t.clock.band = s.clock.band ∧
        ∀ n,
          ((s.sess n).state ≠ .complete → t.sess n = s.sess n ∧ t.seq n = s.seq n) ∧
          ((s.sess n).state = .complete → 0 < (s.sess n).grace →
            t.sess n = { s.sess n with grace := (s.sess n).grace - 1 } ∧ t.seq n = s.seq n) ∧
          ((s.sess n).state = .complete → (s.sess n).grace = 0 → ∀ k rev, (s.sess n).plan = some (k, rev) →
            let cost := (s.sess n).idleCost + tget (s.plan k).contents.idlePrice s.clock.band
            let e := { s.sess n with idleMinutes := (s.sess n).idleMinutes + 1, idleCost := cost }
            t.sess n = if e.threshold ≤ e.running then e.stoppedAt .budget (s.secAt at_ + s.sessions.stopWait) else e))

/-! ### Metering -/

/-- A reading for a metered session: the first sets the baseline and prices nothing; a later one moves the baseline,
bills the delta up to the plausibility limit or nothing when reversed, and across an epoch prices it on both sides of a
usable latch, or at the cheapest candidate band as a missed latch. A priced reading then makes the budget check: a
CHARGING or COMPLETE session whose running cost has reached its threshold is stopped with BUDGET, and no other. -/
def Obligations.ReadingsArePricedByBand : Prop :=
  ∀ (s : State) (n : Conn) (r : ConnReport), (s.sess n).state.metered = true →
    let e := s.sess n
    let c := s.clock
    let t := s.deliverReading n r
    let e' := t.sess n
    (e.baseline = none → t = { s with sessions := { s.sessions with
      entries := tset s.sessions.entries n { e with baseline := some (r.reading, c.ms), lastEpoch := c.epoch } } }) ∧
    (∀ base at_ k rev, e.baseline = some (base, at_) → e.plan = some (k, rev) →
      let price := tget (s.plan k).contents.energyPrice
      let raw := (r.reading - base).toNat
      let limit := s.rating n * min (c.ms - at_) 16777216 / 3600 + 50
      let d := if 2147483648 ≤ raw then 0 else min raw limit
      let gap := (c.epoch - e.lastEpoch).toNat
      let usable := ∃ l, r.latch = some (c.epoch, l) ∧ (l - base).toNat ≤ d
      let candidate := fun (b : Band) => 8 ≤ gap ∨
        ∃ i, 1 ≤ i ∧ i ≤ gap ∧ b = ringBand c (e.lastEpoch + BitVec.ofNat 8 i)
      e'.baseline = some (r.reading, c.ms) ∧ e'.lastEpoch = c.epoch ∧ e'.energyTotal = e.energyTotal + d ∧
      hasFlag .meterReverse e'.flags = (hasFlag .meterReverse e.flags || decide (2147483648 ≤ raw)) ∧
      hasFlag .meterJump e'.flags =
        (hasFlag .meterJump e.flags || decide (raw < 2147483648 ∧ limit < raw)) ∧
      (2147483648 ≤ raw ∨ limit < raw → hasEvent .meterAnomaly t.uplink.pendingSet = true) ∧
      (d = 0 → e'.costAcc = e.costAcc ∧ e'.bandEnergy = e.bandEnergy) ∧
      (∀ l, 0 < d → gap = 1 → r.latch = some (c.epoch, l) → (l - base).toNat ≤ d →
        e'.costAcc = e.costAcc + (l - base).toNat * price (ringBand c e.lastEpoch)
          + (d - (l - base).toNat) * price c.band) ∧
      (0 < d → gap ≠ 0 → ¬ (gap = 1 ∧ usable) →
        hasFlag .missedLatch e'.flags = true ∧ hasEvent .latchMissed t.uplink.pendingSet = true ∧
        ∃ b, candidate b ∧ (∀ x, candidate x → price b ≤ price x ∧ (price x = price b → b ≤ x)) ∧
          e'.costAcc = e.costAcc + d * price b ∧
          e'.bandEnergy = tset e.bandEnergy b (tget e.bandEnergy b + d)) ∧
      e'.running = min (e.startFee + e.idleCost + e'.costAcc / 1000000) e.budget ∧ e'.threshold = e.threshold ∧
      (let reached := (e.state = .charging ∨ e.state = .complete) ∧ e.threshold ≤ e'.running
       (reached → e'.state = .stopping ∧ e'.endReason = some .budget ∧
          e'.stopDeadline = some (s.sec + s.sessions.stopWait) ∧ e'.readyDeadline = none ∧
          (t.seq n).contactor = s.contactorAfterOpen n ∧
          ((s.seq n).contactor.live = true → (t.slots n).openSet = true) ∧ (e.state = .charging → PassTaken t)) ∧
        (¬ reached → e'.state = e.state ∧ e'.endReason = e.endReason ∧ e'.stopDeadline = e.stopDeadline ∧
          SameBut [.sessions, .uplink] s t)) ∧
      ∀ m, m ≠ n → t.sess m = s.sess m ∧ t.seq m = s.seq m)

/-- R125: at an epoch gap of 0 the whole billed delta goes to the current band, at that band's energy price in the
session's plan, and the latched reading of the reply is not used: another one leads to the same state. -/
def Obligations.OneEpochIsPricedAtTheCurrentBand : Prop :=
  ∀ (s : State) (n : Conn) (r : ConnReport) (base : BitVec 32) (since : Nat) (k : PlanSlot) (rev : BitVec 16),
    (s.sess n).state.metered = true → (s.sess n).baseline = some (base, since) → (s.sess n).plan = some (k, rev) →
    (s.sess n).lastEpoch = s.clock.epoch →
    let e := s.sess n
    let band := s.clock.band
    let raw := (r.reading - base).toNat
    let limit := s.rating n * min (s.clock.ms - since) 16777216 / 3600 + 50
    let d := if 2147483648 ≤ raw then 0 else min raw limit
    let e' := (s.deliverReading n r).sess n
    e'.costAcc = e.costAcc + d * tget (s.plan k).contents.energyPrice band ∧
      e'.bandEnergy = tset e.bandEnergy band (tget e.bandEnergy band + d) ∧
      e'.energyTotal = e.energyTotal + d ∧ hasFlag .missedLatch e'.flags = hasFlag .missedLatch e.flags ∧
      ∀ latch, s.deliverReading n { r with latch := latch } = s.deliverReading n r

/-! ### The power allocator -/

/-- After every allocation pass the targets keep every limit, every record is placed, each pedestal's limit is shared
between its participants, the available power is shared class by class, equally within a class but for the members that
want less, and the pass changes no grant, no hold and no record of an UNREACHABLE pedestal. (That the whole of such a
record is kept, its participant mark with it, is the model's reading, notes/assumptions/21.md.) -/
def Obligations.PassKeepsEveryLimit : Prop :=
  ∀ s : State, PassTaken s.pass ∧ SameBut [.line, .alloc] s s.pass ∧ s.pass.line.peds = s.line.peds ∧
    s.pass.line.inflight = s.line.inflight ∧
    (∀ n, (s.pass.setpoint n).grant = (s.setpoint n).grant ∧ (s.pass.setpoint n).holdExpiry = (s.setpoint n).holdExpiry ∧
      (s.pass.setpoint n).inFlight = (s.setpoint n).inFlight ∧ (s.pass.slots n).openSet = (s.slots n).openSet) ∧
    (∀ n, s.linkOf n = .unreachable → s.pass.setpoint n = s.setpoint n ∧ s.pass.slots n = s.slots n) ∧
    (∀ n, s.pass.participates n = s.participates n) ∧ (∀ p, PedestalShared p s.pass) ∧ (∀ c, ClassShared c s.pass) ∧
    (∀ m n, s.participates m = true → s.participates n = true → (s.sess n).cls < (s.sess m).cls →
      (s.pass.setpoint m).target < s.pass.pedShare m → (s.pass.setpoint n).target = 0)

/-- SET_SITE_LIMIT, CURTAIL and the curtailment's end: the limit and the curtailment they leave, with a pass where the
base limit or the curtail limit changes, and none where it does not. HOLD_EXPIRY: the record falls back to its failsafe
power without a hold, and a pass is made; a record with an increase on the line keeps INCREASE_SENT. (That time passes
to the curtailment's end and to a hold's expiry, and that one already passed is taken now, is the model's choice,
notes/assumptions/5.md; so is a CURTAIL_EXPIRY without a curtailment, notes/assumptions/1.md.) -/
def Obligations.LimitsAndHoldsBringAPass : Prop :=
  (∀ (s : State) (tag : Byte),
    (∀ l1 l0 : Byte, s.hasRoom →
      let asked := 256 * l1.toNat + l0.toNat
      let code : ResultCode := if asked ≤ 4000 then .ok else .clamped
      (min asked 4000 = s.alloc.baseLimit →
        exec (.setSiteLimit tag [l1, l0]) s = .next { s with uplink := s.answered 164 tag code [] }) ∧
      (min asked 4000 ≠ s.alloc.baseLimit →
        ∃ t, exec (.setSiteLimit tag [l1, l0]) s = .next t ∧ SameBut [.line, .alloc, .uplink] s t ∧
          t.uplink = s.answered 164 tag code [] ∧ t.alloc.baseLimit = min asked 4000 ∧
          t.alloc.curtailment = s.alloc.curtailment ∧ PassTaken t)) ∧
    (∀ l1 l0 h1 h0 : Byte, s.hasRoom →
      let askedLimit := 256 * l1.toNat + l0.toNat
      let askedHold := 256 * h1.toNat + h0.toNat
      let limit := min askedLimit s.alloc.baseLimit
      let hold := max 5 (min 3600 askedHold)
      let code : ResultCode := if limit = askedLimit ∧ hold = askedHold then .ok else .clamped
      ((∃ c, s.alloc.curtailment = some c ∧ c.limit = limit) →
        exec (.curtail tag [l1, l0, h1, h0]) s = .next { s with
          alloc := { s.alloc with curtailment := some ⟨limit, s.sec + hold⟩ }
          uplink := s.answered 165 tag code [] }) ∧
      ((∀ c, s.alloc.curtailment = some c → c.limit ≠ limit) →
        ∃ t, exec (.curtail tag [l1, l0, h1, h0]) s = .next t ∧ SameBut [.line, .alloc, .uplink] s t ∧
          t.uplink = s.answered 165 tag code [] ∧ t.alloc.baseLimit = s.alloc.baseLimit ∧
          t.alloc.curtailment = some ⟨limit, s.sec + hold⟩ ∧ PassTaken t)) ∧
    (∀ c, s.alloc.curtailment = some c → c.deadline * 1000 ≤ Config.lastMs →
      ∃ t, exec .curtailExpiry s = .next t ∧ SameBut [.line, .alloc, .clock, .uplink] s t ∧
        ClockAt (c.deadline * 1000) s.clock t.clock ∧ t.uplink = s.uplink.withRaised .curtailExpired ∧
        t.alloc.curtailment = none ∧ t.alloc.baseLimit = s.alloc.baseLimit ∧ t.effLimit = s.alloc.baseLimit ∧
        PassTaken t) ∧
    (s.alloc.curtailment = none → exec .curtailExpiry s = .next s)) ∧
  (∀ (s : State) (n : Conn) (e : Nat), (s.setpoint n).holdExpiry = some e → e * 1000 ≤ Config.lastMs →
    ∃ t, exec (.holdExpiry n) s = .next t ∧ SameBut [.line, .alloc, .clock] s t ∧
      ClockAt (e * 1000) s.clock t.clock ∧ PassTaken t ∧ t.line.peds = s.line.peds ∧
      (t.setpoint n).grant = s.failsafe n ∧ (t.setpoint n).holdExpiry = none ∧
      (t.setpoint n).inFlight = (s.setpoint n).inFlight ∧
      ((s.setpoint n).state = .increaseSent → (t.setpoint n).state = .increaseSent) ∧
      (s.linkOf n = .unreachable → (s.setpoint n).state ≠ .increaseSent → (t.setpoint n).state = .fallback) ∧
      ∀ m, m ≠ n → (t.setpoint m).grant = (s.setpoint m).grant ∧ (t.setpoint m).holdExpiry = (s.setpoint m).holdExpiry)

/-! ### The settlement queue -/

/-- READ_SETTLEMENT answers the head record with the two lengths and sets its read mark; DISCARD_SETTLEMENT removes a
head that has been read, and then moves the record at the head of the closed-waiting list to the tail with the next
sequence, QUEUE_FULL and its entry EMPTY; an unread head stays, answered NOT_READ, and an empty queue is answered
EMPTY. -/
def Obligations.SettlementsAreReadThenDiscarded : Prop :=
  (∀ (s : State) (tag : Byte), s.hasRoom →
    (s.settlement.records = [] →
      exec (.readSettlement tag []) s = .next { s with uplink := s.answered 168 tag .empty [0, 0] }) ∧
    (∀ r rest, s.settlement.records = r :: rest →
      exec (.readSettlement tag []) s = .next { s with
        settlement := { s.settlement with readMark := true }
        uplink := s.answered 168 tag .ok
          ([byte (rest.length + 1), byte s.sessions.waiting.length] ++ recordBytes r.sequence r.body) } ∧
      (s.TokensFit → (recordBytes r.sequence r.body).length = 87))) ∧
  (∀ (s : State) (tag : Byte), s.hasRoom → s.WaitingSound →
    (s.settlement.records = [] →
      exec (.discardSettlement tag []) s = .next { s with uplink := s.answered 169 tag .empty [0] }) ∧
    (∀ r rest, s.settlement.records = r :: rest → s.settlement.readMark = false →
      exec (.discardSettlement tag []) s = .next { s with
        uplink := s.answered 169 tag .notRead (be 4 r.sequence ++ [byte (rest.length + 1)]) }) ∧
    (∀ r rest, s.settlement.records = r :: rest → s.settlement.readMark = true → s.sessions.waiting = [] →
      exec (.discardSettlement tag []) s = .next { s with
        settlement := ⟨rest, s.settlement.nextSequence, false⟩
        uplink := s.answered 169 tag .ok (be 4 r.sequence ++ [byte rest.length] ++ be 4 0) }) ∧
    (∀ r rest n more, s.settlement.records = r :: rest → s.settlement.readMark = true →
      s.sessions.waiting = n :: more →
      ∃ t w, (s.sess n).record = some w ∧ exec (.discardSettlement tag []) s = .next t ∧
        SameBut [.sessions, .settlement, .uplink] s t ∧ t.sess n = Session.initial ∧ t.sessions.waiting = more ∧
        (∀ m, m ≠ n → t.sess m = s.sess m) ∧
        t.settlement.records = rest ++ [⟨s.settlement.nextSequence, w⟩] ∧ t.settlement.records.length = 96 ∧
        t.settlement.readMark = false ∧
        t.settlement.nextSequence =
          (if s.settlement.nextSequence = 4294967295 then 1 else s.settlement.nextSequence + 1) ∧
        t.uplink = (s.answered 169 tag .ok
          (be 4 r.sequence ++ [96] ++ be 4 s.settlement.nextSequence)).withRaised .queueFull))

/-! ### Events, the link and RESTART -/

/-- Time alone: an empty queue lets one millisecond pass (the model's choice, notes/assumptions/6.md); ROLL_CALL_DUE,
POLL_DUE, POLL_AGED, SETTLE_DEADLINE and RENEWAL_DUE let time pass to their moment and change only the clock;
SILENCE_DEADLINE takes an ONLINE link OFFLINE at its deadline, raises nothing and cancels nothing. (That a moment ahead
is reached, and one not armed changes nothing, is the model's choice, notes/assumptions/5.md.) -/
def Obligations.TimeMomentsChangeOnlyTheClock : Prop :=
  ∀ s : State,
    (s.pending = [] → s.clock.ms < Config.lastMs →
      ∃ t, step s = .next t ∧ ClockAt (s.clock.ms + 1) s.clock t.clock ∧ SameBut [.clock] s t) ∧
    (∀ b, s.line.rollTimer = some b → (∃ p, (s.ped p).configured = true) →
      b + s.line.rollPeriod * 1000 ≤ Config.lastMs →
      ∃ t, exec .rollCallDue s = .next t ∧ ClockAt (b + s.line.rollPeriod * 1000) s.clock t.clock ∧
        SameBut [.clock] s t ∧ t.rollCallDue = true) ∧
    (∀ p d, (s.ped p).nextPoll = some d → d + 2 * s.line.pollPeriod ≤ Config.lastMs →
      (∃ t, exec (.pollDue p) s = .next t ∧ ClockAt d s.clock t.clock ∧ SameBut [.clock] s t ∧
        ((s.ped p).link = .active → t.pollDue p = true)) ∧
      ∃ t, exec (.pollAged p) s = .next t ∧ ClockAt (d + 2 * s.line.pollPeriod) s.clock t.clock ∧
        SameBut [.clock] s t ∧ ((s.ped p).link = .active → t.pollAged p = true)) ∧
    (∀ n d, (s.seq n).settleDeadline = some d → d ≤ Config.lastMs →
      ∃ t, exec (.settleDeadline n) s = .next t ∧ ClockAt d s.clock t.clock ∧ SameBut [.clock] s t) ∧
    (∀ n e, (s.setpoint n).holdExpiry = some e → (e + 1) * 1000 ≤ Config.lastMs →
      ∃ t, exec (.renewalDue n) s = .next t ∧ ClockAt ((e + 1 - s.alloc.renew) * 1000) s.clock t.clock ∧
        SameBut [.clock] s t ∧ ((s.setpoint n).state = .steady → t.renewalReady n = true)) ∧
    (∀ d, s.uplink.link = .online → s.uplink.silenceDeadline = some d → d * 1000 ≤ Config.lastMs →
      ∃ t, exec .silenceDeadline s = .next t ∧ SameBut [.clock, .uplink] s t ∧
        ClockAt (d * 1000) s.clock t.clock ∧
        t.uplink = { s.uplink with link := .offline, silenceDeadline := none }) ∧
    (s.uplink.link = .offline → exec .silenceDeadline s = .next s)

/-- RESTART: park stop, queues, held queries, round robin and roll-call timer are cleared; configured pedestals start
PROBING without a next poll, or ACTIVE with one due now; live contactors reopen, every target is 0, and RESTARTED stands
in the pending set with its notice, alone but for what the closes raise. Sessions close in ascending index, with end
reason RESTART unless they were STOPPING, and with LINK_LOST where the pedestal was away; an increase on the line is
taken as acknowledged now. Kept are the tables, the clock, the plans with their revisions, the pedestal configurations,
what the pedestals last reported, the settlement records with their numbers and read mark, the link with its silence
time, the error counts, the frame being sent, and every parameter. (The order of the blocks' effects is the model's
reading, notes/assumptions/17.md.) -/
def Obligations.RestartClearsAndKeeps : Prop :=
  ∀ (s : State) (tag : Byte), s.hasRoom → s.SessionsSound → s.NoticeSound → s.PedestalsSound →
    ∃ t, exec (.restart tag []) s = .next t ∧ SameBut [.line, .classifier, .sequencer, .auth, .sessions, .tariff,
        .alloc, .settlement, .uplink] s t ∧
      t.classifier = { s.classifier with passUp := [] } ∧ t.auth = { s.auth with held := [] } ∧
      t.sequencer.parkStop = false ∧ t.line.rollTimer = none ∧ t.line.pointer3 = 23 ∧ t.line.pointer5 = 23 ∧
      t.line.pendingLatch = s.line.pendingLatch ∧ t.line.window = s.line.window ∧
      t.line.replyTimeout = s.line.replyTimeout ∧ t.line.pollPeriod = s.line.pollPeriod ∧
      t.line.rollPeriod = s.line.rollPeriod ∧ t.sequencer.settleTime = s.sequencer.settleTime ∧
      t.sequencer.idleRelease = s.sequencer.idleRelease ∧ t.sessions.readyWait = s.sessions.readyWait ∧
      t.sessions.stopWait = s.sessions.stopWait ∧ t.sessions.maxHours = s.sessions.maxHours ∧
      t.alloc.hysteresis = s.alloc.hysteresis ∧ t.alloc.hold = s.alloc.hold ∧ t.alloc.renew = s.alloc.renew ∧
      (∀ x, t.line.inflight = some x → x.target ≠ none → x.discarded = true) ∧
      t.alloc.baseLimit = s.alloc.baseLimit ∧ t.alloc.curtailment = s.alloc.curtailment ∧
      (∀ k, t.plan k = { s.plan k with useCount := 0 }) ∧
      (∃ more waits, t.settlement.records = s.settlement.records ++ more ∧
        t.sessions.waiting = s.sessions.waiting ++ waits ∧
        more.map (·.body.conn) ++ waits = (allConns.filter fun n =>
          (s.sess n).state != .empty && (s.sess n).state != .awaitingAuth && (s.sess n).state != .closed) ∧
        (∀ n, (s.sess n).state.open_ ∨ (s.sess n).state = .stopping → ∃ r : BuiltRecord,
          (((∃ x ∈ more, x.body = r) ∧ t.sess n = Session.initial) ∨
            (n ∈ waits ∧ (t.sess n).state = .closed ∧ (t.sess n).record = some r)) ∧
          r.conn = n ∧ r.token = (s.sess n).token ∧ r.energyTotal = min (s.sess n).energyTotal 4294967295 ∧
          r.endReason = (if (s.sess n).state = .stopping then (s.sess n).endReason else some .restart) ∧
          hasFlag .linkLost r.flags = (hasFlag .linkLost (s.sess n).flags ||
            decide (s.linkOf n = .unreachable ∨ (s.ped (pedOf n)).resync = true))) ∧
        (more.map (·.sequence) ++ [t.settlement.nextSequence]).head? = some s.settlement.nextSequence ∧
        consecutive (more.map (·.sequence) ++ [t.settlement.nextSequence]) ∧
        (s.settlement.records ≠ [] ∨ more = [] → t.settlement.readMark = s.settlement.readMark)) ∧
      (∀ p, (t.ped p).queue = [] ∧ (t.ped p).disposition = .none ∧ (t.ped p).failCount = 0 ∧
        (t.ped p).absentCount = 0 ∧ (t.ped p).resync = false ∧ (t.ped p).checkFails = (s.ped p).checkFails ∧
        (t.ped p).lastMessage = (s.ped p).lastMessage ∧ (t.ped p).slot = (s.ped p).slot ∧
        (t.ped p).configured = (s.ped p).configured ∧ (t.ped p).lastReply = (s.ped p).lastReply ∧
        (t.ped p).reportA = (s.ped p).reportA ∧ (t.ped p).reportB = (s.ped p).reportB ∧
        (t.ped p).available = (s.ped p).available ∧
        { t.config p with limitUsed := (s.config p).limitUsed } = s.config p ∧
        ((s.ped p).configured = true →
          ((∃ x, (t.sess (connOf p x)).state ≠ .empty ∨ (t.seq (connOf p x)).contactor ≠ .opened) →
            (t.ped p).link = .active) ∧
          ((∀ x, (t.sess (connOf p x)).state = .empty ∧ (t.seq (connOf p x)).contactor = .opened) →
            (t.ped p).link = .probing)) ∧
        (t.ped p).nextPoll = if (t.ped p).link = .active then some s.clock.ms else none) ∧
      (∀ n, (t.seq n).contactor = (match (s.seq n).contactor with
          | .closing | .verifying | .closed | .opening => .opening
          | .opened => .opened
          | .faulted => .faulted
          | .locked => .locked) ∧
        (t.seq n).locks = (s.seq n).locks ∧ (t.seq n).fault = (s.seq n).fault ∧
        ((t.seq n).contactor = .opening → (t.slots n).openSet = true) ∧
        ((s.sess n).state = .closed → t.sess n = s.sess n) ∧
        ((t.sess n).state = .empty ∨ (t.sess n).state = .closed) ∧
        ((s.sess n).state = .awaitingAuth → t.sess n = Session.initial) ∧
        (t.setpoint n).target = 0 ∧ (t.setpoint n).participant = false ∧ (t.setpoint n).inFlight = none ∧
        Placed (t.setpoint n) (t.slots n) ∧
        ((s.setpoint n).state ≠ .increaseSent → (t.setpoint n).grant = (s.setpoint n).grant ∧
          (t.setpoint n).holdExpiry = (s.setpoint n).holdExpiry) ∧
        ((s.setpoint n).state = .increaseSent → (t.setpoint n).holdExpiry = some (s.sec + s.alloc.hold) ∧
          ∀ v, (s.setpoint n).inFlight = some v → (t.setpoint n).grant = v)) ∧
      (∀ k, hasEvent k t.uplink.pendingSet = true ↔ k = .restarted ∨
        (k = .settlementReady ∧ s.settlement.records = [] ∧ t.settlement.records ≠ []) ∨
        (k = .queueFull ∧ s.settlement.records.length < 96 ∧ t.settlement.records.length = 96)) ∧
      t.uplink.enableSet = s.uplink.enableSet ∧
      (t.uplink.noticePending = true ↔ t.uplink.shares) ∧
      t.uplink.link = .online ∧ t.uplink.silenceTime = s.uplink.silenceTime ∧
      t.uplink.silenceDeadline = some (s.sec + s.uplink.silenceTime) ∧ t.uplink.checkFails = s.uplink.checkFails ∧
      t.uplink.framingErrors = s.uplink.framingErrors ∧ t.uplink.overruns = s.uplink.overruns ∧
      t.uplink.requestsTaken = s.uplink.requestsTaken + 1 ∧
      t.uplink.sending.map OutFrame.bytes = s.uplink.sending.map OutFrame.bytes ∧
      t.uplink.responses = s.uplink.responses ++ [⟨174, tag, .ok, []⟩]

/-! ### The uplink transmitter -/

/-- A free transmitter starts a pending notice before the oldest response, that before the query of the oldest unsent
held entry, and that before the head of the pass-up queue, the last two only ONLINE; each completion frees it, marks the
query sent, or removes the entry a PASS_UP was made from, unless RESTART has taken it away. (That a start the
transmitter would not choose leaves the state as it was is the model's choice, notes/assumptions/1.md; how a completed
query and a PASS_UP find their entry is its reading, notes/assumptions/25.md.) -/
def Obligations.TransmitterSendsInOrder : Prop :=
  ∀ s : State,
    let u := s.uplink
    let start := fun (v : UplinkState) (f : OutFrame) => { s with uplink := { v with sending := some f } }
    let free := { u with sending := none }
    (u.sending = none → u.noticePending = true →
      exec .noticeAttention s =
        .next (start { u with noticePending := false } (.notice u.pendingSet u.enableSet)) ∧
      exec .responseStart s = .next s ∧ exec .authQuery s = .next s ∧ exec .passUp s = .next s) ∧
    (∀ r rest, u.sending = none → u.noticePending = false → u.responses = r :: rest →
      exec .responseStart s = .next (start { u with responses := rest } (.response r)) ∧
      exec .noticeAttention s = .next s ∧ exec .authQuery s = .next s ∧ exec .passUp s = .next s) ∧
    (∀ before h after, u.sending = none → u.noticePending = false → u.responses = [] → u.link = .online →
      s.auth.held = before ++ h :: after → (∀ x ∈ before, x.sent = true) → h.sent = false →
      exec .authQuery s = .next (start u (.query h)) ∧ exec .passUp s = .next s) ∧
    (∀ e rest, u.sending = none → u.noticePending = false → u.responses = [] → u.link = .online →
      (∀ x ∈ s.auth.held, x.sent = true) → s.classifier.passUp = e :: rest →
      exec .passUp s = .next (start u (.passUp e true)) ∧ exec .authQuery s = .next s) ∧
    (u.link = .offline ∨ u.sending ≠ none → exec .authQuery s = .next s ∧ exec .passUp s = .next s) ∧
    ((∃ r, u.sending = some (.response r)) ∨ (∃ a b, u.sending = some (.notice a b)) →
      exec .uplinkFrameSent s = .next { s with uplink := free }) ∧
    (∀ h, u.sending = some (.query h) →
      exec .authQuerySent s = .next { s with
        uplink := free
        auth := { s.auth with
          held := s.auth.held.map fun x =>
            if x.conn = h.conn ∧ x.tag = h.tag then { x with sent := true } else x } }) ∧
    (∀ e, u.sending = some (.passUp e true) →
      exec .passUpSent s = .next { s with
        uplink := free
        classifier := { s.classifier with passUp := s.classifier.passUp.tail } }) ∧
    (∀ e, u.sending = some (.passUp e false) → exec .passUpSent s = .next { s with uplink := free })

/-! ### The line arbiter -/

/-- On a free line the arbiter takes work of the lowest class on offer: in class 2 at the lowest place and OPEN before
decrease; in classes 3 and 5 of the first pedestal after the last one served, in class 3 an aged poll before the head of
that pedestal's queue; and while work is on offer it takes some. -/
def Obligations.ArbiterServesClassesInOrder : Prop :=
  (∀ (s : State) (w : Work), s.nextWork = some w →
    s.line.inflight = none ∧ s.line.window = none ∧ s.offers w ∧ (∀ x, s.offers x → w.cls ≤ x.cls) ∧
    (w.cls = 2 → ∀ x, s.offers x → x.cls = 2 → w.place ≤ x.place) ∧
    (∀ n, w = .decrease n → ¬ s.offers (.openSlot n)) ∧
    (∀ p e, w = .head p e → ¬ s.offers (.agedPoll p)) ∧
    (∀ p q e, (w = .agedPoll p ∨ ∃ x, w = .head p x) → s.offers (.agedPoll q) ∨ s.offers (.head q e) →
      p - s.line.pointer3 - 1 ≤ q - s.line.pointer3 - 1) ∧
    (∀ p q, w = .duePoll p → s.offers (.duePoll q) → p - s.line.pointer5 - 1 ≤ q - s.line.pointer5 - 1)) ∧
  ∀ (s : State) (x : Work), s.line.inflight = none → s.line.window = none → s.offers x → s.nextWork ≠ none

/-- The broadcasts, polls and safety slots start as their work is chosen: each creates the in-flight record with its
frame; a LATCH clears the pending one, a ROLL_CALL sets its timer, an aged or due poll its class's last pedestal, and a
decrease carries the slot's value of this moment with its hold. Nothing else changes. (The originator of a broadcast and
the record's own extra fields are the model's choice, notes/assumptions/20.md; that the attempt is sent at the moment it
starts is its reading, notes/assumptions/29.md.) -/
def Obligations.ArbiterStartsBroadcastsPollsAndSlots : Prop :=
  ∀ s : State,
    (∀ e, s.nextWork = some (.latch e) →
      exec .sendLatch s = .next { s with line := { s.line with
        pendingLatch := none, inflight := some (s.freshTxn none (.latch e) .lineController) } }) ∧
    (s.nextWork = some .rollCall →
      exec .sendRollCall s = .next { s with line := { s.line with
        rollTimer := some s.clock.ms, inflight := some (s.freshTxn none .rollCall .lineController) } }) ∧
    (∀ p, s.nextWork = some (.resyncPoll p) →
      exec .sendPoll s = .next { s with line := { s.line with
        inflight := some (s.freshTxn (some p) .poll .lineController) } }) ∧
    (∀ p, s.nextWork = some (.agedPoll p) →
      exec .sendPoll s = .next { s with line := { s.line with
        pointer3 := p, inflight := some (s.freshTxn (some p) .poll .lineController) } }) ∧
    (∀ p, s.nextWork = some (.duePoll p) →
      exec .sendPoll s = .next { s with line := { s.line with
        pointer5 := p, inflight := some (s.freshTxn (some p) .poll .lineController) } }) ∧
    (∀ n, s.nextWork = some (.openSlot n) →
      exec .sendOpen s = .next { s with line := { s.line with
        inflight := some (s.freshTxn (some (pedOf n)) (.openSlot n) .sequencer) } }) ∧
    (∀ n, s.nextWork = some (.decrease n) →
      let v := (s.slots n).decValue
      exec .sendDecrease s = .next { s with line := { s.line with
        inflight := some (s.freshTxn (some (pedOf n))
          (.decrease n v (if v = 0 then 0 else s.alloc.hold)) .allocator) } })

/-- The head of a command queue leaves its queue and starts, whatever command it is; a setpoint starts with its value in
flight, an increase only when the committed sum with it stays within the effective site limit, a renewal within the
renew threshold of its hold, and at the lowest connector that has one to send. (That a CLOSE at the head is sent also
when its session has turned COMPLETE meanwhile is the model's reading, notes/assumptions/35.md, and so is that the
attempt is sent at the moment it starts, notes/assumptions/29.md; the record's own extra fields are its choice,
notes/assumptions/20.md.) -/
def Obligations.ArbiterStartsQueueHeadsAndSetpoints : Prop :=
  ∀ s : State,
    (∀ p e, s.nextWork = some (.head p e) →
      let after := { s with line := { s.line with
        peds := tset s.line.peds p { s.ped p with queue := (s.ped p).queue.tail }
        pointer3 := p
        inflight := some (s.freshTxn (some p) (.queued e.cmd) e.originator) } }
      ((∃ n, e.cmd = .close n) → exec .sendClose s = .next after) ∧
      ((∃ l k text, e.cmd = .display l k text) → exec .sendDisplay s = .next after) ∧
      ((∃ l c body, e.cmd = .passDown l c body) → exec .sendPassDown s = .next after) ∧
      (e.cmd = .clear → exec .sendClear s = .next after)) ∧
    (∀ w, s.nextWork = some (.setpoint w) →
      let x := s.setpoint w.conn
      let hold := if w.value = 0 then 0 else s.alloc.hold
      (w.increase = true → x.state = .increaseDeferred ∧ w.value = x.target ∧
        s.committedSum + (x.target - x.grant) ≤ s.effLimit) ∧
      (w.increase = false → (x.state = .steady ∨ x.state = .increaseDeferred) ∧ w.value = x.grant ∧
        ∃ e, x.holdExpiry = some e ∧ e < s.sec + s.alloc.renew) ∧
      (∀ m, m.val < w.conn.val → s.mayStart (pedOf m) = true →
        s.increaseReady m = false ∧ s.renewalReady m = false) ∧
      exec .sendSetpoint s = .next { s with
        alloc := { s.alloc with
          setpoints := tset s.alloc.setpoints w.conn
            { x with inFlight := some w.value, state := if w.increase then .increaseSent else x.state } }
        line := { s.line with
          inflight := some (s.freshTxn (some (pedOf w.conn))
            (if w.increase then .increase w.conn w.value hold else .renewal w.conn w.value hold) .allocator) } })

/-! ### Replies on the park line -/

/-- A good STATUS reply to a live POLL ends the transaction, stores what it reports, clears the failures and the resync
flag, is delivered in the order of R11, and leaves every other pedestal and its connectors alone; an ACTIVE pedestal is
polled again or, left idle, turns QUIET. Its contact step at a connector: verification, the entry to CLOSED with the
start fee and the budget check, the idle release, the rest count and the re-close, the progress of an opening, and an
unexpected contact. Its session step between CHARGING and COMPLETE: the complete state with its grace, and the return.
(The order of an unexpected contact before the rest count is the model's reading, notes/assumptions/32.md; the session
states without a row at a bad verification are its choice, notes/assumptions/19.md, and so is the delivery at a pedestal
that power-on has made UNCONFIGURED, notes/assumptions/37.md.) -/
def Obligations.StatusRepliesAreStoredAndDelivered : Prop :=
  (∀ (s : State) (x : Txn) (p : Ped) (r : StatusReply), s.line.inflight = some x → x.target = some p →
    x.kind = .poll → x.discarded = false → r.fits →
    let a := connOf p .a
    let b := connOf p .b
    let stored := { s with line := { s.line with
      inflight := none
      peds := tset s.line.peds p { (s.ped p).replied s.clock.ms with
        resync := false, reportA := some r.a, reportB := some r.b, available := some r.available } } }
    let read := (stored.deliverReading a r.a).deliverReading b r.b
    let contacted := (read.replyContact a r.a).replyContact b r.b
    let allocated := ((contacted.replySession a r.a).replySession b r.b).replyAllocation p
    let offered := match r.message with
      | some m => allocated.offerMessage p m
      | none => allocated
    exec (.statusReply (statusFrame p r)) s = .next (offered.afterDelivery p r) ∧
    ∃ t, exec (.statusReply (statusFrame p r)) s = .next t ∧
      SameBut [.line, .classifier, .sequencer, .auth, .sessions, .tariff, .alloc, .settlement, .uplink] s t ∧
      t.line.inflight = none ∧ (t.ped p).reportA = some r.a ∧ (t.ped p).reportB = some r.b ∧
      (t.ped p).available = some r.available ∧ (t.ped p).failCount = 0 ∧ (t.ped p).lastReply = some s.clock.ms ∧
      (t.ped p).resync = false ∧ (t.ped p).checkFails = (s.ped p).checkFails ∧
      (r.message = none → (t.ped p).disposition = .none ∧ (t.ped p).lastMessage = (s.ped p).lastMessage) ∧
      ((s.ped p).link = .active →
        ((t.ped p).link = .quiet ∧ (t.ped p).nextPoll = none) ∨
        ((t.ped p).link = .active ∧ (t.ped p).nextPoll = some (s.clock.ms + s.line.pollPeriod))) ∧
      (∀ q, q ≠ p → t.ped q = s.ped q) ∧
      (∀ n, pedOf n ≠ p → t.seq n = s.seq n ∧ t.sess n = s.sess n ∧ (t.slots n).openSet = (s.slots n).openSet) ∧
      ((s.ped p).link = .active → r.message = none →
        r.a.plugged = false → r.b.plugged = false → r.a.contact = .opened → r.b.contact = .opened →
        (∀ y, (s.sess (connOf p y)).state = .empty ∧ (s.seq (connOf p y)).contactor = .opened ∧
          (s.seq (connOf p y)).released = false) →
        (t.ped p).link = .quiet ∧ t.sequencer = s.sequencer ∧ t.sessions = s.sessions)) ∧
  (∀ (s : State) (n : Conn) (r : ConnReport),
    let t := s.replyContact n r
    let c := s.seq n
    let e := s.sess n
    let opens := fun (x : SeqRecord) => SameBut [.line, .sequencer] s t ∧ (t.slots n).openSet = true ∧
      t.seq n = { x with contactor := .opening, openAcked := false, repliesSinceOpen := 0 }
    let closes := fun (x : SeqRecord) => SameBut [.line, .sequencer] s t ∧ t.closeWaits n = true ∧
      t.seq n = { x with contactor := .closing }
    let may := s.readyToClose n ∧ e.state = .authorized ∧ s.sequencer.parkStop = false
    let faults := fun (k : FaultKind) => SameBut [.line, .sequencer, .auth, .sessions, .alloc, .uplink] s t ∧
      t.uplink = s.uplink.withRaised .connectorFault ∧ FaultTaken k n s t
    (∀ m, m ≠ n → t.seq m = s.seq m ∧ t.sess m = s.sess m ∧ (t.slots m).openSet = (s.slots m).openSet) ∧
    (∀ q, q ≠ pedOf n → t.ped q = s.ped q) ∧
    (c.contactor = .closing ∨ c.contactor = .faulted → t = s) ∧
    (c.contactor = .opened →
      (r.contact ≠ .opened → opens c) ∧
      (r.contact = .opened → c.released = false →
        (may → s.roomForClose n → closes { c with attempt := 1, openPending := false }) ∧ (¬ may → t = s)) ∧
      (r.contact = .opened → c.released = true →
        let rest := min (c.restCount + 1) 20
        let again := e.state = .charging ∧ r.plugged = true ∧ 0 < r.demand ∧ s.sequencer.idleRelease ≤ rest ∧
          s.sequencer.parkStop = false
        (again → s.roomForClose n → closes { c with attempt := 1, released := false, restCount := 0 }) ∧
        (¬ again → ¬ may → t = s.withSeq n { c with restCount := rest }))) ∧
    (c.contactor = .verifying →
      (∀ d, c.settleDeadline = some d → s.clock.ms < d → t = s) ∧
      ((∀ d, c.settleDeadline = some d → d ≤ s.clock.ms) →
        (r.contact = .closed → e.state ≠ .authorized →
          t = s.withSeq n { c with
            contactor := .closed, settleDeadline := none, idleCount := 0, released := false }) ∧
        (r.contact = .closed → e.state = .authorized → ∀ k rev, e.plan = some (k, rev) →
          let running := { e with
            state := .charging, readyDeadline := none, startFee := (s.plan k).contents.startFee }
          let stops := running.threshold ≤ running.running
          SameBut [.line, .sequencer, .sessions, .alloc] s t ∧ PassTaken t ∧
          t.sess n = (if stops then running.stoppedAt .budget (s.sec + s.sessions.stopWait) else running) ∧
          (t.seq n).contactor = (if stops then .opening else .closed) ∧ (t.seq n).settleDeadline = none ∧
          (t.seq n).idleCount = 0 ∧ (t.seq n).released = false ∧ (t.seq n).attempt = c.attempt) ∧
        (r.contact ≠ .closed → 3 ≤ c.attempt → faults .contactBad) ∧
        (r.contact ≠ .closed → c.attempt < 3 →
          (e.state = .authorized ∨ e.state = .charging → s.roomForClose n →
            closes { c with attempt := c.attempt + 1, settleDeadline := none } ∧ (t.slots n).openSet = true) ∧
          (e.state = .complete → opens { c with released := true, restCount := 0, settleDeadline := none }) ∧
          (e.state = .empty ∨ e.state = .awaitingAuth ∨ e.state = .stopping ∨ e.state = .closed → t = s)))) ∧
    (c.contactor = .closed →
      (r.contact ≠ .closed → faults .contactBad) ∧
      (r.contact = .closed →
        let idle := min (c.idleCount + 1) 20
        let rests := r.power = 0 ∧ (r.demand = 0 ∨ (s.setpoint n).grant = 0)
        (rests → s.sequencer.idleRelease ≤ idle → opens { c with released := true, idleCount := 0, restCount := 0 }) ∧
        (rests → idle < s.sequencer.idleRelease → t = s.withSeq n { c with idleCount := idle }) ∧
        (¬ rests → t = s.withSeq n { c with idleCount := 0 }))) ∧
    (c.contactor = .opening →
      (c.openAcked = false → t = s) ∧
      (c.openAcked = true → r.contact = .opened →
        (c.locks ≠ ⟨false, false⟩ →
          t = s.withSeq n { c with contactor := .locked, openAcked := false, repliesSinceOpen := 0 }) ∧
        (c.locks = ⟨false, false⟩ → e.state ≠ .authorized →
          t = s.withSeq n { c with contactor := .opened, openAcked := false, repliesSinceOpen := 0 }) ∧
        (c.locks = ⟨false, false⟩ → e.state = .authorized → s.roomForClose n → SameBut [.line, .sequencer] s t ∧
          OpenEntered { c with contactor := .opened, openAcked := false, repliesSinceOpen := 0 } n s t)) ∧
      (c.openAcked = true → r.contact ≠ .opened →
        (c.repliesSinceOpen < 2 → t = s.withSeq n { c with repliesSinceOpen := c.repliesSinceOpen + 1 }) ∧
        (2 ≤ c.repliesSinceOpen → faults .welded))) ∧
    (c.contactor = .locked → (r.contact = .opened → t = s) ∧ (r.contact ≠ .opened → faults .welded))) ∧
  ∀ (s : State) (n : Conn) (r : ConnReport), r.plugged = true ∨ (s.sess n).plugSeen = false →
    let t := s.replySession n r
    let e := { s.sess n with plugSeen := (s.sess n).plugSeen || r.plugged }
    ((s.sess n).state = .charging → r.complete = true → ∀ k rev, (s.sess n).plan = some (k, rev) →
      SameBut [.line, .sessions, .alloc] s t ∧ PassTaken t ∧ (∀ m, m ≠ n → t.sess m = s.sess m) ∧
      t.sess n = { e with state := .complete, grace := (s.plan k).contents.grace }) ∧
    ((s.sess n).state = .complete → r.complete = false → 0 < r.demand →
      SameBut [.line, .sessions, .alloc] s t ∧ PassTaken t ∧ (∀ m, m ≠ n → t.sess m = s.sess m) ∧
      t.sess n = { e with state := .charging }) ∧
    (((s.sess n).state = .charging ∧ r.complete = false) ∨
      ((s.sess n).state = .complete ∧ (r.complete = true ∨ r.demand = 0)) → t = s.withSess n e)

/-- A good ACK ends its live transaction and clears the failures; an OPEN's clears the slot unless it was set again, a
CLOSE's starts verification or the opening that waited for it, a host message's is counted, a CLEAR's forgets the last
message number, and a setpoint's sets the grant and its hold and places the record. (That an OPEN's ACK counts as
acknowledged also when its slot was set again, and that a renewal after a fall-back is known by the absent hold, is the
model's reading, notes/assumptions/24.md; the send time that a hold counts from, notes/assumptions/29.md; that the ACK
is applied to a record or a pedestal that power-on has reset meanwhile, the model's choice, notes/assumptions/36.md and
37.md.) -/
def Obligations.AcksEndTheirCommand : Prop :=
  ∀ (s : State) (x : Txn) (p : Ped), s.line.inflight = some x → x.target = some p → x.discarded = false →
    let ended := { s.line with
      inflight := none, peds := tset s.line.peds p ((s.ped p).replied s.clock.ms) }
    let acked := exec (.ackReply (ackFrame p)) s
    let recs := fun (n : Conn) (r : SeqRecord) => { s.sequencer with recs := tset s.sequencer.recs n r }
    let expiry := fun (v h : Nat) => if v = 0 then none else some (x.sentAt / 1000 + h)
    let placed := fun (n : Conn) (t : State) => SameBut [.line, .alloc] s t ∧ t.line.peds = ended.peds ∧
      t.line.inflight = none ∧ ((t.setpoint n).state = .increaseSent ∨ Placed (t.setpoint n) (t.slots n)) ∧
      ∀ m, m ≠ n → t.setpoint m = s.setpoint m ∧ t.slots m = s.slots m
    (∀ n, x.kind = .openSlot n → acked = .next { s with
      line := { ended with
        slots := if x.setAgain then s.line.slots else tset s.line.slots n { s.slots n with openSet := false } }
      sequencer := if (s.seq n).contactor = .opening then recs n { s.seq n with openAcked := true }
        else s.sequencer }) ∧
    (∀ n, x.kind = .queued (.close n) →
      ((s.seq n).contactor = .closing → (s.seq n).openPending = false → acked = .next { s with
        line := ended
        sequencer := recs n { s.seq n with
          contactor := .verifying, settleDeadline := some (s.clock.ms + s.sequencer.settleTime) } }) ∧
      ((s.seq n).contactor = .closing → (s.seq n).openPending = true → acked = .next { s with
        line := ended
        sequencer := recs n { s.seq n with
          contactor := .opening, openPending := false, openAcked := false, repliesSinceOpen := 0 } }) ∧
      ((s.seq n).contactor ≠ .closing → acked = .next { s with line := ended })) ∧
    ((∃ l k text, x.kind = .queued (.display l k text)) ∨ (∃ l c body, x.kind = .queued (.passDown l c body)) →
      (x.originator = .classifier → acked = .next { s with
        line := ended
        classifier := { s.classifier with
          counts := tset s.classifier.counts p
            { s.counts p with downAcked := min ((s.counts p).downAcked + 1) 65535 } } }) ∧
      (x.originator ≠ .classifier → acked = .next { s with line := ended })) ∧
    (x.kind = .queued .clear → acked = .next { s with
      line := { ended with
        peds := tset s.line.peds p { (s.ped p).replied s.clock.ms with lastMessage := none } } }) ∧
    (∀ n v h, x.kind = .decrease n v h → ∃ t, acked = .next t ∧ placed n t ∧ (t.setpoint n).grant = v ∧
      (t.setpoint n).holdExpiry = expiry v h ∧ (t.setpoint n).target = (s.setpoint n).target) ∧
    (∀ n v h, x.kind = .increase n v h → ∃ t, acked = .next t ∧ placed n t ∧ (t.setpoint n).grant = v ∧
      (t.setpoint n).holdExpiry = expiry v h ∧ (t.setpoint n).inFlight = none ∧
      (t.setpoint n).state ≠ .increaseSent) ∧
    (∀ n v h, x.kind = .renewal n v h → ∃ t, acked = .next t ∧ placed n t ∧
      (t.setpoint n).grant = (if (s.setpoint n).holdExpiry = none then v else (s.setpoint n).grant) ∧
      (t.setpoint n).holdExpiry = expiry v h ∧ (t.setpoint n).inFlight = none)

/-- A good NAK ends its live transaction: a host message's is counted; a CLOSE is queued again until the third attempt,
which faults the connector with CLOSE_REFUSED and stops its session; with open pending, or for a COMPLETE session, it
goes to OPENING instead; a refused increase gives its target up, a refused renewal falls back. (That this holds for a
record or a pedestal that power-on has reset meanwhile is the model's choice, notes/assumptions/36.md and 37.md.) -/
def Obligations.NaksEndTheirCommand : Prop :=
  ∀ (s : State) (x : Txn) (p : Ped), s.line.inflight = some x → x.target = some p → x.discarded = false →
    let entry := (s.ped p).replied s.clock.ms
    let ended := { s.line with inflight := none, peds := tset s.line.peds p entry }
    let refused := exec (.nakReply (nakFrame p)) s
    ((∃ l k text, x.kind = .queued (.display l k text)) ∨ (∃ l c body, x.kind = .queued (.passDown l c body)) →
      (x.originator = .classifier → refused = .next { s with
        line := ended
        classifier := { s.classifier with
          counts := tset s.classifier.counts p
            { s.counts p with downRefused := min ((s.counts p).downRefused + 1) 65535 } } }) ∧
      (x.originator ≠ .classifier → refused = .next { s with line := ended })) ∧
    (x.kind = .queued .clear → refused = .next { s with line := ended }) ∧
    (∀ n, x.kind = .queued (.close n) → (s.seq n).contactor ≠ .closing → refused = .next { s with line := ended }) ∧
    (∀ n, x.kind = .queued (.close n) → (s.seq n).contactor = .closing → (s.seq n).openPending = true →
      refused = .next { s with
        line := ended
        sequencer := { s.sequencer with
          recs := tset s.sequencer.recs n { s.seq n with
            contactor := .opening, openPending := false, openAcked := false, repliesSinceOpen := 0 } } }) ∧
    (∀ n, x.kind = .queued (.close n) → pedOf n = p → (s.seq n).contactor = .closing → (s.seq n).openPending = false →
      ((s.seq n).attempt < 3 → (s.sess n).state = .complete → ∃ t, refused = .next t ∧
        SameBut [.line, .sequencer] s t ∧ t.line.inflight = none ∧ (t.slots n).openSet = true ∧
        t.seq n = { s.seq n with
          contactor := .opening, openAcked := false, repliesSinceOpen := 0, released := true, restCount := 0 } ∧
        ∀ m, m ≠ n → t.seq m = s.seq m ∧ t.slots m = s.slots m) ∧
      ((s.seq n).attempt < 3 → (s.sess n).state = .authorized ∨ (s.sess n).state = .charging →
        (s.ped p).link ≠ .unconfigured → (s.ped p).queue.length < 4 → refused = .next { s with
          line := { ended with
            peds := tset s.line.peds p { entry with queue := (s.ped p).queue ++ [⟨.close n, .sequencer⟩] } }
          sequencer := { s.sequencer with
            recs := tset s.sequencer.recs n { s.seq n with attempt := (s.seq n).attempt + 1 } } }) ∧
      (3 ≤ (s.seq n).attempt → ∃ t, refused = .next t ∧
        SameBut [.line, .sequencer, .auth, .sessions, .alloc, .uplink] s t ∧ t.line.inflight = none ∧
        (t.seq n).contactor = .faulted ∧ (t.seq n).fault = some .closeRefused ∧ (t.slots n).openSet = true ∧
        t.uplink = s.uplink.withRaised .connectorFault ∧ StopTaken .pedestalFault n s.sec s t ∧
        ∀ m, m ≠ n → t.seq m = s.seq m ∧ t.sess m = s.sess m)) ∧
    (∀ n v h, x.kind = .increase n v h → ∃ t, refused = .next t ∧ SameBut [.line, .alloc] s t ∧
      t.line.inflight = none ∧ t.ped p = entry ∧ (t.setpoint n).grant = (s.setpoint n).grant ∧
      (t.setpoint n).holdExpiry = (s.setpoint n).holdExpiry ∧ (t.setpoint n).inFlight = none ∧
      (t.setpoint n).target = min (s.setpoint n).target (s.setpoint n).grant ∧ Placed (t.setpoint n) (t.slots n)) ∧
    (∀ n v h, x.kind = .renewal n v h → ∃ t, refused = .next t ∧ SameBut [.line, .alloc] s t ∧
      t.line.inflight = none ∧ t.ped p = entry ∧ (t.setpoint n).grant = s.failsafe n ∧
      (t.setpoint n).holdExpiry = none ∧ (t.setpoint n).inFlight = none ∧ PassTaken t)

/-- A failed attempt counts against its pedestal and is sent again with a new deadline, the same frame unless it is a
decrease, whose value is the slot's of that moment; a frame that fails its check word is counted too, one of a wrong
length, address or kind is not. The third makes the pedestal UNREACHABLE with PEDESTAL_LOST and a pass, whether a frame
or the deadline failed it, and empties the command queue; a lost CLOSE is a NAK. A NAK to an OPEN or a decrease is such
a failed attempt. A count already at 3 takes a free value of its range (the model's choice, notes/assumptions/13.md),
and so are its choice or its reading the passing of time to the deadline (5.md), that such a NAK is no good reply
(14.md), the hold and the bytes of a retried decrease (15.md), the exact new deadline (29.md), that an UNCONFIGURED
target stays as it is (31.md), and that a setpoint record or a pedestal reset by power-on meanwhile changes all the same
(36.md, 37.md). -/
def Obligations.FailedAttemptsAreRetriedThenLost : Prop :=
  ∀ (s : State) (x : Txn) (p : Ped), s.line.inflight = some x → x.target = some p → x.discarded = false →
    let count := (s.ped p).failCount
    let entryAt := fun (ms : Nat) => { s.ped p with
      failCount := if count < 3 then count + 1 else (Config.failsPastRange (ms * 24 + p.val)).toNat }
    let entry := entryAt s.clock.ms
    let again := fun (ms : Nat) => { x with
      attempt := x.attempt + 1, deadline := ms + s.line.replyTimeout, sentAt := ms, setAgain := false }
    let retried := { s.line with
      inflight := some (again s.clock.ms), peds := tset s.line.peds p entry }
    let lostAt := fun (ms : Nat) => { entryAt ms with
      link := .unreachable, resync := false, queue := [], nextPoll := none, disposition := .none }
    let lost := lostAt s.clock.ms
    let failed := fun (frame : Frame) => exec (.badReply frame) s
    ((∀ n v h, x.kind ≠ .decrease n v h) → x.attempt < 3 →
      (∀ frame, lengthGood frame = false → failed frame = .next { s with line := retried }) ∧
      (∀ frame, lengthGood frame = true → checkGood frame = false → failed frame = .next { s with
        line := { retried with
          peds := tset s.line.peds p { entry with checkFails := min ((s.ped p).checkFails + 1) 65535 } }
        uplink := s.uplink.withRaised .linkErrors }) ∧
      (∀ frame, lengthGood frame = true → checkGood frame = true → frame.head? ≠ some (byte (p.val + 1)) →
        failed frame = .next { s with line := retried }) ∧
      (∀ r : StatusReply, r.fits → x.kind ≠ .poll → failed (statusFrame p r) = .next { s with line := retried }) ∧
      (x.kind = .poll → failed (ackFrame p) = .next { s with line := retried } ∧
        failed (nakFrame p) = .next { s with line := retried })) ∧
    ((∀ n v h, x.kind ≠ .decrease n v h) → x.attempt < 3 → x.deadline ≤ Config.lastMs →
      ∃ t, exec .replyTimeout s = .next t ∧ SameBut [.line, .clock] s t ∧ ClockAt x.deadline s.clock t.clock ∧
        t.line = { retried with
          inflight := some (again (max s.clock.ms x.deadline))
          peds := tset s.line.peds p (entryAt (max s.clock.ms x.deadline)) }) ∧
    (∀ n, x.kind = .openSlot n → x.attempt < 3 →
      exec (.nakReply (nakFrame p)) s = .next { s with line := retried }) ∧
    (∀ n v h, x.kind = .decrease n v h → x.attempt < 3 →
      ∃ t y, exec (.nakReply (nakFrame p)) s = .next t ∧ SameBut [.line] s t ∧ t.ped p = entry ∧
        t.line.inflight = some y ∧ y.attempt = x.attempt + 1 ∧ y.target = x.target ∧
        y.kind = .decrease n (s.slots n).decValue (if (s.slots n).decValue = 0 then 0 else s.alloc.hold)) ∧
    (∀ frame, lengthGood frame = false → 3 ≤ x.attempt → (s.ped p).link = .unconfigured →
      failed frame = .next { s with line := { s.line with
        inflight := none, peds := tset s.line.peds p entry } }) ∧
    (∀ frame, lengthGood frame = false → 3 ≤ x.attempt → (s.ped p).link ≠ .unconfigured →
      (∀ e ∈ (s.ped p).queue, ∀ n, e.cmd ≠ .close n) →
      let plain := x.kind = .poll ∨ (∃ n, x.kind = .openSlot n) ∨ (∃ n v h, x.kind = .decrease n v h) ∨
        (∃ c, x.kind = .queued c ∧ ∀ n, c = .close n → (s.seq n).contactor ≠ .closing)
      (plain →
        ∃ t, failed frame = .next t ∧ SameBut [.line, .alloc, .uplink] s t ∧ t.line.inflight = none ∧
          t.ped p = lost ∧ t.uplink = s.uplink.withRaised .pedestalLost ∧ PassTaken t ∧
          (∀ q, q ≠ p → t.ped q = s.ped q) ∧
          ∀ n, pedOf n = p → t.slots n = s.slots n ∧ t.setpoint n = s.setpoint n) ∧
      (plain → x.deadline ≤ Config.lastMs →
        ∃ t, exec .replyTimeout s = .next t ∧ SameBut [.line, .clock, .alloc, .uplink] s t ∧
          ClockAt x.deadline s.clock t.clock ∧ t.line.inflight = none ∧
          t.ped p = lostAt (max s.clock.ms x.deadline) ∧ t.uplink = s.uplink.withRaised .pedestalLost ∧
          PassTaken t ∧ ∀ q, q ≠ p → t.ped q = s.ped q) ∧
      (∀ n v h, x.kind = .increase n v h ∨ x.kind = .renewal n v h → pedOf n = p →
        ∃ t, failed frame = .next t ∧ SameBut [.line, .alloc, .uplink] s t ∧ t.line.inflight = none ∧
          t.ped p = lost ∧ PassTaken t ∧ (t.setpoint n).inFlight = none ∧
          (t.setpoint n).grant = (s.setpoint n).grant ∧ (t.setpoint n).holdExpiry = (s.setpoint n).holdExpiry ∧
          (x.kind = .increase n v h →
            (t.setpoint n).state =
              if (s.setpoint n).grant < (s.setpoint n).target then .increaseDeferred else .steady)) ∧
      (∀ n, x.kind = .queued (.close n) → pedOf n = p → (s.seq n).contactor = .closing →
        (s.seq n).openPending = false →
        ((s.seq n).attempt < 3 → (s.sess n).state = .authorized ∨ (s.sess n).state = .charging →
          ∃ t, failed frame = .next t ∧ SameBut [.line, .sequencer, .alloc, .uplink] s t ∧
            t.line.inflight = none ∧ t.ped p = { lost with queue := [⟨.close n, .sequencer⟩] } ∧
            t.seq n = { s.seq n with attempt := (s.seq n).attempt + 1 } ∧ PassTaken t ∧
            ∀ m, m ≠ n → t.seq m = s.seq m) ∧
        (3 ≤ (s.seq n).attempt →
          ∃ t, failed frame = .next t ∧
            SameBut [.line, .sequencer, .auth, .sessions, .alloc, .uplink] s t ∧ t.line.inflight = none ∧
            t.ped p = lost ∧ FaultTaken .closeRefused n s t ∧ PassTaken t ∧
            hasEvent .pedestalLost t.uplink.pendingSet = true ∧
            ∀ m, m ≠ n → t.seq m = s.seq m ∧ t.sess m = s.sess m)))

/-- A frame that arrives while no attempt waits changes nothing; a transaction marked discarded ends at its frame or its
deadline without any other effect. The five frame events read a frame by its bytes alone. (The last is the model's
reading, notes/assumptions/10.md, and so is that any frame ends a discarded transaction, notes/assumptions/14.md; a
timeout with nothing on the line, notes/assumptions/1.md, and the passing of time to the deadline,
notes/assumptions/5.md, are its choice.) -/
def Obligations.StrayAndDiscardedFramesHaveNoEffect : Prop :=
  ∀ (s : State) (frame : Frame),
    (s.line.inflight = none ∨ (∃ x, s.line.inflight = some x ∧ x.target = none) →
      exec (.strayFrame frame) s = .next s ∧ exec (.statusReply frame) s = .next s ∧
      exec (.ackReply frame) s = .next s ∧ exec (.nakReply frame) s = .next s ∧ exec (.badReply frame) s = .next s ∧
      exec .replyTimeout s = .next s) ∧
    (∀ x p, s.line.inflight = some x → x.target = some p → x.discarded = true →
      exec (.statusReply frame) s = .next { s with line := { s.line with inflight := none } } ∧
      (x.deadline ≤ Config.lastMs →
        ∃ t, exec .replyTimeout s = .next t ∧ SameBut [.line, .clock] s t ∧ ClockAt x.deadline s.clock t.clock ∧
          t.line = { s.line with inflight := none })) ∧
    exec (.strayFrame frame) s = exec (.statusReply frame) s ∧ exec (.ackReply frame) s = exec (.statusReply frame) s ∧
    exec (.nakReply frame) s = exec (.statusReply frame) s ∧ exec (.badReply frame) s = exec (.statusReply frame) s

/-! ### Roll call -/

/-- BROADCAST_SENT ends a LATCH and opens the window of a ROLL_CALL over the slots 0 to the highest held one;
ROLL_CALL_SLOT handles the answer for the pedestal that holds the slot, by its link state, and passes to the next slot
or frees the line after the last. A frame of any length that fails its check word is counted, and a longer good one is
ABSENT uncounted. (That a window over no held slot ends at once and that its extent is fixed at BROADCAST_SENT is the
model's choice, and that a frame of one or two bytes fails its check word its reading, notes/assumptions/12.md; the
passing of time to the end of a slot is its choice, notes/assumptions/5.md.) -/
def Obligations.RollCallWindowServesEachSlot : Prop :=
  (∀ (s : State) (x : Txn), s.line.inflight = some x →
    ((∃ e, x.kind = .latch e) →
      exec .broadcastSent s = .next { s with line := { s.line with inflight := none } }) ∧
    (x.kind = .rollCall → s.line.window = none →
      (∀ p, (s.ped p).configured = true → (s.ped p).slot = none) →
      exec .broadcastSent s = .next { s with line := { s.line with inflight := none } }) ∧
    (∀ p k, x.kind = .rollCall → s.line.window = none → (s.ped p).configured = true → (s.ped p).slot = some k →
      (∀ q j, (s.ped q).configured = true → (s.ped q).slot = some j → j ≤ k) →
      exec .broadcastSent s = .next { s with
        line := { s.line with window := some ⟨0, k.val, s.clock.ms⟩ } })) ∧
  ∀ (s : State) (w : RollWindow) (p : Ped) (k : Fin 24), s.PedestalsSound → s.line.window = some w →
    (s.ped p).configured = true → (s.ped p).slot = some k → k.val = w.slot →
    w.start + 2 * (w.slot + 1) ≤ Config.lastMs →
    let e := s.ped p
    let now := max s.clock.ms (w.start + 2 * (w.slot + 1))
    let after := fun (touched : List Block) (t : State) =>
      SameBut (.line :: .clock :: touched) s t ∧ ClockAt (w.start + 2 * (w.slot + 1)) s.clock t.clock ∧
      (∀ q, q ≠ p → t.ped q = s.ped q) ∧ t.line.pendingLatch = s.line.pendingLatch ∧
      t.line.window = (if w.last ≤ w.slot then none else some { w with slot := w.slot + 1 }) ∧
      t.line.inflight = (if w.last ≤ w.slot then none else s.line.inflight)
    (∀ value : Byte, ∃ t, exec (.rollCallSlot (withCheck [value])) s = .next t ∧
      (e.link = .probing ∨ e.link = .quiet → after [] t ∧
        t.ped p = (if value = 0 then { e with absentCount := 0, link := .quiet }
          else { e with absentCount := 0, link := .active, nextPoll := some now })) ∧
      (e.link = .active → after [] t ∧
        t.ped p = (if value = 0 then { e with absentCount := 0 }
          else { e with absentCount := 0, nextPoll := e.nextPoll.map (min now) })) ∧
      (e.link = .unreachable → after [.alloc, .uplink] t ∧ PassTaken t ∧
        t.uplink = s.uplink.withRaised .pedestalFound ∧
        t.ped p = { e with
          absentCount := 0, failCount := 0, link := .active, resync := true, nextPoll := some now })) ∧
    (∀ silence : Frame, silence = [] ∨ (3 < silence.length ∧ checkGood silence = true) →
      ∃ t, exec (.rollCallSlot silence) s = .next t ∧
      (e.link = .active ∨ e.link = .unreachable → after [] t ∧ t.ped p = e) ∧
      (e.link = .probing ∨ e.link = .quiet → e.absentCount < 2 → after [] t ∧
        t.ped p = { e with absentCount := e.absentCount + 1 }) ∧
      (e.link = .probing ∨ e.link = .quiet → e.absentCount = 2 → e.queue = [] → after [.alloc, .uplink] t ∧
        PassTaken t ∧ t.uplink = s.uplink.withRaised .pedestalLost ∧
        t.ped p = { e with
          absentCount := 3, link := .unreachable, resync := false, nextPoll := none, disposition := .none })) ∧
    (∀ answer : Frame, answer ≠ [] → checkGood answer = false → e.link = .active →
      ∃ t, exec (.rollCallSlot answer) s = .next t ∧ after [.uplink] t ∧
        t.uplink = s.uplink.withRaised .linkErrors ∧
        t.ped p = { e with checkFails := min (e.checkFails + 1) 65535 })
end

