-- ==== Sys2Proof/Laws/State.lean ====
section
/-! SUPPORT. One lemma per field per update of the state: the entry updaters of Machine/Ops.lean, the transaction on
the line and the uplink. Later proofs cite these and unfold no record update. -/

namespace Sys2Proof.Machine

/-! ### updPed -/

@[simp] theorem State.updPed_classifier (p : Ped) (f : Pedestal → Pedestal) (s : State) : (s.updPed p f).classifier = s.classifier := rfl

@[simp] theorem State.updPed_sequencer (p : Ped) (f : Pedestal → Pedestal) (s : State) : (s.updPed p f).sequencer = s.sequencer := rfl

@[simp] theorem State.updPed_auth (p : Ped) (f : Pedestal → Pedestal) (s : State) : (s.updPed p f).auth = s.auth := rfl

@[simp] theorem State.updPed_sessions (p : Ped) (f : Pedestal → Pedestal) (s : State) : (s.updPed p f).sessions = s.sessions := rfl

@[simp] theorem State.updPed_tariff (p : Ped) (f : Pedestal → Pedestal) (s : State) : (s.updPed p f).tariff = s.tariff := rfl

@[simp] theorem State.updPed_clock (p : Ped) (f : Pedestal → Pedestal) (s : State) : (s.updPed p f).clock = s.clock := rfl

@[simp] theorem State.updPed_metering (p : Ped) (f : Pedestal → Pedestal) (s : State) : (s.updPed p f).metering = s.metering := rfl

@[simp] theorem State.updPed_alloc (p : Ped) (f : Pedestal → Pedestal) (s : State) : (s.updPed p f).alloc = s.alloc := rfl

@[simp] theorem State.updPed_settlement (p : Ped) (f : Pedestal → Pedestal) (s : State) : (s.updPed p f).settlement = s.settlement := rfl

@[simp] theorem State.updPed_uplink (p : Ped) (f : Pedestal → Pedestal) (s : State) : (s.updPed p f).uplink = s.uplink := rfl

@[simp] theorem State.updPed_pending (p : Ped) (f : Pedestal → Pedestal) (s : State) : (s.updPed p f).pending = s.pending := rfl

@[simp] theorem State.updPed_line_slots (p : Ped) (f : Pedestal → Pedestal) (s : State) :
    (s.updPed p f).line.slots = s.line.slots := rfl

@[simp] theorem State.updPed_line_inflight (p : Ped) (f : Pedestal → Pedestal) (s : State) :
    (s.updPed p f).line.inflight = s.line.inflight := rfl

@[simp] theorem State.updPed_line_window (p : Ped) (f : Pedestal → Pedestal) (s : State) :
    (s.updPed p f).line.window = s.line.window := rfl

@[simp] theorem State.updPed_line_pendingLatch (p : Ped) (f : Pedestal → Pedestal) (s : State) :
    (s.updPed p f).line.pendingLatch = s.line.pendingLatch := rfl

@[simp] theorem State.updPed_line_rollTimer (p : Ped) (f : Pedestal → Pedestal) (s : State) :
    (s.updPed p f).line.rollTimer = s.line.rollTimer := rfl

@[simp] theorem State.updPed_line_replyTimeout (p : Ped) (f : Pedestal → Pedestal) (s : State) :
    (s.updPed p f).line.replyTimeout = s.line.replyTimeout := rfl

@[simp] theorem State.updPed_line_pollPeriod (p : Ped) (f : Pedestal → Pedestal) (s : State) :
    (s.updPed p f).line.pollPeriod = s.line.pollPeriod := rfl

@[simp] theorem State.updPed_line_rollPeriod (p : Ped) (f : Pedestal → Pedestal) (s : State) :
    (s.updPed p f).line.rollPeriod = s.line.rollPeriod := rfl

@[simp] theorem State.updPed_line_pointer3 (p : Ped) (f : Pedestal → Pedestal) (s : State) :
    (s.updPed p f).line.pointer3 = s.line.pointer3 := rfl

@[simp] theorem State.updPed_line_pointer5 (p : Ped) (f : Pedestal → Pedestal) (s : State) :
    (s.updPed p f).line.pointer5 = s.line.pointer5 := rfl

@[simp] theorem State.updPed_ped_same (p : Ped) (f : Pedestal → Pedestal) (s : State) :
    (s.updPed p f).ped p = f (s.ped p) := by simp [State.updPed, State.ped]

theorem State.updPed_ped (p p' : Ped) (f : Pedestal → Pedestal) (s : State) :
    (s.updPed p f).ped p' = if p' = p then f (s.ped p) else s.ped p' := by
  simp only [State.updPed, State.ped, tget_tset]

theorem State.updPed_ped_of_ne (p p' : Ped) (f : Pedestal → Pedestal) (s : State) (h : p' ≠ p) :
    (s.updPed p f).ped p' = s.ped p' := by rw [State.updPed_ped, if_neg h]

@[simp] theorem State.updPed_slots (p : Ped) (f : Pedestal → Pedestal) (s : State) (n' : Conn) :
    (s.updPed p f).slots n' = s.slots n' := rfl

@[simp] theorem State.updPed_seq (p : Ped) (f : Pedestal → Pedestal) (s : State) (n' : Conn) :
    (s.updPed p f).seq n' = s.seq n' := rfl

@[simp] theorem State.updPed_sess (p : Ped) (f : Pedestal → Pedestal) (s : State) (n' : Conn) :
    (s.updPed p f).sess n' = s.sess n' := rfl

@[simp] theorem State.updPed_plan (p : Ped) (f : Pedestal → Pedestal) (s : State) (k' : PlanSlot) :
    (s.updPed p f).plan k' = s.plan k' := rfl

@[simp] theorem State.updPed_config (p : Ped) (f : Pedestal → Pedestal) (s : State) (p' : Ped) :
    (s.updPed p f).config p' = s.config p' := rfl

@[simp] theorem State.updPed_setpoint (p : Ped) (f : Pedestal → Pedestal) (s : State) (n' : Conn) :
    (s.updPed p f).setpoint n' = s.setpoint n' := rfl

@[simp] theorem State.updPed_counts (p : Ped) (f : Pedestal → Pedestal) (s : State) (p' : Ped) :
    (s.updPed p f).counts p' = s.counts p' := rfl

@[simp] theorem State.updPed_decision (p : Ped) (f : Pedestal → Pedestal) (s : State) (n' : Conn) :
    (s.updPed p f).decision n' = s.decision n' := rfl

/-! ### updSlots -/

@[simp] theorem State.updSlots_classifier (n : Conn) (f : SafetySlots → SafetySlots) (s : State) : (s.updSlots n f).classifier = s.classifier := rfl

@[simp] theorem State.updSlots_sequencer (n : Conn) (f : SafetySlots → SafetySlots) (s : State) : (s.updSlots n f).sequencer = s.sequencer := rfl

@[simp] theorem State.updSlots_auth (n : Conn) (f : SafetySlots → SafetySlots) (s : State) : (s.updSlots n f).auth = s.auth := rfl

@[simp] theorem State.updSlots_sessions (n : Conn) (f : SafetySlots → SafetySlots) (s : State) : (s.updSlots n f).sessions = s.sessions := rfl

@[simp] theorem State.updSlots_tariff (n : Conn) (f : SafetySlots → SafetySlots) (s : State) : (s.updSlots n f).tariff = s.tariff := rfl

@[simp] theorem State.updSlots_clock (n : Conn) (f : SafetySlots → SafetySlots) (s : State) : (s.updSlots n f).clock = s.clock := rfl

@[simp] theorem State.updSlots_metering (n : Conn) (f : SafetySlots → SafetySlots) (s : State) : (s.updSlots n f).metering = s.metering := rfl

@[simp] theorem State.updSlots_alloc (n : Conn) (f : SafetySlots → SafetySlots) (s : State) : (s.updSlots n f).alloc = s.alloc := rfl

@[simp] theorem State.updSlots_settlement (n : Conn) (f : SafetySlots → SafetySlots) (s : State) : (s.updSlots n f).settlement = s.settlement := rfl

@[simp] theorem State.updSlots_uplink (n : Conn) (f : SafetySlots → SafetySlots) (s : State) : (s.updSlots n f).uplink = s.uplink := rfl

@[simp] theorem State.updSlots_pending (n : Conn) (f : SafetySlots → SafetySlots) (s : State) : (s.updSlots n f).pending = s.pending := rfl

@[simp] theorem State.updSlots_line_peds (n : Conn) (f : SafetySlots → SafetySlots) (s : State) :
    (s.updSlots n f).line.peds = s.line.peds := rfl

@[simp] theorem State.updSlots_line_inflight (n : Conn) (f : SafetySlots → SafetySlots) (s : State) :
    (s.updSlots n f).line.inflight = s.line.inflight := rfl

@[simp] theorem State.updSlots_line_window (n : Conn) (f : SafetySlots → SafetySlots) (s : State) :
    (s.updSlots n f).line.window = s.line.window := rfl

@[simp] theorem State.updSlots_line_pendingLatch (n : Conn) (f : SafetySlots → SafetySlots) (s : State) :
    (s.updSlots n f).line.pendingLatch = s.line.pendingLatch := rfl

@[simp] theorem State.updSlots_line_rollTimer (n : Conn) (f : SafetySlots → SafetySlots) (s : State) :
    (s.updSlots n f).line.rollTimer = s.line.rollTimer := rfl

@[simp] theorem State.updSlots_line_replyTimeout (n : Conn) (f : SafetySlots → SafetySlots) (s : State) :
    (s.updSlots n f).line.replyTimeout = s.line.replyTimeout := rfl

@[simp] theorem State.updSlots_line_pollPeriod (n : Conn) (f : SafetySlots → SafetySlots) (s : State) :
    (s.updSlots n f).line.pollPeriod = s.line.pollPeriod := rfl

@[simp] theorem State.updSlots_line_rollPeriod (n : Conn) (f : SafetySlots → SafetySlots) (s : State) :
    (s.updSlots n f).line.rollPeriod = s.line.rollPeriod := rfl

@[simp] theorem State.updSlots_line_pointer3 (n : Conn) (f : SafetySlots → SafetySlots) (s : State) :
    (s.updSlots n f).line.pointer3 = s.line.pointer3 := rfl

@[simp] theorem State.updSlots_line_pointer5 (n : Conn) (f : SafetySlots → SafetySlots) (s : State) :
    (s.updSlots n f).line.pointer5 = s.line.pointer5 := rfl

@[simp] theorem State.updSlots_ped (n : Conn) (f : SafetySlots → SafetySlots) (s : State) (p' : Ped) :
    (s.updSlots n f).ped p' = s.ped p' := rfl

@[simp] theorem State.updSlots_slots_same (n : Conn) (f : SafetySlots → SafetySlots) (s : State) :
    (s.updSlots n f).slots n = f (s.slots n) := by simp [State.updSlots, State.slots]

theorem State.updSlots_slots (n n' : Conn) (f : SafetySlots → SafetySlots) (s : State) :
    (s.updSlots n f).slots n' = if n' = n then f (s.slots n) else s.slots n' := by
  simp only [State.updSlots, State.slots, tget_tset]

theorem State.updSlots_slots_of_ne (n n' : Conn) (f : SafetySlots → SafetySlots) (s : State) (h : n' ≠ n) :
    (s.updSlots n f).slots n' = s.slots n' := by rw [State.updSlots_slots, if_neg h]

@[simp] theorem State.updSlots_seq (n : Conn) (f : SafetySlots → SafetySlots) (s : State) (n' : Conn) :
    (s.updSlots n f).seq n' = s.seq n' := rfl

@[simp] theorem State.updSlots_sess (n : Conn) (f : SafetySlots → SafetySlots) (s : State) (n' : Conn) :
    (s.updSlots n f).sess n' = s.sess n' := rfl

@[simp] theorem State.updSlots_plan (n : Conn) (f : SafetySlots → SafetySlots) (s : State) (k' : PlanSlot) :
    (s.updSlots n f).plan k' = s.plan k' := rfl

@[simp] theorem State.updSlots_config (n : Conn) (f : SafetySlots → SafetySlots) (s : State) (p' : Ped) :
    (s.updSlots n f).config p' = s.config p' := rfl

@[simp] theorem State.updSlots_setpoint (n : Conn) (f : SafetySlots → SafetySlots) (s : State) (n' : Conn) :
    (s.updSlots n f).setpoint n' = s.setpoint n' := rfl

@[simp] theorem State.updSlots_counts (n : Conn) (f : SafetySlots → SafetySlots) (s : State) (p' : Ped) :
    (s.updSlots n f).counts p' = s.counts p' := rfl

@[simp] theorem State.updSlots_decision (n : Conn) (f : SafetySlots → SafetySlots) (s : State) (n' : Conn) :
    (s.updSlots n f).decision n' = s.decision n' := rfl

/-! ### updSeq -/

@[simp] theorem State.updSeq_line (n : Conn) (f : SeqRecord → SeqRecord) (s : State) : (s.updSeq n f).line = s.line := rfl

@[simp] theorem State.updSeq_classifier (n : Conn) (f : SeqRecord → SeqRecord) (s : State) : (s.updSeq n f).classifier = s.classifier := rfl

@[simp] theorem State.updSeq_auth (n : Conn) (f : SeqRecord → SeqRecord) (s : State) : (s.updSeq n f).auth = s.auth := rfl

@[simp] theorem State.updSeq_sessions (n : Conn) (f : SeqRecord → SeqRecord) (s : State) : (s.updSeq n f).sessions = s.sessions := rfl

@[simp] theorem State.updSeq_tariff (n : Conn) (f : SeqRecord → SeqRecord) (s : State) : (s.updSeq n f).tariff = s.tariff := rfl

@[simp] theorem State.updSeq_clock (n : Conn) (f : SeqRecord → SeqRecord) (s : State) : (s.updSeq n f).clock = s.clock := rfl

@[simp] theorem State.updSeq_metering (n : Conn) (f : SeqRecord → SeqRecord) (s : State) : (s.updSeq n f).metering = s.metering := rfl

@[simp] theorem State.updSeq_alloc (n : Conn) (f : SeqRecord → SeqRecord) (s : State) : (s.updSeq n f).alloc = s.alloc := rfl

@[simp] theorem State.updSeq_settlement (n : Conn) (f : SeqRecord → SeqRecord) (s : State) : (s.updSeq n f).settlement = s.settlement := rfl

@[simp] theorem State.updSeq_uplink (n : Conn) (f : SeqRecord → SeqRecord) (s : State) : (s.updSeq n f).uplink = s.uplink := rfl

@[simp] theorem State.updSeq_pending (n : Conn) (f : SeqRecord → SeqRecord) (s : State) : (s.updSeq n f).pending = s.pending := rfl

@[simp] theorem State.updSeq_sequencer_parkStop (n : Conn) (f : SeqRecord → SeqRecord) (s : State) :
    (s.updSeq n f).sequencer.parkStop = s.sequencer.parkStop := rfl

@[simp] theorem State.updSeq_sequencer_settleTime (n : Conn) (f : SeqRecord → SeqRecord) (s : State) :
    (s.updSeq n f).sequencer.settleTime = s.sequencer.settleTime := rfl

@[simp] theorem State.updSeq_sequencer_idleRelease (n : Conn) (f : SeqRecord → SeqRecord) (s : State) :
    (s.updSeq n f).sequencer.idleRelease = s.sequencer.idleRelease := rfl

@[simp] theorem State.updSeq_ped (n : Conn) (f : SeqRecord → SeqRecord) (s : State) (p' : Ped) :
    (s.updSeq n f).ped p' = s.ped p' := rfl

@[simp] theorem State.updSeq_slots (n : Conn) (f : SeqRecord → SeqRecord) (s : State) (n' : Conn) :
    (s.updSeq n f).slots n' = s.slots n' := rfl

@[simp] theorem State.updSeq_seq_same (n : Conn) (f : SeqRecord → SeqRecord) (s : State) :
    (s.updSeq n f).seq n = f (s.seq n) := by simp [State.updSeq, State.seq]

theorem State.updSeq_seq (n n' : Conn) (f : SeqRecord → SeqRecord) (s : State) :
    (s.updSeq n f).seq n' = if n' = n then f (s.seq n) else s.seq n' := by
  simp only [State.updSeq, State.seq, tget_tset]

theorem State.updSeq_seq_of_ne (n n' : Conn) (f : SeqRecord → SeqRecord) (s : State) (h : n' ≠ n) :
    (s.updSeq n f).seq n' = s.seq n' := by rw [State.updSeq_seq, if_neg h]

@[simp] theorem State.updSeq_sess (n : Conn) (f : SeqRecord → SeqRecord) (s : State) (n' : Conn) :
    (s.updSeq n f).sess n' = s.sess n' := rfl

@[simp] theorem State.updSeq_plan (n : Conn) (f : SeqRecord → SeqRecord) (s : State) (k' : PlanSlot) :
    (s.updSeq n f).plan k' = s.plan k' := rfl

@[simp] theorem State.updSeq_config (n : Conn) (f : SeqRecord → SeqRecord) (s : State) (p' : Ped) :
    (s.updSeq n f).config p' = s.config p' := rfl

@[simp] theorem State.updSeq_setpoint (n : Conn) (f : SeqRecord → SeqRecord) (s : State) (n' : Conn) :
    (s.updSeq n f).setpoint n' = s.setpoint n' := rfl

@[simp] theorem State.updSeq_counts (n : Conn) (f : SeqRecord → SeqRecord) (s : State) (p' : Ped) :
    (s.updSeq n f).counts p' = s.counts p' := rfl

@[simp] theorem State.updSeq_decision (n : Conn) (f : SeqRecord → SeqRecord) (s : State) (n' : Conn) :
    (s.updSeq n f).decision n' = s.decision n' := rfl

/-! ### updSess -/

@[simp] theorem State.updSess_line (n : Conn) (f : Session → Session) (s : State) : (s.updSess n f).line = s.line := rfl

@[simp] theorem State.updSess_classifier (n : Conn) (f : Session → Session) (s : State) : (s.updSess n f).classifier = s.classifier := rfl

@[simp] theorem State.updSess_sequencer (n : Conn) (f : Session → Session) (s : State) : (s.updSess n f).sequencer = s.sequencer := rfl

@[simp] theorem State.updSess_auth (n : Conn) (f : Session → Session) (s : State) : (s.updSess n f).auth = s.auth := rfl

@[simp] theorem State.updSess_tariff (n : Conn) (f : Session → Session) (s : State) : (s.updSess n f).tariff = s.tariff := rfl

@[simp] theorem State.updSess_clock (n : Conn) (f : Session → Session) (s : State) : (s.updSess n f).clock = s.clock := rfl

@[simp] theorem State.updSess_metering (n : Conn) (f : Session → Session) (s : State) : (s.updSess n f).metering = s.metering := rfl

@[simp] theorem State.updSess_alloc (n : Conn) (f : Session → Session) (s : State) : (s.updSess n f).alloc = s.alloc := rfl

@[simp] theorem State.updSess_settlement (n : Conn) (f : Session → Session) (s : State) : (s.updSess n f).settlement = s.settlement := rfl

@[simp] theorem State.updSess_uplink (n : Conn) (f : Session → Session) (s : State) : (s.updSess n f).uplink = s.uplink := rfl

@[simp] theorem State.updSess_pending (n : Conn) (f : Session → Session) (s : State) : (s.updSess n f).pending = s.pending := rfl

@[simp] theorem State.updSess_sessions_waiting (n : Conn) (f : Session → Session) (s : State) :
    (s.updSess n f).sessions.waiting = s.sessions.waiting := rfl

@[simp] theorem State.updSess_sessions_readyWait (n : Conn) (f : Session → Session) (s : State) :
    (s.updSess n f).sessions.readyWait = s.sessions.readyWait := rfl

@[simp] theorem State.updSess_sessions_stopWait (n : Conn) (f : Session → Session) (s : State) :
    (s.updSess n f).sessions.stopWait = s.sessions.stopWait := rfl

@[simp] theorem State.updSess_sessions_maxHours (n : Conn) (f : Session → Session) (s : State) :
    (s.updSess n f).sessions.maxHours = s.sessions.maxHours := rfl

@[simp] theorem State.updSess_sessions_maxFrom (n : Conn) (f : Session → Session) (s : State) :
    (s.updSess n f).sessions.maxFrom = s.sessions.maxFrom := rfl

@[simp] theorem State.updSess_ped (n : Conn) (f : Session → Session) (s : State) (p' : Ped) :
    (s.updSess n f).ped p' = s.ped p' := rfl

@[simp] theorem State.updSess_slots (n : Conn) (f : Session → Session) (s : State) (n' : Conn) :
    (s.updSess n f).slots n' = s.slots n' := rfl

@[simp] theorem State.updSess_seq (n : Conn) (f : Session → Session) (s : State) (n' : Conn) :
    (s.updSess n f).seq n' = s.seq n' := rfl

@[simp] theorem State.updSess_sess_same (n : Conn) (f : Session → Session) (s : State) :
    (s.updSess n f).sess n = f (s.sess n) := by simp [State.updSess, State.sess]

theorem State.updSess_sess (n n' : Conn) (f : Session → Session) (s : State) :
    (s.updSess n f).sess n' = if n' = n then f (s.sess n) else s.sess n' := by
  simp only [State.updSess, State.sess, tget_tset]

theorem State.updSess_sess_of_ne (n n' : Conn) (f : Session → Session) (s : State) (h : n' ≠ n) :
    (s.updSess n f).sess n' = s.sess n' := by rw [State.updSess_sess, if_neg h]

@[simp] theorem State.updSess_plan (n : Conn) (f : Session → Session) (s : State) (k' : PlanSlot) :
    (s.updSess n f).plan k' = s.plan k' := rfl

@[simp] theorem State.updSess_config (n : Conn) (f : Session → Session) (s : State) (p' : Ped) :
    (s.updSess n f).config p' = s.config p' := rfl

@[simp] theorem State.updSess_setpoint (n : Conn) (f : Session → Session) (s : State) (n' : Conn) :
    (s.updSess n f).setpoint n' = s.setpoint n' := rfl

@[simp] theorem State.updSess_counts (n : Conn) (f : Session → Session) (s : State) (p' : Ped) :
    (s.updSess n f).counts p' = s.counts p' := rfl

@[simp] theorem State.updSess_decision (n : Conn) (f : Session → Session) (s : State) (n' : Conn) :
    (s.updSess n f).decision n' = s.decision n' := rfl

/-! ### updPlan -/

@[simp] theorem State.updPlan_line (k : PlanSlot) (f : Plan → Plan) (s : State) : (s.updPlan k f).line = s.line := rfl

@[simp] theorem State.updPlan_classifier (k : PlanSlot) (f : Plan → Plan) (s : State) : (s.updPlan k f).classifier = s.classifier := rfl

@[simp] theorem State.updPlan_sequencer (k : PlanSlot) (f : Plan → Plan) (s : State) : (s.updPlan k f).sequencer = s.sequencer := rfl

@[simp] theorem State.updPlan_auth (k : PlanSlot) (f : Plan → Plan) (s : State) : (s.updPlan k f).auth = s.auth := rfl

@[simp] theorem State.updPlan_sessions (k : PlanSlot) (f : Plan → Plan) (s : State) : (s.updPlan k f).sessions = s.sessions := rfl

@[simp] theorem State.updPlan_clock (k : PlanSlot) (f : Plan → Plan) (s : State) : (s.updPlan k f).clock = s.clock := rfl

@[simp] theorem State.updPlan_metering (k : PlanSlot) (f : Plan → Plan) (s : State) : (s.updPlan k f).metering = s.metering := rfl

@[simp] theorem State.updPlan_alloc (k : PlanSlot) (f : Plan → Plan) (s : State) : (s.updPlan k f).alloc = s.alloc := rfl

@[simp] theorem State.updPlan_settlement (k : PlanSlot) (f : Plan → Plan) (s : State) : (s.updPlan k f).settlement = s.settlement := rfl

@[simp] theorem State.updPlan_uplink (k : PlanSlot) (f : Plan → Plan) (s : State) : (s.updPlan k f).uplink = s.uplink := rfl

@[simp] theorem State.updPlan_pending (k : PlanSlot) (f : Plan → Plan) (s : State) : (s.updPlan k f).pending = s.pending := rfl

@[simp] theorem State.updPlan_ped (k : PlanSlot) (f : Plan → Plan) (s : State) (p' : Ped) :
    (s.updPlan k f).ped p' = s.ped p' := rfl

@[simp] theorem State.updPlan_slots (k : PlanSlot) (f : Plan → Plan) (s : State) (n' : Conn) :
    (s.updPlan k f).slots n' = s.slots n' := rfl

@[simp] theorem State.updPlan_seq (k : PlanSlot) (f : Plan → Plan) (s : State) (n' : Conn) :
    (s.updPlan k f).seq n' = s.seq n' := rfl

@[simp] theorem State.updPlan_sess (k : PlanSlot) (f : Plan → Plan) (s : State) (n' : Conn) :
    (s.updPlan k f).sess n' = s.sess n' := rfl

@[simp] theorem State.updPlan_plan_same (k : PlanSlot) (f : Plan → Plan) (s : State) :
    (s.updPlan k f).plan k = f (s.plan k) := by simp [State.updPlan, State.plan]

theorem State.updPlan_plan (k k' : PlanSlot) (f : Plan → Plan) (s : State) :
    (s.updPlan k f).plan k' = if k' = k then f (s.plan k) else s.plan k' := by
  simp only [State.updPlan, State.plan, tget_tset]

theorem State.updPlan_plan_of_ne (k k' : PlanSlot) (f : Plan → Plan) (s : State) (h : k' ≠ k) :
    (s.updPlan k f).plan k' = s.plan k' := by rw [State.updPlan_plan, if_neg h]

@[simp] theorem State.updPlan_config (k : PlanSlot) (f : Plan → Plan) (s : State) (p' : Ped) :
    (s.updPlan k f).config p' = s.config p' := rfl

@[simp] theorem State.updPlan_setpoint (k : PlanSlot) (f : Plan → Plan) (s : State) (n' : Conn) :
    (s.updPlan k f).setpoint n' = s.setpoint n' := rfl

@[simp] theorem State.updPlan_counts (k : PlanSlot) (f : Plan → Plan) (s : State) (p' : Ped) :
    (s.updPlan k f).counts p' = s.counts p' := rfl

@[simp] theorem State.updPlan_decision (k : PlanSlot) (f : Plan → Plan) (s : State) (n' : Conn) :
    (s.updPlan k f).decision n' = s.decision n' := rfl

/-! ### updConfig -/

@[simp] theorem State.updConfig_line (p : Ped) (f : PedConfig → PedConfig) (s : State) : (s.updConfig p f).line = s.line := rfl

@[simp] theorem State.updConfig_classifier (p : Ped) (f : PedConfig → PedConfig) (s : State) : (s.updConfig p f).classifier = s.classifier := rfl

@[simp] theorem State.updConfig_sequencer (p : Ped) (f : PedConfig → PedConfig) (s : State) : (s.updConfig p f).sequencer = s.sequencer := rfl

@[simp] theorem State.updConfig_auth (p : Ped) (f : PedConfig → PedConfig) (s : State) : (s.updConfig p f).auth = s.auth := rfl

@[simp] theorem State.updConfig_sessions (p : Ped) (f : PedConfig → PedConfig) (s : State) : (s.updConfig p f).sessions = s.sessions := rfl

@[simp] theorem State.updConfig_tariff (p : Ped) (f : PedConfig → PedConfig) (s : State) : (s.updConfig p f).tariff = s.tariff := rfl

@[simp] theorem State.updConfig_clock (p : Ped) (f : PedConfig → PedConfig) (s : State) : (s.updConfig p f).clock = s.clock := rfl

@[simp] theorem State.updConfig_metering (p : Ped) (f : PedConfig → PedConfig) (s : State) : (s.updConfig p f).metering = s.metering := rfl

@[simp] theorem State.updConfig_settlement (p : Ped) (f : PedConfig → PedConfig) (s : State) : (s.updConfig p f).settlement = s.settlement := rfl

@[simp] theorem State.updConfig_uplink (p : Ped) (f : PedConfig → PedConfig) (s : State) : (s.updConfig p f).uplink = s.uplink := rfl

@[simp] theorem State.updConfig_pending (p : Ped) (f : PedConfig → PedConfig) (s : State) : (s.updConfig p f).pending = s.pending := rfl

@[simp] theorem State.updConfig_alloc_baseLimit (p : Ped) (f : PedConfig → PedConfig) (s : State) :
    (s.updConfig p f).alloc.baseLimit = s.alloc.baseLimit := rfl

@[simp] theorem State.updConfig_alloc_curtailment (p : Ped) (f : PedConfig → PedConfig) (s : State) :
    (s.updConfig p f).alloc.curtailment = s.alloc.curtailment := rfl

@[simp] theorem State.updConfig_alloc_hysteresis (p : Ped) (f : PedConfig → PedConfig) (s : State) :
    (s.updConfig p f).alloc.hysteresis = s.alloc.hysteresis := rfl

@[simp] theorem State.updConfig_alloc_hold (p : Ped) (f : PedConfig → PedConfig) (s : State) :
    (s.updConfig p f).alloc.hold = s.alloc.hold := rfl

@[simp] theorem State.updConfig_alloc_renew (p : Ped) (f : PedConfig → PedConfig) (s : State) :
    (s.updConfig p f).alloc.renew = s.alloc.renew := rfl

@[simp] theorem State.updConfig_alloc_available (p : Ped) (f : PedConfig → PedConfig) (s : State) :
    (s.updConfig p f).alloc.available = s.alloc.available := rfl

@[simp] theorem State.updConfig_alloc_setpoints (p : Ped) (f : PedConfig → PedConfig) (s : State) :
    (s.updConfig p f).alloc.setpoints = s.alloc.setpoints := rfl

@[simp] theorem State.updConfig_ped (p : Ped) (f : PedConfig → PedConfig) (s : State) (p' : Ped) :
    (s.updConfig p f).ped p' = s.ped p' := rfl

@[simp] theorem State.updConfig_slots (p : Ped) (f : PedConfig → PedConfig) (s : State) (n' : Conn) :
    (s.updConfig p f).slots n' = s.slots n' := rfl

@[simp] theorem State.updConfig_seq (p : Ped) (f : PedConfig → PedConfig) (s : State) (n' : Conn) :
    (s.updConfig p f).seq n' = s.seq n' := rfl

@[simp] theorem State.updConfig_sess (p : Ped) (f : PedConfig → PedConfig) (s : State) (n' : Conn) :
    (s.updConfig p f).sess n' = s.sess n' := rfl

@[simp] theorem State.updConfig_plan (p : Ped) (f : PedConfig → PedConfig) (s : State) (k' : PlanSlot) :
    (s.updConfig p f).plan k' = s.plan k' := rfl

@[simp] theorem State.updConfig_config_same (p : Ped) (f : PedConfig → PedConfig) (s : State) :
    (s.updConfig p f).config p = f (s.config p) := by simp [State.updConfig, State.config]

theorem State.updConfig_config (p p' : Ped) (f : PedConfig → PedConfig) (s : State) :
    (s.updConfig p f).config p' = if p' = p then f (s.config p) else s.config p' := by
  simp only [State.updConfig, State.config, tget_tset]

theorem State.updConfig_config_of_ne (p p' : Ped) (f : PedConfig → PedConfig) (s : State) (h : p' ≠ p) :
    (s.updConfig p f).config p' = s.config p' := by rw [State.updConfig_config, if_neg h]

@[simp] theorem State.updConfig_setpoint (p : Ped) (f : PedConfig → PedConfig) (s : State) (n' : Conn) :
    (s.updConfig p f).setpoint n' = s.setpoint n' := rfl

@[simp] theorem State.updConfig_counts (p : Ped) (f : PedConfig → PedConfig) (s : State) (p' : Ped) :
    (s.updConfig p f).counts p' = s.counts p' := rfl

@[simp] theorem State.updConfig_decision (p : Ped) (f : PedConfig → PedConfig) (s : State) (n' : Conn) :
    (s.updConfig p f).decision n' = s.decision n' := rfl

/-! ### updSetpoint -/

@[simp] theorem State.updSetpoint_line (n : Conn) (f : Setpoint → Setpoint) (s : State) : (s.updSetpoint n f).line = s.line := rfl

@[simp] theorem State.updSetpoint_classifier (n : Conn) (f : Setpoint → Setpoint) (s : State) : (s.updSetpoint n f).classifier = s.classifier := rfl

@[simp] theorem State.updSetpoint_sequencer (n : Conn) (f : Setpoint → Setpoint) (s : State) : (s.updSetpoint n f).sequencer = s.sequencer := rfl

@[simp] theorem State.updSetpoint_auth (n : Conn) (f : Setpoint → Setpoint) (s : State) : (s.updSetpoint n f).auth = s.auth := rfl

@[simp] theorem State.updSetpoint_sessions (n : Conn) (f : Setpoint → Setpoint) (s : State) : (s.updSetpoint n f).sessions = s.sessions := rfl

@[simp] theorem State.updSetpoint_tariff (n : Conn) (f : Setpoint → Setpoint) (s : State) : (s.updSetpoint n f).tariff = s.tariff := rfl

@[simp] theorem State.updSetpoint_clock (n : Conn) (f : Setpoint → Setpoint) (s : State) : (s.updSetpoint n f).clock = s.clock := rfl

@[simp] theorem State.updSetpoint_metering (n : Conn) (f : Setpoint → Setpoint) (s : State) : (s.updSetpoint n f).metering = s.metering := rfl

@[simp] theorem State.updSetpoint_settlement (n : Conn) (f : Setpoint → Setpoint) (s : State) : (s.updSetpoint n f).settlement = s.settlement := rfl

@[simp] theorem State.updSetpoint_uplink (n : Conn) (f : Setpoint → Setpoint) (s : State) : (s.updSetpoint n f).uplink = s.uplink := rfl

@[simp] theorem State.updSetpoint_pending (n : Conn) (f : Setpoint → Setpoint) (s : State) : (s.updSetpoint n f).pending = s.pending := rfl

@[simp] theorem State.updSetpoint_alloc_baseLimit (n : Conn) (f : Setpoint → Setpoint) (s : State) :
    (s.updSetpoint n f).alloc.baseLimit = s.alloc.baseLimit := rfl

@[simp] theorem State.updSetpoint_alloc_curtailment (n : Conn) (f : Setpoint → Setpoint) (s : State) :
    (s.updSetpoint n f).alloc.curtailment = s.alloc.curtailment := rfl

@[simp] theorem State.updSetpoint_alloc_hysteresis (n : Conn) (f : Setpoint → Setpoint) (s : State) :
    (s.updSetpoint n f).alloc.hysteresis = s.alloc.hysteresis := rfl

@[simp] theorem State.updSetpoint_alloc_hold (n : Conn) (f : Setpoint → Setpoint) (s : State) :
    (s.updSetpoint n f).alloc.hold = s.alloc.hold := rfl

@[simp] theorem State.updSetpoint_alloc_renew (n : Conn) (f : Setpoint → Setpoint) (s : State) :
    (s.updSetpoint n f).alloc.renew = s.alloc.renew := rfl

@[simp] theorem State.updSetpoint_alloc_available (n : Conn) (f : Setpoint → Setpoint) (s : State) :
    (s.updSetpoint n f).alloc.available = s.alloc.available := rfl

@[simp] theorem State.updSetpoint_alloc_configs (n : Conn) (f : Setpoint → Setpoint) (s : State) :
    (s.updSetpoint n f).alloc.configs = s.alloc.configs := rfl

@[simp] theorem State.updSetpoint_ped (n : Conn) (f : Setpoint → Setpoint) (s : State) (p' : Ped) :
    (s.updSetpoint n f).ped p' = s.ped p' := rfl

@[simp] theorem State.updSetpoint_slots (n : Conn) (f : Setpoint → Setpoint) (s : State) (n' : Conn) :
    (s.updSetpoint n f).slots n' = s.slots n' := rfl

@[simp] theorem State.updSetpoint_seq (n : Conn) (f : Setpoint → Setpoint) (s : State) (n' : Conn) :
    (s.updSetpoint n f).seq n' = s.seq n' := rfl

@[simp] theorem State.updSetpoint_sess (n : Conn) (f : Setpoint → Setpoint) (s : State) (n' : Conn) :
    (s.updSetpoint n f).sess n' = s.sess n' := rfl

@[simp] theorem State.updSetpoint_plan (n : Conn) (f : Setpoint → Setpoint) (s : State) (k' : PlanSlot) :
    (s.updSetpoint n f).plan k' = s.plan k' := rfl

@[simp] theorem State.updSetpoint_config (n : Conn) (f : Setpoint → Setpoint) (s : State) (p' : Ped) :
    (s.updSetpoint n f).config p' = s.config p' := rfl

@[simp] theorem State.updSetpoint_setpoint_same (n : Conn) (f : Setpoint → Setpoint) (s : State) :
    (s.updSetpoint n f).setpoint n = f (s.setpoint n) := by simp [State.updSetpoint, State.setpoint]

theorem State.updSetpoint_setpoint (n n' : Conn) (f : Setpoint → Setpoint) (s : State) :
    (s.updSetpoint n f).setpoint n' = if n' = n then f (s.setpoint n) else s.setpoint n' := by
  simp only [State.updSetpoint, State.setpoint, tget_tset]

theorem State.updSetpoint_setpoint_of_ne (n n' : Conn) (f : Setpoint → Setpoint) (s : State) (h : n' ≠ n) :
    (s.updSetpoint n f).setpoint n' = s.setpoint n' := by rw [State.updSetpoint_setpoint, if_neg h]

@[simp] theorem State.updSetpoint_counts (n : Conn) (f : Setpoint → Setpoint) (s : State) (p' : Ped) :
    (s.updSetpoint n f).counts p' = s.counts p' := rfl

@[simp] theorem State.updSetpoint_decision (n : Conn) (f : Setpoint → Setpoint) (s : State) (n' : Conn) :
    (s.updSetpoint n f).decision n' = s.decision n' := rfl

/-! ### updCounts -/

@[simp] theorem State.updCounts_line (p : Ped) (f : PassCounts → PassCounts) (s : State) : (s.updCounts p f).line = s.line := rfl

@[simp] theorem State.updCounts_sequencer (p : Ped) (f : PassCounts → PassCounts) (s : State) : (s.updCounts p f).sequencer = s.sequencer := rfl

@[simp] theorem State.updCounts_auth (p : Ped) (f : PassCounts → PassCounts) (s : State) : (s.updCounts p f).auth = s.auth := rfl

@[simp] theorem State.updCounts_sessions (p : Ped) (f : PassCounts → PassCounts) (s : State) : (s.updCounts p f).sessions = s.sessions := rfl

@[simp] theorem State.updCounts_tariff (p : Ped) (f : PassCounts → PassCounts) (s : State) : (s.updCounts p f).tariff = s.tariff := rfl

@[simp] theorem State.updCounts_clock (p : Ped) (f : PassCounts → PassCounts) (s : State) : (s.updCounts p f).clock = s.clock := rfl

@[simp] theorem State.updCounts_metering (p : Ped) (f : PassCounts → PassCounts) (s : State) : (s.updCounts p f).metering = s.metering := rfl

@[simp] theorem State.updCounts_alloc (p : Ped) (f : PassCounts → PassCounts) (s : State) : (s.updCounts p f).alloc = s.alloc := rfl

@[simp] theorem State.updCounts_settlement (p : Ped) (f : PassCounts → PassCounts) (s : State) : (s.updCounts p f).settlement = s.settlement := rfl

@[simp] theorem State.updCounts_uplink (p : Ped) (f : PassCounts → PassCounts) (s : State) : (s.updCounts p f).uplink = s.uplink := rfl

@[simp] theorem State.updCounts_pending (p : Ped) (f : PassCounts → PassCounts) (s : State) : (s.updCounts p f).pending = s.pending := rfl

@[simp] theorem State.updCounts_classifier_actions (p : Ped) (f : PassCounts → PassCounts) (s : State) :
    (s.updCounts p f).classifier.actions = s.classifier.actions := rfl

@[simp] theorem State.updCounts_classifier_passUp (p : Ped) (f : PassCounts → PassCounts) (s : State) :
    (s.updCounts p f).classifier.passUp = s.classifier.passUp := rfl

@[simp] theorem State.updCounts_ped (p : Ped) (f : PassCounts → PassCounts) (s : State) (p' : Ped) :
    (s.updCounts p f).ped p' = s.ped p' := rfl

@[simp] theorem State.updCounts_slots (p : Ped) (f : PassCounts → PassCounts) (s : State) (n' : Conn) :
    (s.updCounts p f).slots n' = s.slots n' := rfl

@[simp] theorem State.updCounts_seq (p : Ped) (f : PassCounts → PassCounts) (s : State) (n' : Conn) :
    (s.updCounts p f).seq n' = s.seq n' := rfl

@[simp] theorem State.updCounts_sess (p : Ped) (f : PassCounts → PassCounts) (s : State) (n' : Conn) :
    (s.updCounts p f).sess n' = s.sess n' := rfl

@[simp] theorem State.updCounts_plan (p : Ped) (f : PassCounts → PassCounts) (s : State) (k' : PlanSlot) :
    (s.updCounts p f).plan k' = s.plan k' := rfl

@[simp] theorem State.updCounts_config (p : Ped) (f : PassCounts → PassCounts) (s : State) (p' : Ped) :
    (s.updCounts p f).config p' = s.config p' := rfl

@[simp] theorem State.updCounts_setpoint (p : Ped) (f : PassCounts → PassCounts) (s : State) (n' : Conn) :
    (s.updCounts p f).setpoint n' = s.setpoint n' := rfl

@[simp] theorem State.updCounts_counts_same (p : Ped) (f : PassCounts → PassCounts) (s : State) :
    (s.updCounts p f).counts p = f (s.counts p) := by simp [State.updCounts, State.counts]

theorem State.updCounts_counts (p p' : Ped) (f : PassCounts → PassCounts) (s : State) :
    (s.updCounts p f).counts p' = if p' = p then f (s.counts p) else s.counts p' := by
  simp only [State.updCounts, State.counts, tget_tset]

theorem State.updCounts_counts_of_ne (p p' : Ped) (f : PassCounts → PassCounts) (s : State) (h : p' ≠ p) :
    (s.updCounts p f).counts p' = s.counts p' := by rw [State.updCounts_counts, if_neg h]

@[simp] theorem State.updCounts_decision (p : Ped) (f : PassCounts → PassCounts) (s : State) (n' : Conn) :
    (s.updCounts p f).decision n' = s.decision n' := rfl

/-! ### setInflight -/

@[simp] theorem State.setInflight_classifier (t : Option Txn) (s : State) : (s.setInflight t).classifier = s.classifier := rfl

@[simp] theorem State.setInflight_sequencer (t : Option Txn) (s : State) : (s.setInflight t).sequencer = s.sequencer := rfl

@[simp] theorem State.setInflight_auth (t : Option Txn) (s : State) : (s.setInflight t).auth = s.auth := rfl

@[simp] theorem State.setInflight_sessions (t : Option Txn) (s : State) : (s.setInflight t).sessions = s.sessions := rfl

@[simp] theorem State.setInflight_tariff (t : Option Txn) (s : State) : (s.setInflight t).tariff = s.tariff := rfl

@[simp] theorem State.setInflight_clock (t : Option Txn) (s : State) : (s.setInflight t).clock = s.clock := rfl

@[simp] theorem State.setInflight_metering (t : Option Txn) (s : State) : (s.setInflight t).metering = s.metering := rfl

@[simp] theorem State.setInflight_alloc (t : Option Txn) (s : State) : (s.setInflight t).alloc = s.alloc := rfl

@[simp] theorem State.setInflight_settlement (t : Option Txn) (s : State) : (s.setInflight t).settlement = s.settlement := rfl

@[simp] theorem State.setInflight_uplink (t : Option Txn) (s : State) : (s.setInflight t).uplink = s.uplink := rfl

@[simp] theorem State.setInflight_pending (t : Option Txn) (s : State) : (s.setInflight t).pending = s.pending := rfl

@[simp] theorem State.setInflight_ped (t : Option Txn) (s : State) (p : Ped) : (s.setInflight t).ped p = s.ped p := rfl

@[simp] theorem State.setInflight_slots (t : Option Txn) (s : State) (n : Conn) : (s.setInflight t).slots n = s.slots n := rfl

@[simp] theorem State.setInflight_seq (t : Option Txn) (s : State) (n : Conn) : (s.setInflight t).seq n = s.seq n := rfl

@[simp] theorem State.setInflight_sess (t : Option Txn) (s : State) (n : Conn) : (s.setInflight t).sess n = s.sess n := rfl

@[simp] theorem State.setInflight_plan (t : Option Txn) (s : State) (k : PlanSlot) : (s.setInflight t).plan k = s.plan k := rfl

@[simp] theorem State.setInflight_config (t : Option Txn) (s : State) (p : Ped) : (s.setInflight t).config p = s.config p := rfl

@[simp] theorem State.setInflight_setpoint (t : Option Txn) (s : State) (n : Conn) : (s.setInflight t).setpoint n = s.setpoint n := rfl

@[simp] theorem State.setInflight_counts (t : Option Txn) (s : State) (p : Ped) : (s.setInflight t).counts p = s.counts p := rfl

@[simp] theorem State.setInflight_decision (t : Option Txn) (s : State) (n : Conn) : (s.setInflight t).decision n = s.decision n := rfl

/-! ### updUplink -/

@[simp] theorem State.updUplink_line (f : UplinkState → UplinkState) (s : State) : (s.updUplink f).line = s.line := rfl

@[simp] theorem State.updUplink_classifier (f : UplinkState → UplinkState) (s : State) : (s.updUplink f).classifier = s.classifier := rfl

@[simp] theorem State.updUplink_sequencer (f : UplinkState → UplinkState) (s : State) : (s.updUplink f).sequencer = s.sequencer := rfl

@[simp] theorem State.updUplink_auth (f : UplinkState → UplinkState) (s : State) : (s.updUplink f).auth = s.auth := rfl

@[simp] theorem State.updUplink_sessions (f : UplinkState → UplinkState) (s : State) : (s.updUplink f).sessions = s.sessions := rfl

@[simp] theorem State.updUplink_tariff (f : UplinkState → UplinkState) (s : State) : (s.updUplink f).tariff = s.tariff := rfl

@[simp] theorem State.updUplink_clock (f : UplinkState → UplinkState) (s : State) : (s.updUplink f).clock = s.clock := rfl

@[simp] theorem State.updUplink_metering (f : UplinkState → UplinkState) (s : State) : (s.updUplink f).metering = s.metering := rfl

@[simp] theorem State.updUplink_alloc (f : UplinkState → UplinkState) (s : State) : (s.updUplink f).alloc = s.alloc := rfl

@[simp] theorem State.updUplink_settlement (f : UplinkState → UplinkState) (s : State) : (s.updUplink f).settlement = s.settlement := rfl

@[simp] theorem State.updUplink_pending (f : UplinkState → UplinkState) (s : State) : (s.updUplink f).pending = s.pending := rfl

@[simp] theorem State.updUplink_ped (f : UplinkState → UplinkState) (s : State) (p : Ped) : (s.updUplink f).ped p = s.ped p := rfl

@[simp] theorem State.updUplink_slots (f : UplinkState → UplinkState) (s : State) (n : Conn) : (s.updUplink f).slots n = s.slots n := rfl

@[simp] theorem State.updUplink_seq (f : UplinkState → UplinkState) (s : State) (n : Conn) : (s.updUplink f).seq n = s.seq n := rfl

@[simp] theorem State.updUplink_sess (f : UplinkState → UplinkState) (s : State) (n : Conn) : (s.updUplink f).sess n = s.sess n := rfl

@[simp] theorem State.updUplink_plan (f : UplinkState → UplinkState) (s : State) (k : PlanSlot) : (s.updUplink f).plan k = s.plan k := rfl

@[simp] theorem State.updUplink_config (f : UplinkState → UplinkState) (s : State) (p : Ped) : (s.updUplink f).config p = s.config p := rfl

@[simp] theorem State.updUplink_setpoint (f : UplinkState → UplinkState) (s : State) (n : Conn) : (s.updUplink f).setpoint n = s.setpoint n := rfl

@[simp] theorem State.updUplink_counts (f : UplinkState → UplinkState) (s : State) (p : Ped) : (s.updUplink f).counts p = s.counts p := rfl

@[simp] theorem State.updUplink_decision (f : UplinkState → UplinkState) (s : State) (n : Conn) : (s.updUplink f).decision n = s.decision n := rfl

@[simp] theorem State.setInflight_line_peds (t : Option Txn) (s : State) :
    (s.setInflight t).line.peds = s.line.peds := rfl

@[simp] theorem State.setInflight_line_slots (t : Option Txn) (s : State) :
    (s.setInflight t).line.slots = s.line.slots := rfl

@[simp] theorem State.setInflight_line_window (t : Option Txn) (s : State) :
    (s.setInflight t).line.window = s.line.window := rfl

@[simp] theorem State.setInflight_line_pendingLatch (t : Option Txn) (s : State) :
    (s.setInflight t).line.pendingLatch = s.line.pendingLatch := rfl

@[simp] theorem State.setInflight_line_rollTimer (t : Option Txn) (s : State) :
    (s.setInflight t).line.rollTimer = s.line.rollTimer := rfl

@[simp] theorem State.setInflight_line_replyTimeout (t : Option Txn) (s : State) :
    (s.setInflight t).line.replyTimeout = s.line.replyTimeout := rfl

@[simp] theorem State.setInflight_line_pollPeriod (t : Option Txn) (s : State) :
    (s.setInflight t).line.pollPeriod = s.line.pollPeriod := rfl

@[simp] theorem State.setInflight_line_rollPeriod (t : Option Txn) (s : State) :
    (s.setInflight t).line.rollPeriod = s.line.rollPeriod := rfl

@[simp] theorem State.setInflight_line_pointer3 (t : Option Txn) (s : State) :
    (s.setInflight t).line.pointer3 = s.line.pointer3 := rfl

@[simp] theorem State.setInflight_line_pointer5 (t : Option Txn) (s : State) :
    (s.setInflight t).line.pointer5 = s.line.pointer5 := rfl

@[simp] theorem State.setInflight_line_inflight (t : Option Txn) (s : State) :
    (s.setInflight t).line.inflight = t := rfl

@[simp] theorem State.updUplink_uplink (f : UplinkState → UplinkState) (s : State) :
    (s.updUplink f).uplink = f s.uplink := rfl

end Sys2Proof.Machine
end

