-- ==== Sys2Proof/Laws/Frames.lean ====
section
/-! SUPPORT. Which blocks each shared operation leaves untouched, operation by operation in the order of their
definitions. Tagged simp, so that a proof about one block passes over the operations of the others. -/

namespace Sys2Proof.Machine

/-- A fold of steps that each keep a view of the state keeps it. -/
theorem foldl_frame {α β σ : Type} (g : σ → β) (f : σ → α → σ) (h : ∀ s x, g (f s x) = g s) (l : List α) (s : σ) :
    g (l.foldl f s) = g s := by
  induction l generalizing s with
  | nil => rfl
  | cons x l ih => rw [List.foldl_cons, ih, h]

/-! ### testAttention -/

@[simp] theorem State.testAttention_line (b : Bool) (s : State) :
    (s.testAttention b).line = s.line := by
  unfold State.testAttention
  (repeat' split) <;> simp

@[simp] theorem State.testAttention_classifier (b : Bool) (s : State) :
    (s.testAttention b).classifier = s.classifier := by
  unfold State.testAttention
  (repeat' split) <;> simp

@[simp] theorem State.testAttention_sequencer (b : Bool) (s : State) :
    (s.testAttention b).sequencer = s.sequencer := by
  unfold State.testAttention
  (repeat' split) <;> simp

@[simp] theorem State.testAttention_auth (b : Bool) (s : State) :
    (s.testAttention b).auth = s.auth := by
  unfold State.testAttention
  (repeat' split) <;> simp

@[simp] theorem State.testAttention_sessions (b : Bool) (s : State) :
    (s.testAttention b).sessions = s.sessions := by
  unfold State.testAttention
  (repeat' split) <;> simp

@[simp] theorem State.testAttention_tariff (b : Bool) (s : State) :
    (s.testAttention b).tariff = s.tariff := by
  unfold State.testAttention
  (repeat' split) <;> simp

@[simp] theorem State.testAttention_clock (b : Bool) (s : State) :
    (s.testAttention b).clock = s.clock := by
  unfold State.testAttention
  (repeat' split) <;> simp

@[simp] theorem State.testAttention_metering (b : Bool) (s : State) :
    (s.testAttention b).metering = s.metering := by
  unfold State.testAttention
  (repeat' split) <;> simp

@[simp] theorem State.testAttention_alloc (b : Bool) (s : State) :
    (s.testAttention b).alloc = s.alloc := by
  unfold State.testAttention
  (repeat' split) <;> simp

@[simp] theorem State.testAttention_settlement (b : Bool) (s : State) :
    (s.testAttention b).settlement = s.settlement := by
  unfold State.testAttention
  (repeat' split) <;> simp

@[simp] theorem State.testAttention_pending (b : Bool) (s : State) :
    (s.testAttention b).pending = s.pending := by
  unfold State.testAttention
  (repeat' split) <;> simp

/-! ### raise -/

@[simp] theorem State.raise_line (k : EventKind) (s : State) :
    (s.raise k).line = s.line := by simp [State.raise]

@[simp] theorem State.raise_classifier (k : EventKind) (s : State) :
    (s.raise k).classifier = s.classifier := by simp [State.raise]

@[simp] theorem State.raise_sequencer (k : EventKind) (s : State) :
    (s.raise k).sequencer = s.sequencer := by simp [State.raise]

@[simp] theorem State.raise_auth (k : EventKind) (s : State) :
    (s.raise k).auth = s.auth := by simp [State.raise]

@[simp] theorem State.raise_sessions (k : EventKind) (s : State) :
    (s.raise k).sessions = s.sessions := by simp [State.raise]

@[simp] theorem State.raise_tariff (k : EventKind) (s : State) :
    (s.raise k).tariff = s.tariff := by simp [State.raise]

@[simp] theorem State.raise_clock (k : EventKind) (s : State) :
    (s.raise k).clock = s.clock := by simp [State.raise]

@[simp] theorem State.raise_metering (k : EventKind) (s : State) :
    (s.raise k).metering = s.metering := by simp [State.raise]

@[simp] theorem State.raise_alloc (k : EventKind) (s : State) :
    (s.raise k).alloc = s.alloc := by simp [State.raise]

@[simp] theorem State.raise_settlement (k : EventKind) (s : State) :
    (s.raise k).settlement = s.settlement := by simp [State.raise]

@[simp] theorem State.raise_pending (k : EventKind) (s : State) :
    (s.raise k).pending = s.pending := by simp [State.raise]

/-! ### localActivity -/

@[simp] theorem State.localActivity_classifier (p : Ped) (s : State) :
    (s.localActivity p).classifier = s.classifier := by
  unfold State.localActivity
  (repeat' split) <;> simp

@[simp] theorem State.localActivity_sequencer (p : Ped) (s : State) :
    (s.localActivity p).sequencer = s.sequencer := by
  unfold State.localActivity
  (repeat' split) <;> simp

@[simp] theorem State.localActivity_auth (p : Ped) (s : State) :
    (s.localActivity p).auth = s.auth := by
  unfold State.localActivity
  (repeat' split) <;> simp

@[simp] theorem State.localActivity_sessions (p : Ped) (s : State) :
    (s.localActivity p).sessions = s.sessions := by
  unfold State.localActivity
  (repeat' split) <;> simp

@[simp] theorem State.localActivity_tariff (p : Ped) (s : State) :
    (s.localActivity p).tariff = s.tariff := by
  unfold State.localActivity
  (repeat' split) <;> simp

@[simp] theorem State.localActivity_clock (p : Ped) (s : State) :
    (s.localActivity p).clock = s.clock := by
  unfold State.localActivity
  (repeat' split) <;> simp

@[simp] theorem State.localActivity_metering (p : Ped) (s : State) :
    (s.localActivity p).metering = s.metering := by
  unfold State.localActivity
  (repeat' split) <;> simp

@[simp] theorem State.localActivity_alloc (p : Ped) (s : State) :
    (s.localActivity p).alloc = s.alloc := by
  unfold State.localActivity
  (repeat' split) <;> simp

@[simp] theorem State.localActivity_settlement (p : Ped) (s : State) :
    (s.localActivity p).settlement = s.settlement := by
  unfold State.localActivity
  (repeat' split) <;> simp

@[simp] theorem State.localActivity_uplink (p : Ped) (s : State) :
    (s.localActivity p).uplink = s.uplink := by
  unfold State.localActivity
  (repeat' split) <;> simp

@[simp] theorem State.localActivity_pending (p : Ped) (s : State) :
    (s.localActivity p).pending = s.pending := by
  unfold State.localActivity
  (repeat' split) <;> simp

/-! ### setContactor -/

@[simp] theorem State.setContactor_classifier (n : Conn) (c : ContactorState) (s : State) :
    (s.setContactor n c).classifier = s.classifier := by
  simp only [State.setContactor]
  split <;> simp

@[simp] theorem State.setContactor_auth (n : Conn) (c : ContactorState) (s : State) :
    (s.setContactor n c).auth = s.auth := by
  simp only [State.setContactor]
  split <;> simp

@[simp] theorem State.setContactor_sessions (n : Conn) (c : ContactorState) (s : State) :
    (s.setContactor n c).sessions = s.sessions := by
  simp only [State.setContactor]
  split <;> simp

@[simp] theorem State.setContactor_tariff (n : Conn) (c : ContactorState) (s : State) :
    (s.setContactor n c).tariff = s.tariff := by
  simp only [State.setContactor]
  split <;> simp

@[simp] theorem State.setContactor_clock (n : Conn) (c : ContactorState) (s : State) :
    (s.setContactor n c).clock = s.clock := by
  simp only [State.setContactor]
  split <;> simp

@[simp] theorem State.setContactor_metering (n : Conn) (c : ContactorState) (s : State) :
    (s.setContactor n c).metering = s.metering := by
  simp only [State.setContactor]
  split <;> simp

@[simp] theorem State.setContactor_alloc (n : Conn) (c : ContactorState) (s : State) :
    (s.setContactor n c).alloc = s.alloc := by
  simp only [State.setContactor]
  split <;> simp

@[simp] theorem State.setContactor_settlement (n : Conn) (c : ContactorState) (s : State) :
    (s.setContactor n c).settlement = s.settlement := by
  simp only [State.setContactor]
  split <;> simp

@[simp] theorem State.setContactor_uplink (n : Conn) (c : ContactorState) (s : State) :
    (s.setContactor n c).uplink = s.uplink := by
  simp only [State.setContactor]
  split <;> simp

@[simp] theorem State.setContactor_pending (n : Conn) (c : ContactorState) (s : State) :
    (s.setContactor n c).pending = s.pending := by
  simp only [State.setContactor]
  split <;> simp

/-! ### setSess -/

@[simp] theorem State.setSess_classifier (n : Conn) (e : Session) (s : State) :
    (s.setSess n e).classifier = s.classifier := by
  simp only [State.setSess]
  split <;> simp

@[simp] theorem State.setSess_sequencer (n : Conn) (e : Session) (s : State) :
    (s.setSess n e).sequencer = s.sequencer := by
  simp only [State.setSess]
  split <;> simp

@[simp] theorem State.setSess_auth (n : Conn) (e : Session) (s : State) :
    (s.setSess n e).auth = s.auth := by
  simp only [State.setSess]
  split <;> simp

@[simp] theorem State.setSess_tariff (n : Conn) (e : Session) (s : State) :
    (s.setSess n e).tariff = s.tariff := by
  simp only [State.setSess]
  split <;> simp

@[simp] theorem State.setSess_clock (n : Conn) (e : Session) (s : State) :
    (s.setSess n e).clock = s.clock := by
  simp only [State.setSess]
  split <;> simp

@[simp] theorem State.setSess_metering (n : Conn) (e : Session) (s : State) :
    (s.setSess n e).metering = s.metering := by
  simp only [State.setSess]
  split <;> simp

@[simp] theorem State.setSess_alloc (n : Conn) (e : Session) (s : State) :
    (s.setSess n e).alloc = s.alloc := by
  simp only [State.setSess]
  split <;> simp

@[simp] theorem State.setSess_settlement (n : Conn) (e : Session) (s : State) :
    (s.setSess n e).settlement = s.settlement := by
  simp only [State.setSess]
  split <;> simp

@[simp] theorem State.setSess_uplink (n : Conn) (e : Session) (s : State) :
    (s.setSess n e).uplink = s.uplink := by
  simp only [State.setSess]
  split <;> simp

@[simp] theorem State.setSess_pending (n : Conn) (e : Session) (s : State) :
    (s.setSess n e).pending = s.pending := by
  simp only [State.setSess]
  split <;> simp

/-! ### enqueue -/

@[simp] theorem State.enqueue_classifier (p : Ped) (e : QueueEntry) (s : State) :
    (s.enqueue p e).classifier = s.classifier := by simp [State.enqueue]

@[simp] theorem State.enqueue_sequencer (p : Ped) (e : QueueEntry) (s : State) :
    (s.enqueue p e).sequencer = s.sequencer := by simp [State.enqueue]

@[simp] theorem State.enqueue_auth (p : Ped) (e : QueueEntry) (s : State) :
    (s.enqueue p e).auth = s.auth := by simp [State.enqueue]

@[simp] theorem State.enqueue_sessions (p : Ped) (e : QueueEntry) (s : State) :
    (s.enqueue p e).sessions = s.sessions := by simp [State.enqueue]

@[simp] theorem State.enqueue_tariff (p : Ped) (e : QueueEntry) (s : State) :
    (s.enqueue p e).tariff = s.tariff := by simp [State.enqueue]

@[simp] theorem State.enqueue_clock (p : Ped) (e : QueueEntry) (s : State) :
    (s.enqueue p e).clock = s.clock := by simp [State.enqueue]

@[simp] theorem State.enqueue_metering (p : Ped) (e : QueueEntry) (s : State) :
    (s.enqueue p e).metering = s.metering := by simp [State.enqueue]

@[simp] theorem State.enqueue_alloc (p : Ped) (e : QueueEntry) (s : State) :
    (s.enqueue p e).alloc = s.alloc := by simp [State.enqueue]

@[simp] theorem State.enqueue_settlement (p : Ped) (e : QueueEntry) (s : State) :
    (s.enqueue p e).settlement = s.settlement := by simp [State.enqueue]

@[simp] theorem State.enqueue_uplink (p : Ped) (e : QueueEntry) (s : State) :
    (s.enqueue p e).uplink = s.uplink := by simp [State.enqueue]

@[simp] theorem State.enqueue_pending (p : Ped) (e : QueueEntry) (s : State) :
    (s.enqueue p e).pending = s.pending := by simp [State.enqueue]

/-! ### offerDisplay -/

@[simp] theorem State.offerDisplay_classifier (n : Conn) (k : DisplayKind) (s : State) :
    (s.offerDisplay n k).classifier = s.classifier := by
  unfold State.offerDisplay
  (repeat' split) <;> simp

@[simp] theorem State.offerDisplay_sequencer (n : Conn) (k : DisplayKind) (s : State) :
    (s.offerDisplay n k).sequencer = s.sequencer := by
  unfold State.offerDisplay
  (repeat' split) <;> simp

@[simp] theorem State.offerDisplay_auth (n : Conn) (k : DisplayKind) (s : State) :
    (s.offerDisplay n k).auth = s.auth := by
  unfold State.offerDisplay
  (repeat' split) <;> simp

@[simp] theorem State.offerDisplay_sessions (n : Conn) (k : DisplayKind) (s : State) :
    (s.offerDisplay n k).sessions = s.sessions := by
  unfold State.offerDisplay
  (repeat' split) <;> simp

@[simp] theorem State.offerDisplay_tariff (n : Conn) (k : DisplayKind) (s : State) :
    (s.offerDisplay n k).tariff = s.tariff := by
  unfold State.offerDisplay
  (repeat' split) <;> simp

@[simp] theorem State.offerDisplay_clock (n : Conn) (k : DisplayKind) (s : State) :
    (s.offerDisplay n k).clock = s.clock := by
  unfold State.offerDisplay
  (repeat' split) <;> simp

@[simp] theorem State.offerDisplay_metering (n : Conn) (k : DisplayKind) (s : State) :
    (s.offerDisplay n k).metering = s.metering := by
  unfold State.offerDisplay
  (repeat' split) <;> simp

@[simp] theorem State.offerDisplay_alloc (n : Conn) (k : DisplayKind) (s : State) :
    (s.offerDisplay n k).alloc = s.alloc := by
  unfold State.offerDisplay
  (repeat' split) <;> simp

@[simp] theorem State.offerDisplay_settlement (n : Conn) (k : DisplayKind) (s : State) :
    (s.offerDisplay n k).settlement = s.settlement := by
  unfold State.offerDisplay
  (repeat' split) <;> simp

@[simp] theorem State.offerDisplay_uplink (n : Conn) (k : DisplayKind) (s : State) :
    (s.offerDisplay n k).uplink = s.uplink := by
  unfold State.offerDisplay
  (repeat' split) <;> simp

@[simp] theorem State.offerDisplay_pending (n : Conn) (k : DisplayKind) (s : State) :
    (s.offerDisplay n k).pending = s.pending := by
  unfold State.offerDisplay
  (repeat' split) <;> simp

/-! ### setOpenSlot -/

@[simp] theorem State.setOpenSlot_classifier (n : Conn) (s : State) :
    (s.setOpenSlot n).classifier = s.classifier := by
  simp only [State.setOpenSlot]
  (repeat' split) <;> simp

@[simp] theorem State.setOpenSlot_sequencer (n : Conn) (s : State) :
    (s.setOpenSlot n).sequencer = s.sequencer := by
  simp only [State.setOpenSlot]
  (repeat' split) <;> simp

@[simp] theorem State.setOpenSlot_auth (n : Conn) (s : State) :
    (s.setOpenSlot n).auth = s.auth := by
  simp only [State.setOpenSlot]
  (repeat' split) <;> simp

@[simp] theorem State.setOpenSlot_sessions (n : Conn) (s : State) :
    (s.setOpenSlot n).sessions = s.sessions := by
  simp only [State.setOpenSlot]
  (repeat' split) <;> simp

@[simp] theorem State.setOpenSlot_tariff (n : Conn) (s : State) :
    (s.setOpenSlot n).tariff = s.tariff := by
  simp only [State.setOpenSlot]
  (repeat' split) <;> simp

@[simp] theorem State.setOpenSlot_clock (n : Conn) (s : State) :
    (s.setOpenSlot n).clock = s.clock := by
  simp only [State.setOpenSlot]
  (repeat' split) <;> simp

@[simp] theorem State.setOpenSlot_metering (n : Conn) (s : State) :
    (s.setOpenSlot n).metering = s.metering := by
  simp only [State.setOpenSlot]
  (repeat' split) <;> simp

@[simp] theorem State.setOpenSlot_alloc (n : Conn) (s : State) :
    (s.setOpenSlot n).alloc = s.alloc := by
  simp only [State.setOpenSlot]
  (repeat' split) <;> simp

@[simp] theorem State.setOpenSlot_settlement (n : Conn) (s : State) :
    (s.setOpenSlot n).settlement = s.settlement := by
  simp only [State.setOpenSlot]
  (repeat' split) <;> simp

@[simp] theorem State.setOpenSlot_uplink (n : Conn) (s : State) :
    (s.setOpenSlot n).uplink = s.uplink := by
  simp only [State.setOpenSlot]
  (repeat' split) <;> simp

@[simp] theorem State.setOpenSlot_pending (n : Conn) (s : State) :
    (s.setOpenSlot n).pending = s.pending := by
  simp only [State.setOpenSlot]
  (repeat' split) <;> simp

/-! ### setDecSlot -/

@[simp] theorem State.setDecSlot_classifier (n : Conn) (v : Nat) (s : State) :
    (s.setDecSlot n v).classifier = s.classifier := by simp [State.setDecSlot]

@[simp] theorem State.setDecSlot_sequencer (n : Conn) (v : Nat) (s : State) :
    (s.setDecSlot n v).sequencer = s.sequencer := by simp [State.setDecSlot]

@[simp] theorem State.setDecSlot_auth (n : Conn) (v : Nat) (s : State) :
    (s.setDecSlot n v).auth = s.auth := by simp [State.setDecSlot]

@[simp] theorem State.setDecSlot_sessions (n : Conn) (v : Nat) (s : State) :
    (s.setDecSlot n v).sessions = s.sessions := by simp [State.setDecSlot]

@[simp] theorem State.setDecSlot_tariff (n : Conn) (v : Nat) (s : State) :
    (s.setDecSlot n v).tariff = s.tariff := by simp [State.setDecSlot]

@[simp] theorem State.setDecSlot_clock (n : Conn) (v : Nat) (s : State) :
    (s.setDecSlot n v).clock = s.clock := by simp [State.setDecSlot]

@[simp] theorem State.setDecSlot_metering (n : Conn) (v : Nat) (s : State) :
    (s.setDecSlot n v).metering = s.metering := by simp [State.setDecSlot]

@[simp] theorem State.setDecSlot_alloc (n : Conn) (v : Nat) (s : State) :
    (s.setDecSlot n v).alloc = s.alloc := by simp [State.setDecSlot]

@[simp] theorem State.setDecSlot_settlement (n : Conn) (v : Nat) (s : State) :
    (s.setDecSlot n v).settlement = s.settlement := by simp [State.setDecSlot]

@[simp] theorem State.setDecSlot_uplink (n : Conn) (v : Nat) (s : State) :
    (s.setDecSlot n v).uplink = s.uplink := by simp [State.setDecSlot]

@[simp] theorem State.setDecSlot_pending (n : Conn) (v : Nat) (s : State) :
    (s.setDecSlot n v).pending = s.pending := by simp [State.setDecSlot]

/-! ### clearDecSlot -/

@[simp] theorem State.clearDecSlot_classifier (n : Conn) (s : State) :
    (s.clearDecSlot n).classifier = s.classifier := by simp [State.clearDecSlot]

@[simp] theorem State.clearDecSlot_sequencer (n : Conn) (s : State) :
    (s.clearDecSlot n).sequencer = s.sequencer := by simp [State.clearDecSlot]

@[simp] theorem State.clearDecSlot_auth (n : Conn) (s : State) :
    (s.clearDecSlot n).auth = s.auth := by simp [State.clearDecSlot]

@[simp] theorem State.clearDecSlot_sessions (n : Conn) (s : State) :
    (s.clearDecSlot n).sessions = s.sessions := by simp [State.clearDecSlot]

@[simp] theorem State.clearDecSlot_tariff (n : Conn) (s : State) :
    (s.clearDecSlot n).tariff = s.tariff := by simp [State.clearDecSlot]

@[simp] theorem State.clearDecSlot_clock (n : Conn) (s : State) :
    (s.clearDecSlot n).clock = s.clock := by simp [State.clearDecSlot]

@[simp] theorem State.clearDecSlot_metering (n : Conn) (s : State) :
    (s.clearDecSlot n).metering = s.metering := by simp [State.clearDecSlot]

@[simp] theorem State.clearDecSlot_alloc (n : Conn) (s : State) :
    (s.clearDecSlot n).alloc = s.alloc := by simp [State.clearDecSlot]

@[simp] theorem State.clearDecSlot_settlement (n : Conn) (s : State) :
    (s.clearDecSlot n).settlement = s.settlement := by simp [State.clearDecSlot]

@[simp] theorem State.clearDecSlot_uplink (n : Conn) (s : State) :
    (s.clearDecSlot n).uplink = s.uplink := by simp [State.clearDecSlot]

@[simp] theorem State.clearDecSlot_pending (n : Conn) (s : State) :
    (s.clearDecSlot n).pending = s.pending := by simp [State.clearDecSlot]

/-! ### emptySlots -/

@[simp] theorem State.emptySlots_classifier (p : Ped) (s : State) :
    (s.emptySlots p).classifier = s.classifier := by simp [State.emptySlots]

@[simp] theorem State.emptySlots_sequencer (p : Ped) (s : State) :
    (s.emptySlots p).sequencer = s.sequencer := by simp [State.emptySlots]

@[simp] theorem State.emptySlots_auth (p : Ped) (s : State) :
    (s.emptySlots p).auth = s.auth := by simp [State.emptySlots]

@[simp] theorem State.emptySlots_sessions (p : Ped) (s : State) :
    (s.emptySlots p).sessions = s.sessions := by simp [State.emptySlots]

@[simp] theorem State.emptySlots_tariff (p : Ped) (s : State) :
    (s.emptySlots p).tariff = s.tariff := by simp [State.emptySlots]

@[simp] theorem State.emptySlots_clock (p : Ped) (s : State) :
    (s.emptySlots p).clock = s.clock := by simp [State.emptySlots]

@[simp] theorem State.emptySlots_metering (p : Ped) (s : State) :
    (s.emptySlots p).metering = s.metering := by simp [State.emptySlots]

@[simp] theorem State.emptySlots_alloc (p : Ped) (s : State) :
    (s.emptySlots p).alloc = s.alloc := by simp [State.emptySlots]

@[simp] theorem State.emptySlots_settlement (p : Ped) (s : State) :
    (s.emptySlots p).settlement = s.settlement := by simp [State.emptySlots]

@[simp] theorem State.emptySlots_uplink (p : Ped) (s : State) :
    (s.emptySlots p).uplink = s.uplink := by simp [State.emptySlots]

@[simp] theorem State.emptySlots_pending (p : Ped) (s : State) :
    (s.emptySlots p).pending = s.pending := by simp [State.emptySlots]

/-! ### requestLatch -/

@[simp] theorem State.requestLatch_classifier (e : Byte) (s : State) :
    (s.requestLatch e).classifier = s.classifier := rfl

@[simp] theorem State.requestLatch_sequencer (e : Byte) (s : State) :
    (s.requestLatch e).sequencer = s.sequencer := rfl

@[simp] theorem State.requestLatch_auth (e : Byte) (s : State) :
    (s.requestLatch e).auth = s.auth := rfl

@[simp] theorem State.requestLatch_sessions (e : Byte) (s : State) :
    (s.requestLatch e).sessions = s.sessions := rfl

@[simp] theorem State.requestLatch_tariff (e : Byte) (s : State) :
    (s.requestLatch e).tariff = s.tariff := rfl

@[simp] theorem State.requestLatch_clock (e : Byte) (s : State) :
    (s.requestLatch e).clock = s.clock := rfl

@[simp] theorem State.requestLatch_metering (e : Byte) (s : State) :
    (s.requestLatch e).metering = s.metering := rfl

@[simp] theorem State.requestLatch_alloc (e : Byte) (s : State) :
    (s.requestLatch e).alloc = s.alloc := rfl

@[simp] theorem State.requestLatch_settlement (e : Byte) (s : State) :
    (s.requestLatch e).settlement = s.settlement := rfl

@[simp] theorem State.requestLatch_uplink (e : Byte) (s : State) :
    (s.requestLatch e).uplink = s.uplink := rfl

@[simp] theorem State.requestLatch_pending (e : Byte) (s : State) :
    (s.requestLatch e).pending = s.pending := rfl

/-! ### decide -/

@[simp] theorem State.decide_line (n : Conn) (k : DecisionKind) (s : State) :
    (s.decide n k).line = s.line := rfl

@[simp] theorem State.decide_classifier (n : Conn) (k : DecisionKind) (s : State) :
    (s.decide n k).classifier = s.classifier := rfl

@[simp] theorem State.decide_sequencer (n : Conn) (k : DecisionKind) (s : State) :
    (s.decide n k).sequencer = s.sequencer := rfl

@[simp] theorem State.decide_sessions (n : Conn) (k : DecisionKind) (s : State) :
    (s.decide n k).sessions = s.sessions := rfl

@[simp] theorem State.decide_tariff (n : Conn) (k : DecisionKind) (s : State) :
    (s.decide n k).tariff = s.tariff := rfl

@[simp] theorem State.decide_clock (n : Conn) (k : DecisionKind) (s : State) :
    (s.decide n k).clock = s.clock := rfl

@[simp] theorem State.decide_metering (n : Conn) (k : DecisionKind) (s : State) :
    (s.decide n k).metering = s.metering := rfl

@[simp] theorem State.decide_alloc (n : Conn) (k : DecisionKind) (s : State) :
    (s.decide n k).alloc = s.alloc := rfl

@[simp] theorem State.decide_settlement (n : Conn) (k : DecisionKind) (s : State) :
    (s.decide n k).settlement = s.settlement := rfl

@[simp] theorem State.decide_uplink (n : Conn) (k : DecisionKind) (s : State) :
    (s.decide n k).uplink = s.uplink := rfl

@[simp] theorem State.decide_pending (n : Conn) (k : DecisionKind) (s : State) :
    (s.decide n k).pending = s.pending := rfl

/-! ### discardInflight -/

@[simp] theorem State.discardInflight_classifier (f : Ped → Bool) (s : State) :
    (s.discardInflight f).classifier = s.classifier := by
  unfold State.discardInflight
  (repeat' split) <;> simp

@[simp] theorem State.discardInflight_sequencer (f : Ped → Bool) (s : State) :
    (s.discardInflight f).sequencer = s.sequencer := by
  unfold State.discardInflight
  (repeat' split) <;> simp

@[simp] theorem State.discardInflight_auth (f : Ped → Bool) (s : State) :
    (s.discardInflight f).auth = s.auth := by
  unfold State.discardInflight
  (repeat' split) <;> simp

@[simp] theorem State.discardInflight_sessions (f : Ped → Bool) (s : State) :
    (s.discardInflight f).sessions = s.sessions := by
  unfold State.discardInflight
  (repeat' split) <;> simp

@[simp] theorem State.discardInflight_tariff (f : Ped → Bool) (s : State) :
    (s.discardInflight f).tariff = s.tariff := by
  unfold State.discardInflight
  (repeat' split) <;> simp

@[simp] theorem State.discardInflight_clock (f : Ped → Bool) (s : State) :
    (s.discardInflight f).clock = s.clock := by
  unfold State.discardInflight
  (repeat' split) <;> simp

@[simp] theorem State.discardInflight_metering (f : Ped → Bool) (s : State) :
    (s.discardInflight f).metering = s.metering := by
  unfold State.discardInflight
  (repeat' split) <;> simp

@[simp] theorem State.discardInflight_alloc (f : Ped → Bool) (s : State) :
    (s.discardInflight f).alloc = s.alloc := by
  unfold State.discardInflight
  (repeat' split) <;> simp

@[simp] theorem State.discardInflight_settlement (f : Ped → Bool) (s : State) :
    (s.discardInflight f).settlement = s.settlement := by
  unfold State.discardInflight
  (repeat' split) <;> simp

@[simp] theorem State.discardInflight_uplink (f : Ped → Bool) (s : State) :
    (s.discardInflight f).uplink = s.uplink := by
  unfold State.discardInflight
  (repeat' split) <;> simp

@[simp] theorem State.discardInflight_pending (f : Ped → Bool) (s : State) :
    (s.discardInflight f).pending = s.pending := by
  unfold State.discardInflight
  (repeat' split) <;> simp

/-! ### advanceTo -/

@[simp] theorem State.advanceTo_line (t : Nat) (s : State) :
    (s.advanceTo t).line = s.line := by
  unfold State.advanceTo
  split <;> rfl

@[simp] theorem State.advanceTo_classifier (t : Nat) (s : State) :
    (s.advanceTo t).classifier = s.classifier := by
  unfold State.advanceTo
  split <;> rfl

@[simp] theorem State.advanceTo_sequencer (t : Nat) (s : State) :
    (s.advanceTo t).sequencer = s.sequencer := by
  unfold State.advanceTo
  split <;> rfl

@[simp] theorem State.advanceTo_auth (t : Nat) (s : State) :
    (s.advanceTo t).auth = s.auth := by
  unfold State.advanceTo
  split <;> rfl

@[simp] theorem State.advanceTo_sessions (t : Nat) (s : State) :
    (s.advanceTo t).sessions = s.sessions := by
  unfold State.advanceTo
  split <;> rfl

@[simp] theorem State.advanceTo_tariff (t : Nat) (s : State) :
    (s.advanceTo t).tariff = s.tariff := by
  unfold State.advanceTo
  split <;> rfl

@[simp] theorem State.advanceTo_metering (t : Nat) (s : State) :
    (s.advanceTo t).metering = s.metering := by
  unfold State.advanceTo
  split <;> rfl

@[simp] theorem State.advanceTo_alloc (t : Nat) (s : State) :
    (s.advanceTo t).alloc = s.alloc := by
  unfold State.advanceTo
  split <;> rfl

@[simp] theorem State.advanceTo_settlement (t : Nat) (s : State) :
    (s.advanceTo t).settlement = s.settlement := by
  unfold State.advanceTo
  split <;> rfl

@[simp] theorem State.advanceTo_uplink (t : Nat) (s : State) :
    (s.advanceTo t).uplink = s.uplink := by
  unfold State.advanceTo
  split <;> rfl

@[simp] theorem State.advanceTo_pending (t : Nat) (s : State) :
    (s.advanceTo t).pending = s.pending := by
  unfold State.advanceTo
  split <;> rfl

/-! ### advanceToSec -/

@[simp] theorem State.advanceToSec_line (t : Nat) (s : State) :
    (s.advanceToSec t).line = s.line := by simp [State.advanceToSec]

@[simp] theorem State.advanceToSec_classifier (t : Nat) (s : State) :
    (s.advanceToSec t).classifier = s.classifier := by simp [State.advanceToSec]

@[simp] theorem State.advanceToSec_sequencer (t : Nat) (s : State) :
    (s.advanceToSec t).sequencer = s.sequencer := by simp [State.advanceToSec]

@[simp] theorem State.advanceToSec_auth (t : Nat) (s : State) :
    (s.advanceToSec t).auth = s.auth := by simp [State.advanceToSec]

@[simp] theorem State.advanceToSec_sessions (t : Nat) (s : State) :
    (s.advanceToSec t).sessions = s.sessions := by simp [State.advanceToSec]

@[simp] theorem State.advanceToSec_tariff (t : Nat) (s : State) :
    (s.advanceToSec t).tariff = s.tariff := by simp [State.advanceToSec]

@[simp] theorem State.advanceToSec_metering (t : Nat) (s : State) :
    (s.advanceToSec t).metering = s.metering := by simp [State.advanceToSec]

@[simp] theorem State.advanceToSec_alloc (t : Nat) (s : State) :
    (s.advanceToSec t).alloc = s.alloc := by simp [State.advanceToSec]

@[simp] theorem State.advanceToSec_settlement (t : Nat) (s : State) :
    (s.advanceToSec t).settlement = s.settlement := by simp [State.advanceToSec]

@[simp] theorem State.advanceToSec_uplink (t : Nat) (s : State) :
    (s.advanceToSec t).uplink = s.uplink := by simp [State.advanceToSec]

@[simp] theorem State.advanceToSec_pending (t : Nat) (s : State) :
    (s.advanceToSec t).pending = s.pending := by simp [State.advanceToSec]

/-! ### place -/

@[simp] theorem State.place_classifier (n : Conn) (s : State) :
    (s.place n).classifier = s.classifier := by
  simp only [State.place]
  (repeat' split) <;> simp

@[simp] theorem State.place_sequencer (n : Conn) (s : State) :
    (s.place n).sequencer = s.sequencer := by
  simp only [State.place]
  (repeat' split) <;> simp

@[simp] theorem State.place_auth (n : Conn) (s : State) :
    (s.place n).auth = s.auth := by
  simp only [State.place]
  (repeat' split) <;> simp

@[simp] theorem State.place_sessions (n : Conn) (s : State) :
    (s.place n).sessions = s.sessions := by
  simp only [State.place]
  (repeat' split) <;> simp

@[simp] theorem State.place_tariff (n : Conn) (s : State) :
    (s.place n).tariff = s.tariff := by
  simp only [State.place]
  (repeat' split) <;> simp

@[simp] theorem State.place_clock (n : Conn) (s : State) :
    (s.place n).clock = s.clock := by
  simp only [State.place]
  (repeat' split) <;> simp

@[simp] theorem State.place_metering (n : Conn) (s : State) :
    (s.place n).metering = s.metering := by
  simp only [State.place]
  (repeat' split) <;> simp

@[simp] theorem State.place_settlement (n : Conn) (s : State) :
    (s.place n).settlement = s.settlement := by
  simp only [State.place]
  (repeat' split) <;> simp

@[simp] theorem State.place_uplink (n : Conn) (s : State) :
    (s.place n).uplink = s.uplink := by
  simp only [State.place]
  (repeat' split) <;> simp

@[simp] theorem State.place_pending (n : Conn) (s : State) :
    (s.place n).pending = s.pending := by
  simp only [State.place]
  (repeat' split) <;> simp

/-! ### markOne -/

@[simp] theorem State.markOne_line (n : Conn) (s : State) :
    (s.markOne n).line = s.line := by
  unfold State.markOne
  (repeat' split) <;> simp

@[simp] theorem State.markOne_classifier (n : Conn) (s : State) :
    (s.markOne n).classifier = s.classifier := by
  unfold State.markOne
  (repeat' split) <;> simp

@[simp] theorem State.markOne_sequencer (n : Conn) (s : State) :
    (s.markOne n).sequencer = s.sequencer := by
  unfold State.markOne
  (repeat' split) <;> simp

@[simp] theorem State.markOne_auth (n : Conn) (s : State) :
    (s.markOne n).auth = s.auth := by
  unfold State.markOne
  (repeat' split) <;> simp

@[simp] theorem State.markOne_sessions (n : Conn) (s : State) :
    (s.markOne n).sessions = s.sessions := by
  unfold State.markOne
  (repeat' split) <;> simp

@[simp] theorem State.markOne_tariff (n : Conn) (s : State) :
    (s.markOne n).tariff = s.tariff := by
  unfold State.markOne
  (repeat' split) <;> simp

@[simp] theorem State.markOne_clock (n : Conn) (s : State) :
    (s.markOne n).clock = s.clock := by
  unfold State.markOne
  (repeat' split) <;> simp

@[simp] theorem State.markOne_metering (n : Conn) (s : State) :
    (s.markOne n).metering = s.metering := by
  unfold State.markOne
  (repeat' split) <;> simp

@[simp] theorem State.markOne_settlement (n : Conn) (s : State) :
    (s.markOne n).settlement = s.settlement := by
  unfold State.markOne
  (repeat' split) <;> simp

@[simp] theorem State.markOne_uplink (n : Conn) (s : State) :
    (s.markOne n).uplink = s.uplink := by
  unfold State.markOne
  (repeat' split) <;> simp

@[simp] theorem State.markOne_pending (n : Conn) (s : State) :
    (s.markOne n).pending = s.pending := by
  unfold State.markOne
  (repeat' split) <;> simp

/-! ### useLimit -/

@[simp] theorem State.useLimit_line (p : Ped) (s : State) :
    (s.useLimit p).line = s.line := by
  unfold State.useLimit
  (repeat' split) <;> simp

@[simp] theorem State.useLimit_classifier (p : Ped) (s : State) :
    (s.useLimit p).classifier = s.classifier := by
  unfold State.useLimit
  (repeat' split) <;> simp

@[simp] theorem State.useLimit_sequencer (p : Ped) (s : State) :
    (s.useLimit p).sequencer = s.sequencer := by
  unfold State.useLimit
  (repeat' split) <;> simp

@[simp] theorem State.useLimit_auth (p : Ped) (s : State) :
    (s.useLimit p).auth = s.auth := by
  unfold State.useLimit
  (repeat' split) <;> simp

@[simp] theorem State.useLimit_sessions (p : Ped) (s : State) :
    (s.useLimit p).sessions = s.sessions := by
  unfold State.useLimit
  (repeat' split) <;> simp

@[simp] theorem State.useLimit_tariff (p : Ped) (s : State) :
    (s.useLimit p).tariff = s.tariff := by
  unfold State.useLimit
  (repeat' split) <;> simp

@[simp] theorem State.useLimit_clock (p : Ped) (s : State) :
    (s.useLimit p).clock = s.clock := by
  unfold State.useLimit
  (repeat' split) <;> simp

@[simp] theorem State.useLimit_metering (p : Ped) (s : State) :
    (s.useLimit p).metering = s.metering := by
  unfold State.useLimit
  (repeat' split) <;> simp

@[simp] theorem State.useLimit_settlement (p : Ped) (s : State) :
    (s.useLimit p).settlement = s.settlement := by
  unfold State.useLimit
  (repeat' split) <;> simp

@[simp] theorem State.useLimit_uplink (p : Ped) (s : State) :
    (s.useLimit p).uplink = s.uplink := by
  unfold State.useLimit
  (repeat' split) <;> simp

@[simp] theorem State.useLimit_pending (p : Ped) (s : State) :
    (s.useLimit p).pending = s.pending := by
  unfold State.useLimit
  (repeat' split) <;> simp

/-! ### setTarget -/

@[simp] theorem State.setTarget_line (ts : List (Conn × Nat)) (n : Conn) (s : State) :
    (s.setTarget ts n).line = s.line := by
  unfold State.setTarget
  (repeat' split) <;> simp

@[simp] theorem State.setTarget_classifier (ts : List (Conn × Nat)) (n : Conn) (s : State) :
    (s.setTarget ts n).classifier = s.classifier := by
  unfold State.setTarget
  (repeat' split) <;> simp

@[simp] theorem State.setTarget_sequencer (ts : List (Conn × Nat)) (n : Conn) (s : State) :
    (s.setTarget ts n).sequencer = s.sequencer := by
  unfold State.setTarget
  (repeat' split) <;> simp

@[simp] theorem State.setTarget_auth (ts : List (Conn × Nat)) (n : Conn) (s : State) :
    (s.setTarget ts n).auth = s.auth := by
  unfold State.setTarget
  (repeat' split) <;> simp

@[simp] theorem State.setTarget_sessions (ts : List (Conn × Nat)) (n : Conn) (s : State) :
    (s.setTarget ts n).sessions = s.sessions := by
  unfold State.setTarget
  (repeat' split) <;> simp

@[simp] theorem State.setTarget_tariff (ts : List (Conn × Nat)) (n : Conn) (s : State) :
    (s.setTarget ts n).tariff = s.tariff := by
  unfold State.setTarget
  (repeat' split) <;> simp

@[simp] theorem State.setTarget_clock (ts : List (Conn × Nat)) (n : Conn) (s : State) :
    (s.setTarget ts n).clock = s.clock := by
  unfold State.setTarget
  (repeat' split) <;> simp

@[simp] theorem State.setTarget_metering (ts : List (Conn × Nat)) (n : Conn) (s : State) :
    (s.setTarget ts n).metering = s.metering := by
  unfold State.setTarget
  (repeat' split) <;> simp

@[simp] theorem State.setTarget_settlement (ts : List (Conn × Nat)) (n : Conn) (s : State) :
    (s.setTarget ts n).settlement = s.settlement := by
  unfold State.setTarget
  (repeat' split) <;> simp

@[simp] theorem State.setTarget_uplink (ts : List (Conn × Nat)) (n : Conn) (s : State) :
    (s.setTarget ts n).uplink = s.uplink := by
  unfold State.setTarget
  (repeat' split) <;> simp

@[simp] theorem State.setTarget_pending (ts : List (Conn × Nat)) (n : Conn) (s : State) :
    (s.setTarget ts n).pending = s.pending := by
  unfold State.setTarget
  (repeat' split) <;> simp

/-! ### placeReachable -/

@[simp] theorem State.placeReachable_classifier (n : Conn) (s : State) :
    (s.placeReachable n).classifier = s.classifier := by
  unfold State.placeReachable
  (repeat' split) <;> simp

@[simp] theorem State.placeReachable_sequencer (n : Conn) (s : State) :
    (s.placeReachable n).sequencer = s.sequencer := by
  unfold State.placeReachable
  (repeat' split) <;> simp

@[simp] theorem State.placeReachable_auth (n : Conn) (s : State) :
    (s.placeReachable n).auth = s.auth := by
  unfold State.placeReachable
  (repeat' split) <;> simp

@[simp] theorem State.placeReachable_sessions (n : Conn) (s : State) :
    (s.placeReachable n).sessions = s.sessions := by
  unfold State.placeReachable
  (repeat' split) <;> simp

@[simp] theorem State.placeReachable_tariff (n : Conn) (s : State) :
    (s.placeReachable n).tariff = s.tariff := by
  unfold State.placeReachable
  (repeat' split) <;> simp

@[simp] theorem State.placeReachable_clock (n : Conn) (s : State) :
    (s.placeReachable n).clock = s.clock := by
  unfold State.placeReachable
  (repeat' split) <;> simp

@[simp] theorem State.placeReachable_metering (n : Conn) (s : State) :
    (s.placeReachable n).metering = s.metering := by
  unfold State.placeReachable
  (repeat' split) <;> simp

@[simp] theorem State.placeReachable_settlement (n : Conn) (s : State) :
    (s.placeReachable n).settlement = s.settlement := by
  unfold State.placeReachable
  (repeat' split) <;> simp

@[simp] theorem State.placeReachable_uplink (n : Conn) (s : State) :
    (s.placeReachable n).uplink = s.uplink := by
  unfold State.placeReachable
  (repeat' split) <;> simp

@[simp] theorem State.placeReachable_pending (n : Conn) (s : State) :
    (s.placeReachable n).pending = s.pending := by
  unfold State.placeReachable
  (repeat' split) <;> simp

/-! ### pass -/

@[simp] theorem State.pass_classifier (s : State) :
    (s.pass).classifier = s.classifier := by
  simp only [State.pass]
  rw [foldl_frame (State.classifier) _ (fun t n => State.placeReachable_classifier n t),
    foldl_frame (State.classifier) _ (fun t n => State.setTarget_classifier _ n t)]
  rw [foldl_frame (State.classifier) _ (fun t p => State.useLimit_classifier p t),
    foldl_frame (State.classifier) _ (fun t n => State.markOne_classifier n t)]

@[simp] theorem State.pass_sequencer (s : State) :
    (s.pass).sequencer = s.sequencer := by
  simp only [State.pass]
  rw [foldl_frame (State.sequencer) _ (fun t n => State.placeReachable_sequencer n t),
    foldl_frame (State.sequencer) _ (fun t n => State.setTarget_sequencer _ n t)]
  rw [foldl_frame (State.sequencer) _ (fun t p => State.useLimit_sequencer p t),
    foldl_frame (State.sequencer) _ (fun t n => State.markOne_sequencer n t)]

@[simp] theorem State.pass_auth (s : State) :
    (s.pass).auth = s.auth := by
  simp only [State.pass]
  rw [foldl_frame (State.auth) _ (fun t n => State.placeReachable_auth n t),
    foldl_frame (State.auth) _ (fun t n => State.setTarget_auth _ n t)]
  rw [foldl_frame (State.auth) _ (fun t p => State.useLimit_auth p t),
    foldl_frame (State.auth) _ (fun t n => State.markOne_auth n t)]

@[simp] theorem State.pass_sessions (s : State) :
    (s.pass).sessions = s.sessions := by
  simp only [State.pass]
  rw [foldl_frame (State.sessions) _ (fun t n => State.placeReachable_sessions n t),
    foldl_frame (State.sessions) _ (fun t n => State.setTarget_sessions _ n t)]
  rw [foldl_frame (State.sessions) _ (fun t p => State.useLimit_sessions p t),
    foldl_frame (State.sessions) _ (fun t n => State.markOne_sessions n t)]

@[simp] theorem State.pass_tariff (s : State) :
    (s.pass).tariff = s.tariff := by
  simp only [State.pass]
  rw [foldl_frame (State.tariff) _ (fun t n => State.placeReachable_tariff n t),
    foldl_frame (State.tariff) _ (fun t n => State.setTarget_tariff _ n t)]
  rw [foldl_frame (State.tariff) _ (fun t p => State.useLimit_tariff p t),
    foldl_frame (State.tariff) _ (fun t n => State.markOne_tariff n t)]

@[simp] theorem State.pass_clock (s : State) :
    (s.pass).clock = s.clock := by
  simp only [State.pass]
  rw [foldl_frame (State.clock) _ (fun t n => State.placeReachable_clock n t),
    foldl_frame (State.clock) _ (fun t n => State.setTarget_clock _ n t)]
  rw [foldl_frame (State.clock) _ (fun t p => State.useLimit_clock p t),
    foldl_frame (State.clock) _ (fun t n => State.markOne_clock n t)]

@[simp] theorem State.pass_metering (s : State) :
    (s.pass).metering = s.metering := by
  simp only [State.pass]
  rw [foldl_frame (State.metering) _ (fun t n => State.placeReachable_metering n t),
    foldl_frame (State.metering) _ (fun t n => State.setTarget_metering _ n t)]
  rw [foldl_frame (State.metering) _ (fun t p => State.useLimit_metering p t),
    foldl_frame (State.metering) _ (fun t n => State.markOne_metering n t)]

@[simp] theorem State.pass_settlement (s : State) :
    (s.pass).settlement = s.settlement := by
  simp only [State.pass]
  rw [foldl_frame (State.settlement) _ (fun t n => State.placeReachable_settlement n t),
    foldl_frame (State.settlement) _ (fun t n => State.setTarget_settlement _ n t)]
  rw [foldl_frame (State.settlement) _ (fun t p => State.useLimit_settlement p t),
    foldl_frame (State.settlement) _ (fun t n => State.markOne_settlement n t)]

@[simp] theorem State.pass_uplink (s : State) :
    (s.pass).uplink = s.uplink := by
  simp only [State.pass]
  rw [foldl_frame (State.uplink) _ (fun t n => State.placeReachable_uplink n t),
    foldl_frame (State.uplink) _ (fun t n => State.setTarget_uplink _ n t)]
  rw [foldl_frame (State.uplink) _ (fun t p => State.useLimit_uplink p t),
    foldl_frame (State.uplink) _ (fun t n => State.markOne_uplink n t)]

@[simp] theorem State.pass_pending (s : State) :
    (s.pass).pending = s.pending := by
  simp only [State.pass]
  rw [foldl_frame (State.pending) _ (fun t n => State.placeReachable_pending n t),
    foldl_frame (State.pending) _ (fun t n => State.setTarget_pending _ n t)]
  rw [foldl_frame (State.pending) _ (fun t p => State.useLimit_pending p t),
    foldl_frame (State.pending) _ (fun t n => State.markOne_pending n t)]

/-! ### decreaseAcked -/

@[simp] theorem State.decreaseAcked_classifier (n : Conn) (v h t : Nat) (s : State) :
    (s.decreaseAcked n v h t).classifier = s.classifier := by simp [State.decreaseAcked]

@[simp] theorem State.decreaseAcked_sequencer (n : Conn) (v h t : Nat) (s : State) :
    (s.decreaseAcked n v h t).sequencer = s.sequencer := by simp [State.decreaseAcked]

@[simp] theorem State.decreaseAcked_auth (n : Conn) (v h t : Nat) (s : State) :
    (s.decreaseAcked n v h t).auth = s.auth := by simp [State.decreaseAcked]

@[simp] theorem State.decreaseAcked_sessions (n : Conn) (v h t : Nat) (s : State) :
    (s.decreaseAcked n v h t).sessions = s.sessions := by simp [State.decreaseAcked]

@[simp] theorem State.decreaseAcked_tariff (n : Conn) (v h t : Nat) (s : State) :
    (s.decreaseAcked n v h t).tariff = s.tariff := by simp [State.decreaseAcked]

@[simp] theorem State.decreaseAcked_clock (n : Conn) (v h t : Nat) (s : State) :
    (s.decreaseAcked n v h t).clock = s.clock := by simp [State.decreaseAcked]

@[simp] theorem State.decreaseAcked_metering (n : Conn) (v h t : Nat) (s : State) :
    (s.decreaseAcked n v h t).metering = s.metering := by simp [State.decreaseAcked]

@[simp] theorem State.decreaseAcked_settlement (n : Conn) (v h t : Nat) (s : State) :
    (s.decreaseAcked n v h t).settlement = s.settlement := by simp [State.decreaseAcked]

@[simp] theorem State.decreaseAcked_uplink (n : Conn) (v h t : Nat) (s : State) :
    (s.decreaseAcked n v h t).uplink = s.uplink := by simp [State.decreaseAcked]

@[simp] theorem State.decreaseAcked_pending (n : Conn) (v h t : Nat) (s : State) :
    (s.decreaseAcked n v h t).pending = s.pending := by simp [State.decreaseAcked]

/-! ### increaseAcked -/

@[simp] theorem State.increaseAcked_classifier (n : Conn) (v h t : Nat) (s : State) :
    (s.increaseAcked n v h t).classifier = s.classifier := by simp [State.increaseAcked]

@[simp] theorem State.increaseAcked_sequencer (n : Conn) (v h t : Nat) (s : State) :
    (s.increaseAcked n v h t).sequencer = s.sequencer := by simp [State.increaseAcked]

@[simp] theorem State.increaseAcked_auth (n : Conn) (v h t : Nat) (s : State) :
    (s.increaseAcked n v h t).auth = s.auth := by simp [State.increaseAcked]

@[simp] theorem State.increaseAcked_sessions (n : Conn) (v h t : Nat) (s : State) :
    (s.increaseAcked n v h t).sessions = s.sessions := by simp [State.increaseAcked]

@[simp] theorem State.increaseAcked_tariff (n : Conn) (v h t : Nat) (s : State) :
    (s.increaseAcked n v h t).tariff = s.tariff := by simp [State.increaseAcked]

@[simp] theorem State.increaseAcked_clock (n : Conn) (v h t : Nat) (s : State) :
    (s.increaseAcked n v h t).clock = s.clock := by simp [State.increaseAcked]

@[simp] theorem State.increaseAcked_metering (n : Conn) (v h t : Nat) (s : State) :
    (s.increaseAcked n v h t).metering = s.metering := by simp [State.increaseAcked]

@[simp] theorem State.increaseAcked_settlement (n : Conn) (v h t : Nat) (s : State) :
    (s.increaseAcked n v h t).settlement = s.settlement := by simp [State.increaseAcked]

@[simp] theorem State.increaseAcked_uplink (n : Conn) (v h t : Nat) (s : State) :
    (s.increaseAcked n v h t).uplink = s.uplink := by simp [State.increaseAcked]

@[simp] theorem State.increaseAcked_pending (n : Conn) (v h t : Nat) (s : State) :
    (s.increaseAcked n v h t).pending = s.pending := by simp [State.increaseAcked]

/-! ### increaseRefused -/

@[simp] theorem State.increaseRefused_classifier (n : Conn) (s : State) :
    (s.increaseRefused n).classifier = s.classifier := by simp [State.increaseRefused]

@[simp] theorem State.increaseRefused_sequencer (n : Conn) (s : State) :
    (s.increaseRefused n).sequencer = s.sequencer := by simp [State.increaseRefused]

@[simp] theorem State.increaseRefused_auth (n : Conn) (s : State) :
    (s.increaseRefused n).auth = s.auth := by simp [State.increaseRefused]

@[simp] theorem State.increaseRefused_sessions (n : Conn) (s : State) :
    (s.increaseRefused n).sessions = s.sessions := by simp [State.increaseRefused]

@[simp] theorem State.increaseRefused_tariff (n : Conn) (s : State) :
    (s.increaseRefused n).tariff = s.tariff := by simp [State.increaseRefused]

@[simp] theorem State.increaseRefused_clock (n : Conn) (s : State) :
    (s.increaseRefused n).clock = s.clock := by simp [State.increaseRefused]

@[simp] theorem State.increaseRefused_metering (n : Conn) (s : State) :
    (s.increaseRefused n).metering = s.metering := by simp [State.increaseRefused]

@[simp] theorem State.increaseRefused_settlement (n : Conn) (s : State) :
    (s.increaseRefused n).settlement = s.settlement := by simp [State.increaseRefused]

@[simp] theorem State.increaseRefused_uplink (n : Conn) (s : State) :
    (s.increaseRefused n).uplink = s.uplink := by simp [State.increaseRefused]

@[simp] theorem State.increaseRefused_pending (n : Conn) (s : State) :
    (s.increaseRefused n).pending = s.pending := by simp [State.increaseRefused]

/-! ### increaseFailed -/

@[simp] theorem State.increaseFailed_line (n : Conn) (s : State) :
    (s.increaseFailed n).line = s.line := by simp [State.increaseFailed]

@[simp] theorem State.increaseFailed_classifier (n : Conn) (s : State) :
    (s.increaseFailed n).classifier = s.classifier := by simp [State.increaseFailed]

@[simp] theorem State.increaseFailed_sequencer (n : Conn) (s : State) :
    (s.increaseFailed n).sequencer = s.sequencer := by simp [State.increaseFailed]

@[simp] theorem State.increaseFailed_auth (n : Conn) (s : State) :
    (s.increaseFailed n).auth = s.auth := by simp [State.increaseFailed]

@[simp] theorem State.increaseFailed_sessions (n : Conn) (s : State) :
    (s.increaseFailed n).sessions = s.sessions := by simp [State.increaseFailed]

@[simp] theorem State.increaseFailed_tariff (n : Conn) (s : State) :
    (s.increaseFailed n).tariff = s.tariff := by simp [State.increaseFailed]

@[simp] theorem State.increaseFailed_clock (n : Conn) (s : State) :
    (s.increaseFailed n).clock = s.clock := by simp [State.increaseFailed]

@[simp] theorem State.increaseFailed_metering (n : Conn) (s : State) :
    (s.increaseFailed n).metering = s.metering := by simp [State.increaseFailed]

@[simp] theorem State.increaseFailed_settlement (n : Conn) (s : State) :
    (s.increaseFailed n).settlement = s.settlement := by simp [State.increaseFailed]

@[simp] theorem State.increaseFailed_uplink (n : Conn) (s : State) :
    (s.increaseFailed n).uplink = s.uplink := by simp [State.increaseFailed]

@[simp] theorem State.increaseFailed_pending (n : Conn) (s : State) :
    (s.increaseFailed n).pending = s.pending := by simp [State.increaseFailed]

/-! ### renewalAcked -/

@[simp] theorem State.renewalAcked_classifier (n : Conn) (v h t : Nat) (s : State) :
    (s.renewalAcked n v h t).classifier = s.classifier := by simp [State.renewalAcked]

@[simp] theorem State.renewalAcked_sequencer (n : Conn) (v h t : Nat) (s : State) :
    (s.renewalAcked n v h t).sequencer = s.sequencer := by simp [State.renewalAcked]

@[simp] theorem State.renewalAcked_auth (n : Conn) (v h t : Nat) (s : State) :
    (s.renewalAcked n v h t).auth = s.auth := by simp [State.renewalAcked]

@[simp] theorem State.renewalAcked_sessions (n : Conn) (v h t : Nat) (s : State) :
    (s.renewalAcked n v h t).sessions = s.sessions := by simp [State.renewalAcked]

@[simp] theorem State.renewalAcked_tariff (n : Conn) (v h t : Nat) (s : State) :
    (s.renewalAcked n v h t).tariff = s.tariff := by simp [State.renewalAcked]

@[simp] theorem State.renewalAcked_clock (n : Conn) (v h t : Nat) (s : State) :
    (s.renewalAcked n v h t).clock = s.clock := by simp [State.renewalAcked]

@[simp] theorem State.renewalAcked_metering (n : Conn) (v h t : Nat) (s : State) :
    (s.renewalAcked n v h t).metering = s.metering := by simp [State.renewalAcked]

@[simp] theorem State.renewalAcked_settlement (n : Conn) (v h t : Nat) (s : State) :
    (s.renewalAcked n v h t).settlement = s.settlement := by simp [State.renewalAcked]

@[simp] theorem State.renewalAcked_uplink (n : Conn) (v h t : Nat) (s : State) :
    (s.renewalAcked n v h t).uplink = s.uplink := by simp [State.renewalAcked]

@[simp] theorem State.renewalAcked_pending (n : Conn) (v h t : Nat) (s : State) :
    (s.renewalAcked n v h t).pending = s.pending := by simp [State.renewalAcked]

/-! ### renewalFailed -/

@[simp] theorem State.renewalFailed_line (n : Conn) (s : State) :
    (s.renewalFailed n).line = s.line := by simp [State.renewalFailed]

@[simp] theorem State.renewalFailed_classifier (n : Conn) (s : State) :
    (s.renewalFailed n).classifier = s.classifier := by simp [State.renewalFailed]

@[simp] theorem State.renewalFailed_sequencer (n : Conn) (s : State) :
    (s.renewalFailed n).sequencer = s.sequencer := by simp [State.renewalFailed]

@[simp] theorem State.renewalFailed_auth (n : Conn) (s : State) :
    (s.renewalFailed n).auth = s.auth := by simp [State.renewalFailed]

@[simp] theorem State.renewalFailed_sessions (n : Conn) (s : State) :
    (s.renewalFailed n).sessions = s.sessions := by simp [State.renewalFailed]

@[simp] theorem State.renewalFailed_tariff (n : Conn) (s : State) :
    (s.renewalFailed n).tariff = s.tariff := by simp [State.renewalFailed]

@[simp] theorem State.renewalFailed_clock (n : Conn) (s : State) :
    (s.renewalFailed n).clock = s.clock := by simp [State.renewalFailed]

@[simp] theorem State.renewalFailed_metering (n : Conn) (s : State) :
    (s.renewalFailed n).metering = s.metering := by simp [State.renewalFailed]

@[simp] theorem State.renewalFailed_settlement (n : Conn) (s : State) :
    (s.renewalFailed n).settlement = s.settlement := by simp [State.renewalFailed]

@[simp] theorem State.renewalFailed_uplink (n : Conn) (s : State) :
    (s.renewalFailed n).uplink = s.uplink := by simp [State.renewalFailed]

@[simp] theorem State.renewalFailed_pending (n : Conn) (s : State) :
    (s.renewalFailed n).pending = s.pending := by simp [State.renewalFailed]

/-! ### fallBack -/

@[simp] theorem State.fallBack_classifier (n : Conn) (s : State) :
    (s.fallBack n).classifier = s.classifier := by simp [State.fallBack]

@[simp] theorem State.fallBack_sequencer (n : Conn) (s : State) :
    (s.fallBack n).sequencer = s.sequencer := by simp [State.fallBack]

@[simp] theorem State.fallBack_auth (n : Conn) (s : State) :
    (s.fallBack n).auth = s.auth := by simp [State.fallBack]

@[simp] theorem State.fallBack_sessions (n : Conn) (s : State) :
    (s.fallBack n).sessions = s.sessions := by simp [State.fallBack]

@[simp] theorem State.fallBack_tariff (n : Conn) (s : State) :
    (s.fallBack n).tariff = s.tariff := by simp [State.fallBack]

@[simp] theorem State.fallBack_clock (n : Conn) (s : State) :
    (s.fallBack n).clock = s.clock := by simp [State.fallBack]

@[simp] theorem State.fallBack_metering (n : Conn) (s : State) :
    (s.fallBack n).metering = s.metering := by simp [State.fallBack]

@[simp] theorem State.fallBack_settlement (n : Conn) (s : State) :
    (s.fallBack n).settlement = s.settlement := by simp [State.fallBack]

@[simp] theorem State.fallBack_uplink (n : Conn) (s : State) :
    (s.fallBack n).uplink = s.uplink := by simp [State.fallBack]

@[simp] theorem State.fallBack_pending (n : Conn) (s : State) :
    (s.fallBack n).pending = s.pending := by simp [State.fallBack]

/-! ### renewalRefused -/

@[simp] theorem State.renewalRefused_classifier (n : Conn) (s : State) :
    (s.renewalRefused n).classifier = s.classifier := by simp [State.renewalRefused]

@[simp] theorem State.renewalRefused_sequencer (n : Conn) (s : State) :
    (s.renewalRefused n).sequencer = s.sequencer := by simp [State.renewalRefused]

@[simp] theorem State.renewalRefused_auth (n : Conn) (s : State) :
    (s.renewalRefused n).auth = s.auth := by simp [State.renewalRefused]

@[simp] theorem State.renewalRefused_sessions (n : Conn) (s : State) :
    (s.renewalRefused n).sessions = s.sessions := by simp [State.renewalRefused]

@[simp] theorem State.renewalRefused_tariff (n : Conn) (s : State) :
    (s.renewalRefused n).tariff = s.tariff := by simp [State.renewalRefused]

@[simp] theorem State.renewalRefused_clock (n : Conn) (s : State) :
    (s.renewalRefused n).clock = s.clock := by simp [State.renewalRefused]

@[simp] theorem State.renewalRefused_metering (n : Conn) (s : State) :
    (s.renewalRefused n).metering = s.metering := by simp [State.renewalRefused]

@[simp] theorem State.renewalRefused_settlement (n : Conn) (s : State) :
    (s.renewalRefused n).settlement = s.settlement := by simp [State.renewalRefused]

@[simp] theorem State.renewalRefused_uplink (n : Conn) (s : State) :
    (s.renewalRefused n).uplink = s.uplink := by simp [State.renewalRefused]

@[simp] theorem State.renewalRefused_pending (n : Conn) (s : State) :
    (s.renewalRefused n).pending = s.pending := by simp [State.renewalRefused]

/-! ### appendRecord -/

@[simp] theorem State.appendRecord_line (r : BuiltRecord) (s : State) :
    (s.appendRecord r).line = s.line := by
  simp only [State.appendRecord]
  (repeat' split) <;> simp

@[simp] theorem State.appendRecord_classifier (r : BuiltRecord) (s : State) :
    (s.appendRecord r).classifier = s.classifier := by
  simp only [State.appendRecord]
  (repeat' split) <;> simp

@[simp] theorem State.appendRecord_sequencer (r : BuiltRecord) (s : State) :
    (s.appendRecord r).sequencer = s.sequencer := by
  simp only [State.appendRecord]
  (repeat' split) <;> simp

@[simp] theorem State.appendRecord_auth (r : BuiltRecord) (s : State) :
    (s.appendRecord r).auth = s.auth := by
  simp only [State.appendRecord]
  (repeat' split) <;> simp

@[simp] theorem State.appendRecord_sessions (r : BuiltRecord) (s : State) :
    (s.appendRecord r).sessions = s.sessions := by
  simp only [State.appendRecord]
  (repeat' split) <;> simp

@[simp] theorem State.appendRecord_tariff (r : BuiltRecord) (s : State) :
    (s.appendRecord r).tariff = s.tariff := by
  simp only [State.appendRecord]
  (repeat' split) <;> simp

@[simp] theorem State.appendRecord_clock (r : BuiltRecord) (s : State) :
    (s.appendRecord r).clock = s.clock := by
  simp only [State.appendRecord]
  (repeat' split) <;> simp

@[simp] theorem State.appendRecord_metering (r : BuiltRecord) (s : State) :
    (s.appendRecord r).metering = s.metering := by
  simp only [State.appendRecord]
  (repeat' split) <;> simp

@[simp] theorem State.appendRecord_alloc (r : BuiltRecord) (s : State) :
    (s.appendRecord r).alloc = s.alloc := by
  simp only [State.appendRecord]
  (repeat' split) <;> simp

@[simp] theorem State.appendRecord_pending (r : BuiltRecord) (s : State) :
    (s.appendRecord r).pending = s.pending := by
  simp only [State.appendRecord]
  (repeat' split) <;> simp

/-! ### releasePlan -/

@[simp] theorem State.releasePlan_line (e : Session) (s : State) :
    (s.releasePlan e).line = s.line := by
  unfold State.releasePlan
  (repeat' split) <;> simp

@[simp] theorem State.releasePlan_classifier (e : Session) (s : State) :
    (s.releasePlan e).classifier = s.classifier := by
  unfold State.releasePlan
  (repeat' split) <;> simp

@[simp] theorem State.releasePlan_sequencer (e : Session) (s : State) :
    (s.releasePlan e).sequencer = s.sequencer := by
  unfold State.releasePlan
  (repeat' split) <;> simp

@[simp] theorem State.releasePlan_auth (e : Session) (s : State) :
    (s.releasePlan e).auth = s.auth := by
  unfold State.releasePlan
  (repeat' split) <;> simp

@[simp] theorem State.releasePlan_sessions (e : Session) (s : State) :
    (s.releasePlan e).sessions = s.sessions := by
  unfold State.releasePlan
  (repeat' split) <;> simp

@[simp] theorem State.releasePlan_clock (e : Session) (s : State) :
    (s.releasePlan e).clock = s.clock := by
  unfold State.releasePlan
  (repeat' split) <;> simp

@[simp] theorem State.releasePlan_metering (e : Session) (s : State) :
    (s.releasePlan e).metering = s.metering := by
  unfold State.releasePlan
  (repeat' split) <;> simp

@[simp] theorem State.releasePlan_alloc (e : Session) (s : State) :
    (s.releasePlan e).alloc = s.alloc := by
  unfold State.releasePlan
  (repeat' split) <;> simp

@[simp] theorem State.releasePlan_settlement (e : Session) (s : State) :
    (s.releasePlan e).settlement = s.settlement := by
  unfold State.releasePlan
  (repeat' split) <;> simp

@[simp] theorem State.releasePlan_uplink (e : Session) (s : State) :
    (s.releasePlan e).uplink = s.uplink := by
  unfold State.releasePlan
  (repeat' split) <;> simp

@[simp] theorem State.releasePlan_pending (e : Session) (s : State) :
    (s.releasePlan e).pending = s.pending := by
  unfold State.releasePlan
  (repeat' split) <;> simp

/-! ### closeSession -/

@[simp] theorem State.closeSession_classifier (n : Conn) (s : State) :
    (s.closeSession n).classifier = s.classifier := by
  simp only [State.closeSession]
  (repeat' split) <;> simp

@[simp] theorem State.closeSession_sequencer (n : Conn) (s : State) :
    (s.closeSession n).sequencer = s.sequencer := by
  simp only [State.closeSession]
  (repeat' split) <;> simp

@[simp] theorem State.closeSession_auth (n : Conn) (s : State) :
    (s.closeSession n).auth = s.auth := by
  simp only [State.closeSession]
  (repeat' split) <;> simp

@[simp] theorem State.closeSession_clock (n : Conn) (s : State) :
    (s.closeSession n).clock = s.clock := by
  simp only [State.closeSession]
  (repeat' split) <;> simp

@[simp] theorem State.closeSession_metering (n : Conn) (s : State) :
    (s.closeSession n).metering = s.metering := by
  simp only [State.closeSession]
  (repeat' split) <;> simp

@[simp] theorem State.closeSession_pending (n : Conn) (s : State) :
    (s.closeSession n).pending = s.pending := by
  simp only [State.closeSession]
  (repeat' split) <;> simp

/-! ### dropHeld -/

@[simp] theorem State.dropHeld_line (n : Conn) (s : State) :
    (s.dropHeld n).line = s.line := rfl

@[simp] theorem State.dropHeld_classifier (n : Conn) (s : State) :
    (s.dropHeld n).classifier = s.classifier := rfl

@[simp] theorem State.dropHeld_sequencer (n : Conn) (s : State) :
    (s.dropHeld n).sequencer = s.sequencer := rfl

@[simp] theorem State.dropHeld_sessions (n : Conn) (s : State) :
    (s.dropHeld n).sessions = s.sessions := rfl

@[simp] theorem State.dropHeld_tariff (n : Conn) (s : State) :
    (s.dropHeld n).tariff = s.tariff := rfl

@[simp] theorem State.dropHeld_clock (n : Conn) (s : State) :
    (s.dropHeld n).clock = s.clock := rfl

@[simp] theorem State.dropHeld_metering (n : Conn) (s : State) :
    (s.dropHeld n).metering = s.metering := rfl

@[simp] theorem State.dropHeld_alloc (n : Conn) (s : State) :
    (s.dropHeld n).alloc = s.alloc := rfl

@[simp] theorem State.dropHeld_settlement (n : Conn) (s : State) :
    (s.dropHeld n).settlement = s.settlement := rfl

@[simp] theorem State.dropHeld_uplink (n : Conn) (s : State) :
    (s.dropHeld n).uplink = s.uplink := rfl

@[simp] theorem State.dropHeld_pending (n : Conn) (s : State) :
    (s.dropHeld n).pending = s.pending := rfl

/-! ### withdraw -/

@[simp] theorem State.withdraw_classifier (n : Conn) (s : State) :
    (s.withdraw n).classifier = s.classifier := by
  simp only [State.withdraw]
  split <;> simp

@[simp] theorem State.withdraw_sequencer (n : Conn) (s : State) :
    (s.withdraw n).sequencer = s.sequencer := by
  simp only [State.withdraw]
  split <;> simp

@[simp] theorem State.withdraw_tariff (n : Conn) (s : State) :
    (s.withdraw n).tariff = s.tariff := by
  simp only [State.withdraw]
  split <;> simp

@[simp] theorem State.withdraw_clock (n : Conn) (s : State) :
    (s.withdraw n).clock = s.clock := by
  simp only [State.withdraw]
  split <;> simp

@[simp] theorem State.withdraw_metering (n : Conn) (s : State) :
    (s.withdraw n).metering = s.metering := by
  simp only [State.withdraw]
  split <;> simp

@[simp] theorem State.withdraw_alloc (n : Conn) (s : State) :
    (s.withdraw n).alloc = s.alloc := by
  simp only [State.withdraw]
  split <;> simp

@[simp] theorem State.withdraw_settlement (n : Conn) (s : State) :
    (s.withdraw n).settlement = s.settlement := by
  simp only [State.withdraw]
  split <;> simp

@[simp] theorem State.withdraw_uplink (n : Conn) (s : State) :
    (s.withdraw n).uplink = s.uplink := by
  simp only [State.withdraw]
  split <;> simp

@[simp] theorem State.withdraw_pending (n : Conn) (s : State) :
    (s.withdraw n).pending = s.pending := by
  simp only [State.withdraw]
  split <;> simp

/-! ### enterOpening -/

@[simp] theorem State.enterOpening_classifier (n : Conn) (s : State) :
    (s.enterOpening n).classifier = s.classifier := by simp [State.enterOpening]

@[simp] theorem State.enterOpening_auth (n : Conn) (s : State) :
    (s.enterOpening n).auth = s.auth := by simp [State.enterOpening]

@[simp] theorem State.enterOpening_sessions (n : Conn) (s : State) :
    (s.enterOpening n).sessions = s.sessions := by simp [State.enterOpening]

@[simp] theorem State.enterOpening_tariff (n : Conn) (s : State) :
    (s.enterOpening n).tariff = s.tariff := by simp [State.enterOpening]

@[simp] theorem State.enterOpening_clock (n : Conn) (s : State) :
    (s.enterOpening n).clock = s.clock := by simp [State.enterOpening]

@[simp] theorem State.enterOpening_metering (n : Conn) (s : State) :
    (s.enterOpening n).metering = s.metering := by simp [State.enterOpening]

@[simp] theorem State.enterOpening_alloc (n : Conn) (s : State) :
    (s.enterOpening n).alloc = s.alloc := by simp [State.enterOpening]

@[simp] theorem State.enterOpening_settlement (n : Conn) (s : State) :
    (s.enterOpening n).settlement = s.settlement := by simp [State.enterOpening]

@[simp] theorem State.enterOpening_uplink (n : Conn) (s : State) :
    (s.enterOpening n).uplink = s.uplink := by simp [State.enterOpening]

@[simp] theorem State.enterOpening_pending (n : Conn) (s : State) :
    (s.enterOpening n).pending = s.pending := by simp [State.enterOpening]

/-! ### openCause -/

@[simp] theorem State.openCause_classifier (n : Conn) (s : State) :
    (s.openCause n).classifier = s.classifier := by
  simp only [State.openCause]
  (repeat' split) <;> simp

@[simp] theorem State.openCause_auth (n : Conn) (s : State) :
    (s.openCause n).auth = s.auth := by
  simp only [State.openCause]
  (repeat' split) <;> simp

@[simp] theorem State.openCause_sessions (n : Conn) (s : State) :
    (s.openCause n).sessions = s.sessions := by
  simp only [State.openCause]
  (repeat' split) <;> simp

@[simp] theorem State.openCause_tariff (n : Conn) (s : State) :
    (s.openCause n).tariff = s.tariff := by
  simp only [State.openCause]
  (repeat' split) <;> simp

@[simp] theorem State.openCause_clock (n : Conn) (s : State) :
    (s.openCause n).clock = s.clock := by
  simp only [State.openCause]
  (repeat' split) <;> simp

@[simp] theorem State.openCause_metering (n : Conn) (s : State) :
    (s.openCause n).metering = s.metering := by
  simp only [State.openCause]
  (repeat' split) <;> simp

@[simp] theorem State.openCause_alloc (n : Conn) (s : State) :
    (s.openCause n).alloc = s.alloc := by
  simp only [State.openCause]
  (repeat' split) <;> simp

@[simp] theorem State.openCause_settlement (n : Conn) (s : State) :
    (s.openCause n).settlement = s.settlement := by
  simp only [State.openCause]
  (repeat' split) <;> simp

@[simp] theorem State.openCause_uplink (n : Conn) (s : State) :
    (s.openCause n).uplink = s.uplink := by
  simp only [State.openCause]
  (repeat' split) <;> simp

@[simp] theorem State.openCause_pending (n : Conn) (s : State) :
    (s.openCause n).pending = s.pending := by
  simp only [State.openCause]
  (repeat' split) <;> simp

/-! ### beginStop -/

@[simp] theorem State.beginStop_classifier (r : EndReason) (n : Conn) (s : State) :
    (s.beginStop r n).classifier = s.classifier := by
  simp only [State.beginStop]
  split <;> simp

@[simp] theorem State.beginStop_auth (r : EndReason) (n : Conn) (s : State) :
    (s.beginStop r n).auth = s.auth := by
  simp only [State.beginStop]
  split <;> simp

@[simp] theorem State.beginStop_tariff (r : EndReason) (n : Conn) (s : State) :
    (s.beginStop r n).tariff = s.tariff := by
  simp only [State.beginStop]
  split <;> simp

@[simp] theorem State.beginStop_clock (r : EndReason) (n : Conn) (s : State) :
    (s.beginStop r n).clock = s.clock := by
  simp only [State.beginStop]
  split <;> simp

@[simp] theorem State.beginStop_metering (r : EndReason) (n : Conn) (s : State) :
    (s.beginStop r n).metering = s.metering := by
  simp only [State.beginStop]
  split <;> simp

@[simp] theorem State.beginStop_settlement (r : EndReason) (n : Conn) (s : State) :
    (s.beginStop r n).settlement = s.settlement := by
  simp only [State.beginStop]
  split <;> simp

@[simp] theorem State.beginStop_uplink (r : EndReason) (n : Conn) (s : State) :
    (s.beginStop r n).uplink = s.uplink := by
  simp only [State.beginStop]
  split <;> simp

@[simp] theorem State.beginStop_pending (r : EndReason) (n : Conn) (s : State) :
    (s.beginStop r n).pending = s.pending := by
  simp only [State.beginStop]
  split <;> simp

/-! ### stopCause -/

@[simp] theorem State.stopCause_classifier (r : EndReason) (n : Conn) (s : State) :
    (s.stopCause r n).classifier = s.classifier := by
  unfold State.stopCause
  (repeat' split) <;> simp

@[simp] theorem State.stopCause_tariff (r : EndReason) (n : Conn) (s : State) :
    (s.stopCause r n).tariff = s.tariff := by
  unfold State.stopCause
  (repeat' split) <;> simp

@[simp] theorem State.stopCause_clock (r : EndReason) (n : Conn) (s : State) :
    (s.stopCause r n).clock = s.clock := by
  unfold State.stopCause
  (repeat' split) <;> simp

@[simp] theorem State.stopCause_metering (r : EndReason) (n : Conn) (s : State) :
    (s.stopCause r n).metering = s.metering := by
  unfold State.stopCause
  (repeat' split) <;> simp

@[simp] theorem State.stopCause_settlement (r : EndReason) (n : Conn) (s : State) :
    (s.stopCause r n).settlement = s.settlement := by
  unfold State.stopCause
  (repeat' split) <;> simp

@[simp] theorem State.stopCause_uplink (r : EndReason) (n : Conn) (s : State) :
    (s.stopCause r n).uplink = s.uplink := by
  unfold State.stopCause
  (repeat' split) <;> simp

@[simp] theorem State.stopCause_pending (r : EndReason) (n : Conn) (s : State) :
    (s.stopCause r n).pending = s.pending := by
  unfold State.stopCause
  (repeat' split) <;> simp

/-! ### budgetCheck -/

@[simp] theorem State.budgetCheck_classifier (n : Conn) (s : State) :
    (s.budgetCheck n).classifier = s.classifier := by
  simp only [State.budgetCheck]
  (repeat' split) <;> simp

@[simp] theorem State.budgetCheck_tariff (n : Conn) (s : State) :
    (s.budgetCheck n).tariff = s.tariff := by
  simp only [State.budgetCheck]
  (repeat' split) <;> simp

@[simp] theorem State.budgetCheck_clock (n : Conn) (s : State) :
    (s.budgetCheck n).clock = s.clock := by
  simp only [State.budgetCheck]
  (repeat' split) <;> simp

@[simp] theorem State.budgetCheck_metering (n : Conn) (s : State) :
    (s.budgetCheck n).metering = s.metering := by
  simp only [State.budgetCheck]
  (repeat' split) <;> simp

@[simp] theorem State.budgetCheck_settlement (n : Conn) (s : State) :
    (s.budgetCheck n).settlement = s.settlement := by
  simp only [State.budgetCheck]
  (repeat' split) <;> simp

@[simp] theorem State.budgetCheck_uplink (n : Conn) (s : State) :
    (s.budgetCheck n).uplink = s.uplink := by
  simp only [State.budgetCheck]
  (repeat' split) <;> simp

@[simp] theorem State.budgetCheck_pending (n : Conn) (s : State) :
    (s.budgetCheck n).pending = s.pending := by
  simp only [State.budgetCheck]
  (repeat' split) <;> simp

/-! ### raiseIf -/

@[simp] theorem State.raiseIf_line (c : Bool) (k : EventKind) (s : State) :
    (s.raiseIf c k).line = s.line := by
  unfold State.raiseIf
  (repeat' split) <;> simp

@[simp] theorem State.raiseIf_classifier (c : Bool) (k : EventKind) (s : State) :
    (s.raiseIf c k).classifier = s.classifier := by
  unfold State.raiseIf
  (repeat' split) <;> simp

@[simp] theorem State.raiseIf_sequencer (c : Bool) (k : EventKind) (s : State) :
    (s.raiseIf c k).sequencer = s.sequencer := by
  unfold State.raiseIf
  (repeat' split) <;> simp

@[simp] theorem State.raiseIf_auth (c : Bool) (k : EventKind) (s : State) :
    (s.raiseIf c k).auth = s.auth := by
  unfold State.raiseIf
  (repeat' split) <;> simp

@[simp] theorem State.raiseIf_sessions (c : Bool) (k : EventKind) (s : State) :
    (s.raiseIf c k).sessions = s.sessions := by
  unfold State.raiseIf
  (repeat' split) <;> simp

@[simp] theorem State.raiseIf_tariff (c : Bool) (k : EventKind) (s : State) :
    (s.raiseIf c k).tariff = s.tariff := by
  unfold State.raiseIf
  (repeat' split) <;> simp

@[simp] theorem State.raiseIf_clock (c : Bool) (k : EventKind) (s : State) :
    (s.raiseIf c k).clock = s.clock := by
  unfold State.raiseIf
  (repeat' split) <;> simp

@[simp] theorem State.raiseIf_metering (c : Bool) (k : EventKind) (s : State) :
    (s.raiseIf c k).metering = s.metering := by
  unfold State.raiseIf
  (repeat' split) <;> simp

@[simp] theorem State.raiseIf_alloc (c : Bool) (k : EventKind) (s : State) :
    (s.raiseIf c k).alloc = s.alloc := by
  unfold State.raiseIf
  (repeat' split) <;> simp

@[simp] theorem State.raiseIf_settlement (c : Bool) (k : EventKind) (s : State) :
    (s.raiseIf c k).settlement = s.settlement := by
  unfold State.raiseIf
  (repeat' split) <;> simp

@[simp] theorem State.raiseIf_pending (c : Bool) (k : EventKind) (s : State) :
    (s.raiseIf c k).pending = s.pending := by
  unfold State.raiseIf
  (repeat' split) <;> simp

/-! ### deliverReading -/

@[simp] theorem State.deliverReading_classifier (n : Conn) (r : ConnReport) (s : State) :
    (s.deliverReading n r).classifier = s.classifier := by
  simp only [State.deliverReading]
  (repeat' split) <;> simp

@[simp] theorem State.deliverReading_tariff (n : Conn) (r : ConnReport) (s : State) :
    (s.deliverReading n r).tariff = s.tariff := by
  simp only [State.deliverReading]
  (repeat' split) <;> simp

@[simp] theorem State.deliverReading_clock (n : Conn) (r : ConnReport) (s : State) :
    (s.deliverReading n r).clock = s.clock := by
  simp only [State.deliverReading]
  (repeat' split) <;> simp

@[simp] theorem State.deliverReading_metering (n : Conn) (r : ConnReport) (s : State) :
    (s.deliverReading n r).metering = s.metering := by
  simp only [State.deliverReading]
  (repeat' split) <;> simp

@[simp] theorem State.deliverReading_settlement (n : Conn) (r : ConnReport) (s : State) :
    (s.deliverReading n r).settlement = s.settlement := by
  simp only [State.deliverReading]
  (repeat' split) <;> simp

@[simp] theorem State.deliverReading_pending (n : Conn) (r : ConnReport) (s : State) :
    (s.deliverReading n r).pending = s.pending := by
  simp only [State.deliverReading]
  (repeat' split) <;> simp

/-! ### idleMinute -/

@[simp] theorem State.idleMinute_classifier (n : Conn) (s : State) :
    (s.idleMinute n).classifier = s.classifier := by
  simp only [State.idleMinute]
  (repeat' split) <;> simp

@[simp] theorem State.idleMinute_tariff (n : Conn) (s : State) :
    (s.idleMinute n).tariff = s.tariff := by
  simp only [State.idleMinute]
  (repeat' split) <;> simp

@[simp] theorem State.idleMinute_clock (n : Conn) (s : State) :
    (s.idleMinute n).clock = s.clock := by
  simp only [State.idleMinute]
  (repeat' split) <;> simp

@[simp] theorem State.idleMinute_metering (n : Conn) (s : State) :
    (s.idleMinute n).metering = s.metering := by
  simp only [State.idleMinute]
  (repeat' split) <;> simp

@[simp] theorem State.idleMinute_settlement (n : Conn) (s : State) :
    (s.idleMinute n).settlement = s.settlement := by
  simp only [State.idleMinute]
  (repeat' split) <;> simp

@[simp] theorem State.idleMinute_uplink (n : Conn) (s : State) :
    (s.idleMinute n).uplink = s.uplink := by
  simp only [State.idleMinute]
  (repeat' split) <;> simp

@[simp] theorem State.idleMinute_pending (n : Conn) (s : State) :
    (s.idleMinute n).pending = s.pending := by
  simp only [State.idleMinute]
  (repeat' split) <;> simp

/-! ### enterFaulted -/

@[simp] theorem State.enterFaulted_classifier (n : Conn) (k : FaultKind) (s : State) :
    (s.enterFaulted n k).classifier = s.classifier := by
  simp only [State.enterFaulted]
  split <;> simp

@[simp] theorem State.enterFaulted_tariff (n : Conn) (k : FaultKind) (s : State) :
    (s.enterFaulted n k).tariff = s.tariff := by
  simp only [State.enterFaulted]
  split <;> simp

@[simp] theorem State.enterFaulted_clock (n : Conn) (k : FaultKind) (s : State) :
    (s.enterFaulted n k).clock = s.clock := by
  simp only [State.enterFaulted]
  split <;> simp

@[simp] theorem State.enterFaulted_metering (n : Conn) (k : FaultKind) (s : State) :
    (s.enterFaulted n k).metering = s.metering := by
  simp only [State.enterFaulted]
  split <;> simp

@[simp] theorem State.enterFaulted_settlement (n : Conn) (k : FaultKind) (s : State) :
    (s.enterFaulted n k).settlement = s.settlement := by
  simp only [State.enterFaulted]
  split <;> simp

@[simp] theorem State.enterFaulted_pending (n : Conn) (k : FaultKind) (s : State) :
    (s.enterFaulted n k).pending = s.pending := by
  simp only [State.enterFaulted]
  split <;> simp

/-! ### closeNak -/

@[simp] theorem State.closeNak_classifier (n : Conn) (fuel : Nat) (s : State) :
    (s.closeNak n fuel).classifier = s.classifier := by
  induction fuel generalizing s with
  | zero => rfl
  | succ fuel ih =>
    simp only [State.closeNak]
    (repeat' split) <;> simp [ih]

@[simp] theorem State.closeNak_tariff (n : Conn) (fuel : Nat) (s : State) :
    (s.closeNak n fuel).tariff = s.tariff := by
  induction fuel generalizing s with
  | zero => rfl
  | succ fuel ih =>
    simp only [State.closeNak]
    (repeat' split) <;> simp [ih]

@[simp] theorem State.closeNak_clock (n : Conn) (fuel : Nat) (s : State) :
    (s.closeNak n fuel).clock = s.clock := by
  induction fuel generalizing s with
  | zero => rfl
  | succ fuel ih =>
    simp only [State.closeNak]
    (repeat' split) <;> simp [ih]

@[simp] theorem State.closeNak_metering (n : Conn) (fuel : Nat) (s : State) :
    (s.closeNak n fuel).metering = s.metering := by
  induction fuel generalizing s with
  | zero => rfl
  | succ fuel ih =>
    simp only [State.closeNak]
    (repeat' split) <;> simp [ih]

@[simp] theorem State.closeNak_settlement (n : Conn) (fuel : Nat) (s : State) :
    (s.closeNak n fuel).settlement = s.settlement := by
  induction fuel generalizing s with
  | zero => rfl
  | succ fuel ih =>
    simp only [State.closeNak]
    (repeat' split) <;> simp [ih]

@[simp] theorem State.closeNak_pending (n : Conn) (fuel : Nat) (s : State) :
    (s.closeNak n fuel).pending = s.pending := by
  induction fuel generalizing s with
  | zero => rfl
  | succ fuel ih =>
    simp only [State.closeNak]
    (repeat' split) <;> simp [ih]

/-! ### offerClose -/

@[simp] theorem State.offerClose_classifier (n : Conn) (s : State) :
    (s.offerClose n).classifier = s.classifier := by
  unfold State.offerClose
  (repeat' split) <;> simp

@[simp] theorem State.offerClose_tariff (n : Conn) (s : State) :
    (s.offerClose n).tariff = s.tariff := by
  unfold State.offerClose
  (repeat' split) <;> simp

@[simp] theorem State.offerClose_clock (n : Conn) (s : State) :
    (s.offerClose n).clock = s.clock := by
  unfold State.offerClose
  (repeat' split) <;> simp

@[simp] theorem State.offerClose_metering (n : Conn) (s : State) :
    (s.offerClose n).metering = s.metering := by
  unfold State.offerClose
  (repeat' split) <;> simp

@[simp] theorem State.offerClose_settlement (n : Conn) (s : State) :
    (s.offerClose n).settlement = s.settlement := by
  unfold State.offerClose
  (repeat' split) <;> simp

@[simp] theorem State.offerClose_pending (n : Conn) (s : State) :
    (s.offerClose n).pending = s.pending := by
  unfold State.offerClose
  (repeat' split) <;> simp

/-! ### closeAck -/

@[simp] theorem State.closeAck_classifier (n : Conn) (s : State) :
    (s.closeAck n).classifier = s.classifier := by
  simp only [State.closeAck]
  (repeat' split) <;> simp

@[simp] theorem State.closeAck_auth (n : Conn) (s : State) :
    (s.closeAck n).auth = s.auth := by
  simp only [State.closeAck]
  (repeat' split) <;> simp

@[simp] theorem State.closeAck_sessions (n : Conn) (s : State) :
    (s.closeAck n).sessions = s.sessions := by
  simp only [State.closeAck]
  (repeat' split) <;> simp

@[simp] theorem State.closeAck_tariff (n : Conn) (s : State) :
    (s.closeAck n).tariff = s.tariff := by
  simp only [State.closeAck]
  (repeat' split) <;> simp

@[simp] theorem State.closeAck_clock (n : Conn) (s : State) :
    (s.closeAck n).clock = s.clock := by
  simp only [State.closeAck]
  (repeat' split) <;> simp

@[simp] theorem State.closeAck_metering (n : Conn) (s : State) :
    (s.closeAck n).metering = s.metering := by
  simp only [State.closeAck]
  (repeat' split) <;> simp

@[simp] theorem State.closeAck_alloc (n : Conn) (s : State) :
    (s.closeAck n).alloc = s.alloc := by
  simp only [State.closeAck]
  (repeat' split) <;> simp

@[simp] theorem State.closeAck_settlement (n : Conn) (s : State) :
    (s.closeAck n).settlement = s.settlement := by
  simp only [State.closeAck]
  (repeat' split) <;> simp

@[simp] theorem State.closeAck_uplink (n : Conn) (s : State) :
    (s.closeAck n).uplink = s.uplink := by
  simp only [State.closeAck]
  (repeat' split) <;> simp

@[simp] theorem State.closeAck_pending (n : Conn) (s : State) :
    (s.closeAck n).pending = s.pending := by
  simp only [State.closeAck]
  (repeat' split) <;> simp

/-! ### testClose -/

@[simp] theorem State.testClose_classifier (n : Conn) (s : State) :
    (s.testClose n).classifier = s.classifier := by
  unfold State.testClose
  (repeat' split) <;> simp

@[simp] theorem State.testClose_tariff (n : Conn) (s : State) :
    (s.testClose n).tariff = s.tariff := by
  unfold State.testClose
  (repeat' split) <;> simp

@[simp] theorem State.testClose_clock (n : Conn) (s : State) :
    (s.testClose n).clock = s.clock := by
  unfold State.testClose
  (repeat' split) <;> simp

@[simp] theorem State.testClose_metering (n : Conn) (s : State) :
    (s.testClose n).metering = s.metering := by
  unfold State.testClose
  (repeat' split) <;> simp

@[simp] theorem State.testClose_settlement (n : Conn) (s : State) :
    (s.testClose n).settlement = s.settlement := by
  unfold State.testClose
  (repeat' split) <;> simp

@[simp] theorem State.testClose_pending (n : Conn) (s : State) :
    (s.testClose n).pending = s.pending := by
  unfold State.testClose
  (repeat' split) <;> simp

/-! ### enterOpen -/

@[simp] theorem State.enterOpen_classifier (n : Conn) (s : State) :
    (s.enterOpen n).classifier = s.classifier := by simp [State.enterOpen]

@[simp] theorem State.enterOpen_tariff (n : Conn) (s : State) :
    (s.enterOpen n).tariff = s.tariff := by simp [State.enterOpen]

@[simp] theorem State.enterOpen_clock (n : Conn) (s : State) :
    (s.enterOpen n).clock = s.clock := by simp [State.enterOpen]

@[simp] theorem State.enterOpen_metering (n : Conn) (s : State) :
    (s.enterOpen n).metering = s.metering := by simp [State.enterOpen]

@[simp] theorem State.enterOpen_settlement (n : Conn) (s : State) :
    (s.enterOpen n).settlement = s.settlement := by simp [State.enterOpen]

@[simp] theorem State.enterOpen_pending (n : Conn) (s : State) :
    (s.enterOpen n).pending = s.pending := by simp [State.enterOpen]

/-! ### enterClosed -/

@[simp] theorem State.enterClosed_classifier (n : Conn) (s : State) :
    (s.enterClosed n).classifier = s.classifier := by
  simp only [State.enterClosed]
  split <;> simp

@[simp] theorem State.enterClosed_tariff (n : Conn) (s : State) :
    (s.enterClosed n).tariff = s.tariff := by
  simp only [State.enterClosed]
  split <;> simp

@[simp] theorem State.enterClosed_clock (n : Conn) (s : State) :
    (s.enterClosed n).clock = s.clock := by
  simp only [State.enterClosed]
  split <;> simp

@[simp] theorem State.enterClosed_metering (n : Conn) (s : State) :
    (s.enterClosed n).metering = s.metering := by
  simp only [State.enterClosed]
  split <;> simp

@[simp] theorem State.enterClosed_settlement (n : Conn) (s : State) :
    (s.enterClosed n).settlement = s.settlement := by
  simp only [State.enterClosed]
  split <;> simp

@[simp] theorem State.enterClosed_uplink (n : Conn) (s : State) :
    (s.enterClosed n).uplink = s.uplink := by
  simp only [State.enterClosed]
  split <;> simp

@[simp] theorem State.enterClosed_pending (n : Conn) (s : State) :
    (s.enterClosed n).pending = s.pending := by
  simp only [State.enterClosed]
  split <;> simp

/-! ### addLock -/

@[simp] theorem State.addLock_classifier (n : Conn) (l : LockSource) (s : State) :
    (s.addLock n l).classifier = s.classifier := by
  simp only [State.addLock]
  (repeat' split) <;> simp

@[simp] theorem State.addLock_tariff (n : Conn) (l : LockSource) (s : State) :
    (s.addLock n l).tariff = s.tariff := by
  simp only [State.addLock]
  (repeat' split) <;> simp

@[simp] theorem State.addLock_clock (n : Conn) (l : LockSource) (s : State) :
    (s.addLock n l).clock = s.clock := by
  simp only [State.addLock]
  (repeat' split) <;> simp

@[simp] theorem State.addLock_metering (n : Conn) (l : LockSource) (s : State) :
    (s.addLock n l).metering = s.metering := by
  simp only [State.addLock]
  (repeat' split) <;> simp

@[simp] theorem State.addLock_settlement (n : Conn) (l : LockSource) (s : State) :
    (s.addLock n l).settlement = s.settlement := by
  simp only [State.addLock]
  (repeat' split) <;> simp

@[simp] theorem State.addLock_uplink (n : Conn) (l : LockSource) (s : State) :
    (s.addLock n l).uplink = s.uplink := by
  simp only [State.addLock]
  (repeat' split) <;> simp

@[simp] theorem State.addLock_pending (n : Conn) (l : LockSource) (s : State) :
    (s.addLock n l).pending = s.pending := by
  simp only [State.addLock]
  (repeat' split) <;> simp

/-! ### removeLock -/

@[simp] theorem State.removeLock_classifier (n : Conn) (l : LockSource) (s : State) :
    (s.removeLock n l).classifier = s.classifier := by
  simp only [State.removeLock]
  split <;> simp

@[simp] theorem State.removeLock_tariff (n : Conn) (l : LockSource) (s : State) :
    (s.removeLock n l).tariff = s.tariff := by
  simp only [State.removeLock]
  split <;> simp

@[simp] theorem State.removeLock_clock (n : Conn) (l : LockSource) (s : State) :
    (s.removeLock n l).clock = s.clock := by
  simp only [State.removeLock]
  split <;> simp

@[simp] theorem State.removeLock_metering (n : Conn) (l : LockSource) (s : State) :
    (s.removeLock n l).metering = s.metering := by
  simp only [State.removeLock]
  split <;> simp

@[simp] theorem State.removeLock_settlement (n : Conn) (l : LockSource) (s : State) :
    (s.removeLock n l).settlement = s.settlement := by
  simp only [State.removeLock]
  split <;> simp

@[simp] theorem State.removeLock_pending (n : Conn) (l : LockSource) (s : State) :
    (s.removeLock n l).pending = s.pending := by
  simp only [State.removeLock]
  split <;> simp

/-! ### testReclose -/

@[simp] theorem State.testReclose_classifier (n : Conn) (r : ConnReport) (s : State) :
    (s.testReclose n r).classifier = s.classifier := by
  unfold State.testReclose
  (repeat' split) <;> simp

@[simp] theorem State.testReclose_tariff (n : Conn) (r : ConnReport) (s : State) :
    (s.testReclose n r).tariff = s.tariff := by
  unfold State.testReclose
  (repeat' split) <;> simp

@[simp] theorem State.testReclose_clock (n : Conn) (r : ConnReport) (s : State) :
    (s.testReclose n r).clock = s.clock := by
  unfold State.testReclose
  (repeat' split) <;> simp

@[simp] theorem State.testReclose_metering (n : Conn) (r : ConnReport) (s : State) :
    (s.testReclose n r).metering = s.metering := by
  unfold State.testReclose
  (repeat' split) <;> simp

@[simp] theorem State.testReclose_settlement (n : Conn) (r : ConnReport) (s : State) :
    (s.testReclose n r).settlement = s.settlement := by
  unfold State.testReclose
  (repeat' split) <;> simp

@[simp] theorem State.testReclose_pending (n : Conn) (r : ConnReport) (s : State) :
    (s.testReclose n r).pending = s.pending := by
  unfold State.testReclose
  (repeat' split) <;> simp

/-! ### replyOpened -/

@[simp] theorem State.replyOpened_classifier (n : Conn) (r : ConnReport) (s : State) :
    (s.replyOpened n r).classifier = s.classifier := by
  unfold State.replyOpened
  (repeat' split) <;> simp

@[simp] theorem State.replyOpened_tariff (n : Conn) (r : ConnReport) (s : State) :
    (s.replyOpened n r).tariff = s.tariff := by
  unfold State.replyOpened
  (repeat' split) <;> simp

@[simp] theorem State.replyOpened_clock (n : Conn) (r : ConnReport) (s : State) :
    (s.replyOpened n r).clock = s.clock := by
  unfold State.replyOpened
  (repeat' split) <;> simp

@[simp] theorem State.replyOpened_metering (n : Conn) (r : ConnReport) (s : State) :
    (s.replyOpened n r).metering = s.metering := by
  unfold State.replyOpened
  (repeat' split) <;> simp

@[simp] theorem State.replyOpened_settlement (n : Conn) (r : ConnReport) (s : State) :
    (s.replyOpened n r).settlement = s.settlement := by
  unfold State.replyOpened
  (repeat' split) <;> simp

@[simp] theorem State.replyOpened_pending (n : Conn) (r : ConnReport) (s : State) :
    (s.replyOpened n r).pending = s.pending := by
  unfold State.replyOpened
  (repeat' split) <;> simp

/-! ### replyVerifying -/

@[simp] theorem State.replyVerifying_classifier (n : Conn) (r : ConnReport) (s : State) :
    (s.replyVerifying n r).classifier = s.classifier := by
  simp only [State.replyVerifying]
  (repeat' split) <;> simp

@[simp] theorem State.replyVerifying_tariff (n : Conn) (r : ConnReport) (s : State) :
    (s.replyVerifying n r).tariff = s.tariff := by
  simp only [State.replyVerifying]
  (repeat' split) <;> simp

@[simp] theorem State.replyVerifying_clock (n : Conn) (r : ConnReport) (s : State) :
    (s.replyVerifying n r).clock = s.clock := by
  simp only [State.replyVerifying]
  (repeat' split) <;> simp

@[simp] theorem State.replyVerifying_metering (n : Conn) (r : ConnReport) (s : State) :
    (s.replyVerifying n r).metering = s.metering := by
  simp only [State.replyVerifying]
  (repeat' split) <;> simp

@[simp] theorem State.replyVerifying_settlement (n : Conn) (r : ConnReport) (s : State) :
    (s.replyVerifying n r).settlement = s.settlement := by
  simp only [State.replyVerifying]
  (repeat' split) <;> simp

@[simp] theorem State.replyVerifying_pending (n : Conn) (r : ConnReport) (s : State) :
    (s.replyVerifying n r).pending = s.pending := by
  simp only [State.replyVerifying]
  (repeat' split) <;> simp

/-! ### replyClosed -/

@[simp] theorem State.replyClosed_classifier (n : Conn) (r : ConnReport) (s : State) :
    (s.replyClosed n r).classifier = s.classifier := by
  simp only [State.replyClosed]
  (repeat' split) <;> simp

@[simp] theorem State.replyClosed_tariff (n : Conn) (r : ConnReport) (s : State) :
    (s.replyClosed n r).tariff = s.tariff := by
  simp only [State.replyClosed]
  (repeat' split) <;> simp

@[simp] theorem State.replyClosed_clock (n : Conn) (r : ConnReport) (s : State) :
    (s.replyClosed n r).clock = s.clock := by
  simp only [State.replyClosed]
  (repeat' split) <;> simp

@[simp] theorem State.replyClosed_metering (n : Conn) (r : ConnReport) (s : State) :
    (s.replyClosed n r).metering = s.metering := by
  simp only [State.replyClosed]
  (repeat' split) <;> simp

@[simp] theorem State.replyClosed_settlement (n : Conn) (r : ConnReport) (s : State) :
    (s.replyClosed n r).settlement = s.settlement := by
  simp only [State.replyClosed]
  (repeat' split) <;> simp

@[simp] theorem State.replyClosed_pending (n : Conn) (r : ConnReport) (s : State) :
    (s.replyClosed n r).pending = s.pending := by
  simp only [State.replyClosed]
  (repeat' split) <;> simp

/-! ### replyOpening -/

@[simp] theorem State.replyOpening_classifier (n : Conn) (r : ConnReport) (s : State) :
    (s.replyOpening n r).classifier = s.classifier := by
  simp only [State.replyOpening]
  (repeat' split) <;> simp

@[simp] theorem State.replyOpening_tariff (n : Conn) (r : ConnReport) (s : State) :
    (s.replyOpening n r).tariff = s.tariff := by
  simp only [State.replyOpening]
  (repeat' split) <;> simp

@[simp] theorem State.replyOpening_clock (n : Conn) (r : ConnReport) (s : State) :
    (s.replyOpening n r).clock = s.clock := by
  simp only [State.replyOpening]
  (repeat' split) <;> simp

@[simp] theorem State.replyOpening_metering (n : Conn) (r : ConnReport) (s : State) :
    (s.replyOpening n r).metering = s.metering := by
  simp only [State.replyOpening]
  (repeat' split) <;> simp

@[simp] theorem State.replyOpening_settlement (n : Conn) (r : ConnReport) (s : State) :
    (s.replyOpening n r).settlement = s.settlement := by
  simp only [State.replyOpening]
  (repeat' split) <;> simp

@[simp] theorem State.replyOpening_pending (n : Conn) (r : ConnReport) (s : State) :
    (s.replyOpening n r).pending = s.pending := by
  simp only [State.replyOpening]
  (repeat' split) <;> simp

/-! ### replyContact -/

@[simp] theorem State.replyContact_classifier (n : Conn) (r : ConnReport) (s : State) :
    (s.replyContact n r).classifier = s.classifier := by
  unfold State.replyContact
  (repeat' split) <;> simp

@[simp] theorem State.replyContact_tariff (n : Conn) (r : ConnReport) (s : State) :
    (s.replyContact n r).tariff = s.tariff := by
  unfold State.replyContact
  (repeat' split) <;> simp

@[simp] theorem State.replyContact_clock (n : Conn) (r : ConnReport) (s : State) :
    (s.replyContact n r).clock = s.clock := by
  unfold State.replyContact
  (repeat' split) <;> simp

@[simp] theorem State.replyContact_metering (n : Conn) (r : ConnReport) (s : State) :
    (s.replyContact n r).metering = s.metering := by
  unfold State.replyContact
  (repeat' split) <;> simp

@[simp] theorem State.replyContact_settlement (n : Conn) (r : ConnReport) (s : State) :
    (s.replyContact n r).settlement = s.settlement := by
  unfold State.replyContact
  (repeat' split) <;> simp

@[simp] theorem State.replyContact_pending (n : Conn) (r : ConnReport) (s : State) :
    (s.replyContact n r).pending = s.pending := by
  unfold State.replyContact
  (repeat' split) <;> simp

/-! ### openAcked -/

@[simp] theorem State.openAcked_line (n : Conn) (s : State) :
    (s.openAcked n).line = s.line := by
  unfold State.openAcked
  (repeat' split) <;> simp

@[simp] theorem State.openAcked_classifier (n : Conn) (s : State) :
    (s.openAcked n).classifier = s.classifier := by
  unfold State.openAcked
  (repeat' split) <;> simp

@[simp] theorem State.openAcked_auth (n : Conn) (s : State) :
    (s.openAcked n).auth = s.auth := by
  unfold State.openAcked
  (repeat' split) <;> simp

@[simp] theorem State.openAcked_sessions (n : Conn) (s : State) :
    (s.openAcked n).sessions = s.sessions := by
  unfold State.openAcked
  (repeat' split) <;> simp

@[simp] theorem State.openAcked_tariff (n : Conn) (s : State) :
    (s.openAcked n).tariff = s.tariff := by
  unfold State.openAcked
  (repeat' split) <;> simp

@[simp] theorem State.openAcked_clock (n : Conn) (s : State) :
    (s.openAcked n).clock = s.clock := by
  unfold State.openAcked
  (repeat' split) <;> simp

@[simp] theorem State.openAcked_metering (n : Conn) (s : State) :
    (s.openAcked n).metering = s.metering := by
  unfold State.openAcked
  (repeat' split) <;> simp

@[simp] theorem State.openAcked_alloc (n : Conn) (s : State) :
    (s.openAcked n).alloc = s.alloc := by
  unfold State.openAcked
  (repeat' split) <;> simp

@[simp] theorem State.openAcked_settlement (n : Conn) (s : State) :
    (s.openAcked n).settlement = s.settlement := by
  unfold State.openAcked
  (repeat' split) <;> simp

@[simp] theorem State.openAcked_uplink (n : Conn) (s : State) :
    (s.openAcked n).uplink = s.uplink := by
  unfold State.openAcked
  (repeat' split) <;> simp

@[simp] theorem State.openAcked_pending (n : Conn) (s : State) :
    (s.openAcked n).pending = s.pending := by
  unfold State.openAcked
  (repeat' split) <;> simp

/-! ### accept -/

@[simp] theorem State.accept_classifier (n : Conn) (a : Acceptance) (s : State) :
    (s.accept n a).classifier = s.classifier := by simp [State.accept]

@[simp] theorem State.accept_clock (n : Conn) (a : Acceptance) (s : State) :
    (s.accept n a).clock = s.clock := by simp [State.accept]

@[simp] theorem State.accept_metering (n : Conn) (a : Acceptance) (s : State) :
    (s.accept n a).metering = s.metering := by simp [State.accept]

@[simp] theorem State.accept_settlement (n : Conn) (a : Acceptance) (s : State) :
    (s.accept n a).settlement = s.settlement := by simp [State.accept]

@[simp] theorem State.accept_pending (n : Conn) (a : Acceptance) (s : State) :
    (s.accept n a).pending = s.pending := by simp [State.accept]

/-! ### refuse -/

@[simp] theorem State.refuse_classifier (n : Conn) (w : RefuseReason) (b : Bool) (s : State) :
    (s.refuse n w b).classifier = s.classifier := by
  simp only [State.refuse]
  (repeat' split) <;> simp

@[simp] theorem State.refuse_sequencer (n : Conn) (w : RefuseReason) (b : Bool) (s : State) :
    (s.refuse n w b).sequencer = s.sequencer := by
  simp only [State.refuse]
  (repeat' split) <;> simp

@[simp] theorem State.refuse_tariff (n : Conn) (w : RefuseReason) (b : Bool) (s : State) :
    (s.refuse n w b).tariff = s.tariff := by
  simp only [State.refuse]
  (repeat' split) <;> simp

@[simp] theorem State.refuse_clock (n : Conn) (w : RefuseReason) (b : Bool) (s : State) :
    (s.refuse n w b).clock = s.clock := by
  simp only [State.refuse]
  (repeat' split) <;> simp

@[simp] theorem State.refuse_metering (n : Conn) (w : RefuseReason) (b : Bool) (s : State) :
    (s.refuse n w b).metering = s.metering := by
  simp only [State.refuse]
  (repeat' split) <;> simp

@[simp] theorem State.refuse_alloc (n : Conn) (w : RefuseReason) (b : Bool) (s : State) :
    (s.refuse n w b).alloc = s.alloc := by
  simp only [State.refuse]
  (repeat' split) <;> simp

@[simp] theorem State.refuse_settlement (n : Conn) (w : RefuseReason) (b : Bool) (s : State) :
    (s.refuse n w b).settlement = s.settlement := by
  simp only [State.refuse]
  (repeat' split) <;> simp

@[simp] theorem State.refuse_uplink (n : Conn) (w : RefuseReason) (b : Bool) (s : State) :
    (s.refuse n w b).uplink = s.uplink := by
  simp only [State.refuse]
  (repeat' split) <;> simp

@[simp] theorem State.refuse_pending (n : Conn) (w : RefuseReason) (b : Bool) (s : State) :
    (s.refuse n w b).pending = s.pending := by
  simp only [State.refuse]
  (repeat' split) <;> simp

/-! ### acceptOrRefuse -/

@[simp] theorem State.acceptOrRefuse_classifier (n : Conn) (a : Acceptance) (b : Bool) (s : State) :
    (s.acceptOrRefuse n a b).classifier = s.classifier := by
  unfold State.acceptOrRefuse
  (repeat' split) <;> simp

@[simp] theorem State.acceptOrRefuse_clock (n : Conn) (a : Acceptance) (b : Bool) (s : State) :
    (s.acceptOrRefuse n a b).clock = s.clock := by
  unfold State.acceptOrRefuse
  (repeat' split) <;> simp

@[simp] theorem State.acceptOrRefuse_metering (n : Conn) (a : Acceptance) (b : Bool) (s : State) :
    (s.acceptOrRefuse n a b).metering = s.metering := by
  unfold State.acceptOrRefuse
  (repeat' split) <;> simp

@[simp] theorem State.acceptOrRefuse_settlement (n : Conn) (a : Acceptance) (b : Bool) (s : State) :
    (s.acceptOrRefuse n a b).settlement = s.settlement := by
  unfold State.acceptOrRefuse
  (repeat' split) <;> simp

@[simp] theorem State.acceptOrRefuse_pending (n : Conn) (a : Acceptance) (b : Bool) (s : State) :
    (s.acceptOrRefuse n a b).pending = s.pending := by
  unfold State.acceptOrRefuse
  (repeat' split) <;> simp

/-! ### offlineRule -/

@[simp] theorem State.offlineRule_classifier (n : Conn) (t : Token) (o : Option Byte) (s : State) :
    (s.offlineRule n t o).classifier = s.classifier := by
  simp only [State.offlineRule]
  (repeat' split) <;> simp

@[simp] theorem State.offlineRule_clock (n : Conn) (t : Token) (o : Option Byte) (s : State) :
    (s.offlineRule n t o).clock = s.clock := by
  simp only [State.offlineRule]
  (repeat' split) <;> simp

@[simp] theorem State.offlineRule_metering (n : Conn) (t : Token) (o : Option Byte) (s : State) :
    (s.offlineRule n t o).metering = s.metering := by
  simp only [State.offlineRule]
  (repeat' split) <;> simp

@[simp] theorem State.offlineRule_settlement (n : Conn) (t : Token) (o : Option Byte) (s : State) :
    (s.offlineRule n t o).settlement = s.settlement := by
  simp only [State.offlineRule]
  (repeat' split) <;> simp

@[simp] theorem State.offlineRule_pending (n : Conn) (t : Token) (o : Option Byte) (s : State) :
    (s.offlineRule n t o).pending = s.pending := by
  simp only [State.offlineRule]
  (repeat' split) <;> simp

/-! ### openQuery -/

@[simp] theorem State.openQuery_classifier (n : Conn) (t : Token) (w : QueryReason) (s : State) :
    (s.openQuery n t w).classifier = s.classifier := by simp [State.openQuery]

@[simp] theorem State.openQuery_sequencer (n : Conn) (t : Token) (w : QueryReason) (s : State) :
    (s.openQuery n t w).sequencer = s.sequencer := by simp [State.openQuery]

@[simp] theorem State.openQuery_tariff (n : Conn) (t : Token) (w : QueryReason) (s : State) :
    (s.openQuery n t w).tariff = s.tariff := by simp [State.openQuery]

@[simp] theorem State.openQuery_clock (n : Conn) (t : Token) (w : QueryReason) (s : State) :
    (s.openQuery n t w).clock = s.clock := by simp [State.openQuery]

@[simp] theorem State.openQuery_metering (n : Conn) (t : Token) (w : QueryReason) (s : State) :
    (s.openQuery n t w).metering = s.metering := by simp [State.openQuery]

@[simp] theorem State.openQuery_alloc (n : Conn) (t : Token) (w : QueryReason) (s : State) :
    (s.openQuery n t w).alloc = s.alloc := by simp [State.openQuery]

@[simp] theorem State.openQuery_settlement (n : Conn) (t : Token) (w : QueryReason) (s : State) :
    (s.openQuery n t w).settlement = s.settlement := by simp [State.openQuery]

@[simp] theorem State.openQuery_uplink (n : Conn) (t : Token) (w : QueryReason) (s : State) :
    (s.openQuery n t w).uplink = s.uplink := by simp [State.openQuery]

@[simp] theorem State.openQuery_pending (n : Conn) (t : Token) (w : QueryReason) (s : State) :
    (s.openQuery n t w).pending = s.pending := by simp [State.openQuery]

/-! ### askHost -/

@[simp] theorem State.askHost_classifier (n : Conn) (t : Token) (w : QueryReason) (s : State) :
    (s.askHost n t w).classifier = s.classifier := by
  unfold State.askHost
  (repeat' split) <;> simp

@[simp] theorem State.askHost_clock (n : Conn) (t : Token) (w : QueryReason) (s : State) :
    (s.askHost n t w).clock = s.clock := by
  unfold State.askHost
  (repeat' split) <;> simp

@[simp] theorem State.askHost_metering (n : Conn) (t : Token) (w : QueryReason) (s : State) :
    (s.askHost n t w).metering = s.metering := by
  unfold State.askHost
  (repeat' split) <;> simp

@[simp] theorem State.askHost_settlement (n : Conn) (t : Token) (w : QueryReason) (s : State) :
    (s.askHost n t w).settlement = s.settlement := by
  unfold State.askHost
  (repeat' split) <;> simp

@[simp] theorem State.askHost_pending (n : Conn) (t : Token) (w : QueryReason) (s : State) :
    (s.askHost n t w).pending = s.pending := by
  unfold State.askHost
  (repeat' split) <;> simp

/-! ### decideByTable -/

@[simp] theorem State.decideByTable_classifier (n : Conn) (t : Token) (s : State) :
    (s.decideByTable n t).classifier = s.classifier := by
  unfold State.decideByTable
  (repeat' split) <;> simp

@[simp] theorem State.decideByTable_clock (n : Conn) (t : Token) (s : State) :
    (s.decideByTable n t).clock = s.clock := by
  unfold State.decideByTable
  (repeat' split) <;> simp

@[simp] theorem State.decideByTable_metering (n : Conn) (t : Token) (s : State) :
    (s.decideByTable n t).metering = s.metering := by
  unfold State.decideByTable
  (repeat' split) <;> simp

@[simp] theorem State.decideByTable_settlement (n : Conn) (t : Token) (s : State) :
    (s.decideByTable n t).settlement = s.settlement := by
  unfold State.decideByTable
  (repeat' split) <;> simp

@[simp] theorem State.decideByTable_pending (n : Conn) (t : Token) (s : State) :
    (s.decideByTable n t).pending = s.pending := by
  unfold State.decideByTable
  (repeat' split) <;> simp

/-! ### decideToken -/

@[simp] theorem State.decideToken_classifier (n : Conn) (t : Token) (s : State) :
    (s.decideToken n t).classifier = s.classifier := by
  unfold State.decideToken
  (repeat' split) <;> simp

@[simp] theorem State.decideToken_clock (n : Conn) (t : Token) (s : State) :
    (s.decideToken n t).clock = s.clock := by
  unfold State.decideToken
  (repeat' split) <;> simp

@[simp] theorem State.decideToken_metering (n : Conn) (t : Token) (s : State) :
    (s.decideToken n t).metering = s.metering := by
  unfold State.decideToken
  (repeat' split) <;> simp

@[simp] theorem State.decideToken_settlement (n : Conn) (t : Token) (s : State) :
    (s.decideToken n t).settlement = s.settlement := by
  unfold State.decideToken
  (repeat' split) <;> simp

@[simp] theorem State.decideToken_pending (n : Conn) (t : Token) (s : State) :
    (s.decideToken n t).pending = s.pending := by
  unfold State.decideToken
  (repeat' split) <;> simp

/-! ### lateAccept -/

@[simp] theorem State.lateAccept_classifier (a : Answer) (s : State) :
    (s.lateAccept a).classifier = s.classifier := by simp [State.lateAccept]

@[simp] theorem State.lateAccept_tariff (a : Answer) (s : State) :
    (s.lateAccept a).tariff = s.tariff := by simp [State.lateAccept]

@[simp] theorem State.lateAccept_clock (a : Answer) (s : State) :
    (s.lateAccept a).clock = s.clock := by simp [State.lateAccept]

@[simp] theorem State.lateAccept_metering (a : Answer) (s : State) :
    (s.lateAccept a).metering = s.metering := by simp [State.lateAccept]

@[simp] theorem State.lateAccept_settlement (a : Answer) (s : State) :
    (s.lateAccept a).settlement = s.settlement := by simp [State.lateAccept]

@[simp] theorem State.lateAccept_uplink (a : Answer) (s : State) :
    (s.lateAccept a).uplink = s.uplink := by simp [State.lateAccept]

@[simp] theorem State.lateAccept_pending (a : Answer) (s : State) :
    (s.lateAccept a).pending = s.pending := by simp [State.lateAccept]

/-! ### lateReject -/

@[simp] theorem State.lateReject_classifier (a : Answer) (s : State) :
    (s.lateReject a).classifier = s.classifier := by simp [State.lateReject]

@[simp] theorem State.lateReject_tariff (a : Answer) (s : State) :
    (s.lateReject a).tariff = s.tariff := by simp [State.lateReject]

@[simp] theorem State.lateReject_clock (a : Answer) (s : State) :
    (s.lateReject a).clock = s.clock := by simp [State.lateReject]

@[simp] theorem State.lateReject_metering (a : Answer) (s : State) :
    (s.lateReject a).metering = s.metering := by simp [State.lateReject]

@[simp] theorem State.lateReject_settlement (a : Answer) (s : State) :
    (s.lateReject a).settlement = s.settlement := by simp [State.lateReject]

@[simp] theorem State.lateReject_uplink (a : Answer) (s : State) :
    (s.lateReject a).uplink = s.uplink := by simp [State.lateReject]

@[simp] theorem State.lateReject_pending (a : Answer) (s : State) :
    (s.lateReject a).pending = s.pending := by simp [State.lateReject]

end Sys2Proof.Machine
end

