-- ==== Sys2Proof/Laws/Ops.lean ====
section
/-! SUPPORT. For each shared operation, once, what it can do to the state it is about: the entry or the queue it
changes, the other entries it leaves. With Laws/Frames.lean, which says what blocks it leaves alone, a proof need not
unfold the operation. -/

namespace Sys2Proof.Machine

/-! ### Local activity, contactor and session changes (R5) -/

theorem State.localActivity_ped_cases (p : Ped) (s : State) :
    (((s.ped p).link = .probing ∨ (s.ped p).link = .quiet) ∧
      s.localActivity p = s.updPed p fun e => { e with link := .active, nextPoll := some s.clock.ms }) ∨
    (((s.ped p).link = .unconfigured ∨ (s.ped p).link = .active ∨ (s.ped p).link = .unreachable) ∧
      s.localActivity p = s) := by
  unfold State.localActivity
  cases (s.ped p).link <;> simp

theorem State.localActivity_ped_of_ne (p q : Ped) (s : State) (h : q ≠ p) : (s.localActivity p).ped q = s.ped q := by
  rcases State.localActivity_ped_cases p s with ⟨-, e⟩ | ⟨-, e⟩ <;> rw [e]
  exact State.updPed_ped_of_ne p q _ s h

@[simp] theorem State.localActivity_slots (p : Ped) (s : State) (n : Conn) : (s.localActivity p).slots n = s.slots n := by
  rcases State.localActivity_ped_cases p s with ⟨-, e⟩ | ⟨-, e⟩ <;> rw [e]; rfl

@[simp] theorem State.localActivity_inflight (p : Ped) (s : State) :
    (s.localActivity p).line.inflight = s.line.inflight := by
  rcases State.localActivity_ped_cases p s with ⟨-, e⟩ | ⟨-, e⟩ <;> rw [e]; rfl

@[simp] theorem State.localActivity_seq (p : Ped) (s : State) (n : Conn) : (s.localActivity p).seq n = s.seq n := by
  simp [State.seq]

@[simp] theorem State.localActivity_sess (p : Ped) (s : State) (n : Conn) : (s.localActivity p).sess n = s.sess n := by
  simp [State.sess]

theorem State.setContactor_seq (n m : Conn) (c : ContactorState) (s : State) :
    (s.setContactor n c).seq m = if m = n then { s.seq n with contactor := c } else s.seq m := by
  unfold State.setContactor
  simp only []
  split <;> simp [State.updSeq_seq]

theorem State.setContactor_ped_of_ne (n : Conn) (q : Ped) (c : ContactorState) (s : State) (h : q ≠ pedOf n) :
    (s.setContactor n c).ped q = s.ped q := by
  unfold State.setContactor
  simp only []
  split
  · rw [State.localActivity_ped_of_ne _ _ _ h]; rfl
  · rfl

theorem State.setContactor_ped_of_not_opened (n : Conn) (c : ContactorState) (s : State)
    (h : (s.seq n).contactor ≠ .opened) : (s.setContactor n c).line = s.line := by
  unfold State.setContactor
  simp [h]

@[simp] theorem State.setContactor_slots (n m : Conn) (c : ContactorState) (s : State) :
    (s.setContactor n c).slots m = s.slots m := by
  unfold State.setContactor
  simp only []
  split <;> simp

theorem State.setSess_sess (n m : Conn) (e : Session) (s : State) :
    (s.setSess n e).sess m = if m = n then e else s.sess m := by
  unfold State.setSess
  simp only []
  split <;> simp [State.updSess_sess]

theorem State.setSess_line_of_not_empty (n : Conn) (e : Session) (s : State) (h : (s.sess n).state ≠ .empty) :
    (s.setSess n e).line = s.line := by
  unfold State.setSess
  simp [h]

@[simp] theorem State.setSess_slots (n m : Conn) (e : Session) (s : State) : (s.setSess n e).slots m = s.slots m := by
  unfold State.setSess
  simp only []
  split <;> simp

@[simp] theorem State.setSess_waiting (n : Conn) (e : Session) (s : State) :
    (s.setSess n e).sessions.waiting = s.sessions.waiting := by
  unfold State.setSess
  simp only []
  split <;> simp

/-! ### Time (R108, R110) -/

theorem State.advanceTo_of_le (t : Nat) (s : State) (h : t ≤ s.clock.ms) : s.advanceTo t = s := by
  simp [State.advanceTo, h]

theorem State.advanceTo_ms (t : Nat) (s : State) (h : t ≤ Config.lastMs) :
    (s.advanceTo t).clock.ms = max s.clock.ms t := by
  unfold State.advanceTo
  split
  · omega
  · simp only [msAt, if_pos h]; omega

/-! ### Minute tests and boundary events (R113, R114) -/

/-- The clock after a test that finds band b in force. -/
theorem State.takeBand_clock (b : Band) (s : State) :
    (s.takeBand b).clock =
      if b = s.clock.band then s.clock
      else { s.clock with
        band := b, epoch := s.clock.epoch + 1, ring := tset s.clock.ring (ringPlace (s.clock.epoch + 1)) b } := by
  unfold State.takeBand
  split <;> simp [State.nextEpoch]

/-- The line after a test that finds band b in force: a boundary event requests the LATCH of the new epoch. -/
theorem State.takeBand_line (b : Band) (s : State) :
    (s.takeBand b).line =
      if b = s.clock.band then s.line else { s.line with pendingLatch := some (s.clock.epoch + 1) } := by
  unfold State.takeBand
  split
  · rfl
  · simp [State.nextEpoch, State.requestLatch]

/-- A test keeps every block but the clock, the line and the uplink. -/
theorem State.takeBand_kept (b : Band) (s : State) :
    (s.takeBand b).classifier = s.classifier ∧ (s.takeBand b).sequencer = s.sequencer ∧
    (s.takeBand b).auth = s.auth ∧ (s.takeBand b).sessions = s.sessions ∧ (s.takeBand b).tariff = s.tariff ∧
    (s.takeBand b).metering = s.metering ∧ (s.takeBand b).alloc = s.alloc ∧
    (s.takeBand b).settlement = s.settlement ∧ (s.takeBand b).pending = s.pending := by
  unfold State.takeBand
  split <;> simp [State.nextEpoch]

/-- A due test takes one minute from the count, and finds the band of the oldest minute entered. -/
theorem State.testDueMinute_some (w : WallTime) (k : Nat) (s : State) (hw : s.clock.wall = some w)
    (hk : s.clock.minutesDue = k + 1) :
    s.testDueMinute = ({ s with clock := { s.clock with minutesDue := k } }).takeBand
      (scheduleBand s.clock.schedule (w.oldestMinute (k + 1))) := by
  simp only [State.testDueMinute, hw, hk]

/-- With no test due, none is taken. -/
theorem State.settleMinutes_of_none (s : State) (h : s.clock.minutesDue = 0) : s.settleMinutes = s := by
  simp [State.settleMinutes, h, State.testDueMinutes]

/-- The tests due are taken oldest first: one, and then those still due. -/
theorem State.settleMinutes_succ (w : WallTime) (k : Nat) (s : State) (hw : s.clock.wall = some w)
    (hk : s.clock.minutesDue = k + 1) : s.settleMinutes = s.testDueMinute.settleMinutes := by
  have hd : s.testDueMinute.clock.minutesDue = k := by
    rw [State.testDueMinute_some w k s hw hk, State.takeBand_clock]
    split <;> rfl
  simp [State.settleMinutes, hd, hk, State.testDueMinutes]

/-! ### Power-on (R1) -/

/-- Power-on keeps the transaction in flight, the roll-call window and the commands that wait. -/
theorem State.powerOn_kept (s : State) :
    s.powerOn.line.inflight = s.line.inflight ∧ s.powerOn.line.window = s.line.window ∧
    s.powerOn.pending = s.pending := ⟨rfl, rfl, rfl⟩

/-- Every other block takes its power-on values. -/
theorem State.powerOn_blocks (s : State) :
    s.powerOn.classifier = State.reset.classifier ∧ s.powerOn.sequencer = State.reset.sequencer ∧
    s.powerOn.auth = State.reset.auth ∧ s.powerOn.sessions = State.reset.sessions ∧
    s.powerOn.tariff = State.reset.tariff ∧ s.powerOn.clock = State.reset.clock ∧
    s.powerOn.metering = State.reset.metering ∧ s.powerOn.alloc = State.reset.alloc ∧
    s.powerOn.settlement = State.reset.settlement ∧ s.powerOn.uplink = State.reset.uplink ∧
    s.powerOn.line.peds = State.reset.line.peds ∧ s.powerOn.line.slots = State.reset.line.slots :=
  ⟨rfl, rfl, rfl, rfl, rfl, rfl, rfl, rfl, rfl, rfl, rfl, rfl⟩

/-! ### The loss of a pedestal (R10) -/

/-- The third failure leaves an UNCONFIGURED target as it is, and makes any other UNREACHABLE. -/
theorem State.lose_cases (p : Ped) (failed : Option TxnKind) (s : State) :
    ((s.ped p).link = .unconfigured ∧ s.lose p failed = s) ∨
    ((s.ped p).link ≠ .unconfigured ∧ s.lose p failed = s.enterUnreachable p failed) := by
  unfold State.lose
  split
  · exact .inl ⟨‹_›, rfl⟩
  · exact .inr ⟨‹_›, rfl⟩

/-! ### Events (R175, R178) -/

theorem State.raise_uplink_kept (k : EventKind) (s : State) :
    (s.raise k).uplink.responses = s.uplink.responses ∧ (s.raise k).uplink.link = s.uplink.link ∧
    (s.raise k).uplink.enableSet = s.uplink.enableSet ∧ (s.raise k).uplink.sending = s.uplink.sending ∧
    (s.raise k).uplink.pendingSet = s.uplink.pendingSet ||| k.only := by
  unfold State.raise State.testAttention
  split <;> simp

/-! ### Command queues (R16) -/

theorem State.enqueue_ped (p q : Ped) (e : QueueEntry) (s : State) :
    (s.enqueue p e).ped q = if q = p then { s.ped p with queue := (s.ped p).queue ++ [e] } else s.ped q :=
  State.updPed_ped p q _ s

/-! ### Safety slots (R17) -/

theorem State.setOpenSlot_ped (n : Conn) (q : Ped) (s : State) :
    (s.setOpenSlot n).ped q =
      if q = pedOf n then
        { s.ped q with queue := (s.ped q).queue.filter fun e => !e.isClose n }
      else s.ped q := by
  unfold State.setOpenSlot
  simp only []
  split
  · split <;> (split <;> simp_all [State.updPed_ped])
  · split <;> simp_all [State.updPed_ped]

theorem State.setOpenSlot_slots (n m : Conn) (s : State) :
    (s.setOpenSlot n).slots m = if m = n then { s.slots n with openSet := true } else s.slots m := by
  unfold State.setOpenSlot
  simp only []
  split
  · split <;> simp [State.updSlots_slots]
  · simp [State.updSlots_slots]

/-- No CLOSE waits for a connector whose OPEN slot has just been set. -/
theorem State.setOpenSlot_closeWaits (n : Conn) (s : State) : (s.setOpenSlot n).closeWaits n = false := by
  simp [State.closeWaits, State.setOpenSlot_ped, List.any_filter]

/-! ### The discard (R22) -/

theorem State.discardInflight_inflight (hit : Ped → Bool) (s : State) :
    (s.discardInflight hit).line.inflight =
      s.line.inflight.map fun t =>
        { t with discarded := t.discarded || (t.target.any hit) } := by
  unfold State.discardInflight
  cases h : s.line.inflight with
  | none => simp [h]
  | some t =>
    cases ht : t.target with
    | none => cases t; simp_all
    | some p => cases t; by_cases hp : hit p = true <;> simp_all

/-! ### Taking a frame from the host (R171) -/

theorem State.takeFrame_taken (kind tag : Byte) (payload : Frame) (owner : State → State × Reply) (s : State)
    (hp : payload.length ≤ 250) (hr : s.uplink.responses.length < 8) :
    s.takeFrame kind tag payload owner =
      (owner s.goodFrame.countRequest).1.respond kind tag (owner s.goodFrame.countRequest).2 := by
  have h1 : ¬ maxPayload < payload.length := by unfold maxPayload; omega
  have h2 : s.goodFrame.responseRoom = true := by
    simp [State.responseRoom, State.goodFrame, Config.responseSize, hr]
  simp [State.takeFrame, h1, h2]

theorem State.takeFrame_full (kind tag : Byte) (payload : Frame) (owner : State → State × Reply) (s : State)
    (hp : payload.length ≤ 250) (hr : 8 ≤ s.uplink.responses.length) :
    s.takeFrame kind tag payload owner = s.goodFrame.overrun := by
  have h1 : ¬ maxPayload < payload.length := by unfold maxPayload; omega
  have h2 : s.goodFrame.responseRoom = false := decide_eq_false (Nat.not_lt.mpr hr)
  simp [State.takeFrame, h1, h2]

/-! ### The settlement queue (R162) -/

theorem State.appendRecord_settlement (r : BuiltRecord) (s : State) :
    (s.appendRecord r).settlement =
      { records := s.settlement.records ++ [⟨s.settlement.nextSequence, r⟩]
        nextSequence := nextSequence s.settlement.nextSequence
        readMark := if s.settlement.records.length = 0 then false else s.settlement.readMark } := by
  unfold State.appendRecord
  simp only []
  split
  · simp
  · split <;> simp

/-! ### Withdrawal and open causes (R47, R73) -/

theorem State.withdraw_auth_held (n : Conn) (s : State) :
    (s.withdraw n).auth.held = s.auth.held.filter fun h => h.conn != n := by
  unfold State.withdraw
  simp only []
  split <;> simp [State.decide, State.dropHeld]

theorem State.withdraw_sess (n m : Conn) (s : State) :
    (s.withdraw n).sess m = if m = n then Session.initial else s.sess m := by
  unfold State.withdraw
  simp only []
  split
  · exact (State.setSess_sess n m _ (s.dropHeld n))
  · exact (State.setSess_sess n m _ (s.dropHeld n))

@[simp] theorem State.setOpenSlot_seq (n m : Conn) (s : State) : (s.setOpenSlot n).seq m = s.seq m := by
  simp [State.seq]

theorem State.enterOpening_seq (n m : Conn) (s : State) :
    (s.enterOpening n).seq m =
      if m = n then { s.seq n with contactor := .opening, openAcked := false, repliesSinceOpen := 0 }
      else s.seq m := by
  unfold State.enterOpening
  rw [State.setContactor_seq]
  by_cases h : m = n <;> simp [h, State.updSeq_seq]

theorem State.openCause_seq_of_ne (n m : Conn) (s : State) (h : m ≠ n) : (s.openCause n).seq m = s.seq m := by
  unfold State.openCause
  simp only []
  split <;> (try split) <;> simp [State.enterOpening_seq, State.updSeq_seq, h]

end Sys2Proof.Machine
end

