-- ==== Sys2Proof/Tests/Slice0.lean ====
section
/-! SUPPORT. Named tests: what WellFormed refuses, worked examples of the manual, and for each obligation with
hypotheses a state and operands that meet them. Each shows one step on a small state. -/

set_option maxRecDepth 100000

namespace Sys2Proof.Tests

open Sys2Proof.Machine

/-! ### What WellFormed refuses -/

theorem test_refuses_a_payload_past_250_bytes : (Instr.readEvents 0 (List.replicate 251 0)).wellFormed = false := by
  decide

theorem test_takes_a_payload_of_250_bytes : (Instr.readEvents 0 (List.replicate 250 0)).wellFormed = true := by decide

theorem test_refuses_an_unknown_request_of_the_catalogue :
    (Instr.unknownRequest 46 0 []).wellFormed = false ∧ (Instr.unknownRequest 47 0 []).wellFormed = true := by decide

theorem test_refuses_a_framing_error_of_a_length_in_range :
    (Instr.uplinkFramingError 6).wellFormed = false ∧ (Instr.uplinkFramingError 256).wellFormed = false ∧
    (Instr.uplinkFramingError 5).wellFormed = true ∧ (Instr.uplinkFramingError 257).wellFormed = true := by decide

theorem test_refuses_a_truncation_that_is_whole :
    (Instr.uplinkTruncated [42, 0, 0, 6, 0, 0]).wellFormed = false ∧
    (Instr.uplinkTruncated [42, 0, 0, 6, 0]).wellFormed = true := by decide

theorem test_refuses_a_check_failure_that_passes :
    (Instr.uplinkCheckFailure (withCheck [42, 0, 0, 6])).wellFormed = false ∧
    (Instr.uplinkCheckFailure [42, 0, 0, 6, 0, 0]).wellFormed = true := by decide

theorem test_refuses_an_empty_park_line_frame :
    (Instr.statusReply []).wellFormed = false ∧ (Instr.strayFrame []).wellFormed = false := by decide

/-! ### The small states of the tests -/

/-- The state after a command. -/
def after (i : Instr) (s : State) : State :=
  match exec i s with
  | .next t => t
  | .fault _ => s
  | .refused _ => s

/-- The last response in the queue. -/
def lastResponse (s : State) : Option Response := s.uplink.responses.getLast?

/-- A card token. -/
def card : Token := ⟨.card, [18, 52, 86, 120]⟩

/-- A connector report of a plugged, ready vehicle at an open contact. -/
def ready : ConnReport := ⟨true, true, false, .opened, 22, 0, 1000, none⟩

/-- Pedestal 1 configured at slot 0 in a link state, with both connectors reported. -/
def withPed (link : LinkState) : State :=
  State.reset.updPed 0 fun e =>
    { e with
      configured := true
      slot := some 0
      link := link
      nextPoll := if link = .active then some 1000 else none
      reportA := some ready
      reportB := some ready }

/-- A CHARGING session on plan slot 0, revision 1. -/
def charging : Session :=
  { Session.initial with
    state := .charging
    token := some card
    source := some .here
    plan := some (0, 1)
    budget := 5000
    threshold := 4950
    startSec := some 0 }

/-- An active pedestal whose connector A holds a session on plan slot 0, which is LOADED and used once. -/
def withSession (e : Session) : State :=
  ((withPed .active).updSess 0 fun _ => e).updPlan 0 fun p => { p with loaded := true, revision := 1, useCount := 1 }

/-- A transaction with pedestal 1. -/
def txn (k : TxnKind) : Txn := ⟨some 0, k, .classifier, 1, 10, false, 0, false, []⟩

/-- An active pedestal with a transaction on the line. -/
def onLine (k : TxnKind) : State := (withPed .active).setInflight (some (txn k))

/-- A settlement record. -/
def settled (k : Nat) : Settlement := ⟨k, State.reset.builtRecord 0 charging⟩

/-- A state busy in every block: a session, a lookup entry, a waiting command, a settlement record, a notice. -/
def busy : State :=
  { withSession charging with
    settlement := ⟨[settled 4294967295], 1, true⟩
    clock := { State.reset.clock with wall := some ⟨65535, 86399⟩, schedule := [⟨0, 1⟩, ⟨1439, 2⟩] }
    uplink := { State.reset.uplink with enableSet := EventKind.powerOn.only, noticePending := true }
    pending := [.readEvents 5 []] }

/-! ### Worked examples of the manual -/

/-- 11.1: the POLL to pedestal 7. -/
theorem test_check_word_of_the_poll_example : txnFrame (some 6) .none .poll = [0x07, 0x06, 0x01, 0x00, 0xF7, 0xF9] := by
  decide

/-- 4.2: the id 12 34 56 78 has watch bit 420. -/
theorem test_watch_bit_of_the_example_id : watchBit [0x12, 0x34, 0x56, 0x78] = 420 := by decide

/-- 4.14: six entries from index 508: four written, BAD_INDEX. -/
theorem test_load_tokens_runs_off_the_table :
    lastResponse (after (.loadTokens 9 (be 2 508 ++ [6] ++ (List.replicate 6 (entryBytes none)).flatten)) State.reset) =
      some ⟨146, 9, .badIndex, [4]⟩ := by
  decide

/-- The plan of 7.12. -/
def plan712 : State :=
  { State.reset with clock := { State.reset.clock with ms := 7265000, epoch := 5, band := 1, ring := tset State.reset.clock.ring 5 1 } }

/-- 7.12: the session of connector 14 on plan slot 3 before the reading, at rating 350. -/
def before712 : State :=
  ((plan712.updPlan 3 fun p =>
    { p with
      loaded := true, useCount := 1, contents := ⟨none, 100, #v[45000, 62000, 80000, 30000], #v[0, 0, 0, 0], 0⟩ }).updConfig 7
        fun c => { c with ratingA := 350 }).updSess 14 fun _ =>
    { charging with
      plan := some (3, 0), baseline := some (1000000, 7200000), lastEpoch := 4, energyTotal := 29542
      bandEnergy := #v[20000, 1505, 0, 8037], costAcc := 1234420000, startFee := 100 }

/-- 7.12: the reading across the boundary. -/
theorem test_reading_across_a_boundary :
    let e := (before712.deliverReading 14 { ready with reading := 1006000, latch := some (5, 1004310) }).sess 14
    e.costAcc = 1533150000 ∧ e.bandEnergy = #v[24310, 3195, 0, 8037] ∧ e.energyTotal = 35542 ∧ e.running = 1633 ∧
      e.flags = 0 := by
  decide

/-- 7.12, last paragraph: the reply at 7,230,000 ms is clamped and priced as a missed latch. -/
theorem test_reading_past_the_plausibility_limit :
    let s := { before712 with clock := { before712.clock with ms := 7230000 } }
    let t := s.deliverReading 14 { ready with reading := 1006000, latch := some (5, 1004310) }
    (t.sess 14).costAcc = 1234420000 + 183892000 ∧ (t.sess 14).baseline = some (1006000, 7230000) ∧
      hasFlag .meterJump (t.sess 14).flags = true ∧ hasFlag .missedLatch (t.sess 14).flags = true ∧
      hasEvent .latchMissed t.uplink.pendingSet = true := by
  decide

/-- 7.14: the replaced meter is a reverse reading. -/
theorem test_reverse_reading_bills_nothing :
    let s := before712.updSess 14 fun e => { e with baseline := some (3000000, 7200000) }
    let t := s.deliverReading 14 { ready with reading := 1200 }
    (t.sess 14).energyTotal = 29542 ∧ hasFlag .meterReverse (t.sess 14).flags = true ∧ (t.sess 14).lastEpoch = 5 := by
  decide

/-- 7.16: the second minute tick takes the running cost to 970 and stops the session. -/
theorem test_second_idle_minute_stops_the_session :
    let e := { charging with
      state := .complete, budget := 1000, threshold := 950, startFee := 100, costAcc := 830000000, grace := 0 }
    let s := (withSession e).updPlan 0 fun p =>
      { p with contents := { p.contents with idlePrice := #v[40, 40, 40, 40] } }
    let t := after .minuteTick s
    (t.sess 0).state = .stopping ∧ (t.sess 0).endReason = some .budget ∧ (t.sess 0).running = 970 := by
  decide

/-- 6.8: step 2, the change from band 0 to band 1 is a boundary event. -/
theorem test_set_time_makes_the_boundary_event :
    let s := { State.reset with
      clock := { State.reset.clock with schedule := [⟨360, 2⟩, ⟨600, 1⟩, ⟨1020, 3⟩, ⟨1320, 0⟩] } }
    let t := after (.setTime 0 (be 2 812 ++ be 4 59940)) s
    t.clock.band = 1 ∧ t.clock.epoch = 1 ∧ t.line.pendingLatch = some 1 ∧
      hasEvent .bandChanged t.uplink.pendingSet = true := by
  decide

/-- A participant of 8.9. -/
def sharer (n : Conn) (demand grant : Nat) (cls : ClassNo) (s : State) : State :=
  (((s.updSess n fun _ => { charging with cls := cls }).updSeq n fun r => { r with contactor := .closed }).updSetpoint n
    fun x => { x with grant := grant, holdExpiry := some 20 }).updPed (pedOf n) fun e =>
      let r := some { ready with demand := demand, contact := .closed }
      match letterOf n with
      | .a => { e with link := .active, reportA := r }
      | .b => { e with link := .active, reportB := r }

/-- The pedestal limit and the ratings of 8.9. -/
def limited (p : Ped) (limit : Nat) (s : State) : State :=
  (s.updConfig p fun c => { c with limit := limit, ratingA := 400, ratingB := 400 }).updPed p fun e =>
    { e with available := some 600 }

/-- 8.9: 600 kW among four connectors. -/
def before89 : State :=
  let s := { State.reset with alloc := { State.reset.alloc with baseLimit := 600 } }
  sharer 4 100 100 1 (sharer 2 150 100 2 (sharer 1 200 200 1 (sharer 0 300 200 1
    (limited 2 350 (limited 1 350 (limited 0 400 s))))))

/-- 8.9: the targets, and the increase that has to wait. -/
theorem test_sharing_600_kW :
    let t := before89.pass
    ([0, 1, 2, 4].map fun n => (t.setpoint n).target) = [175, 175, 150, 100] ∧
      ([0, 1, 2, 4].map fun n => (t.setpoint n).state) =
        [.decreasePending, .decreasePending, .increaseDeferred, .steady] ∧
      t.committedSum = 600 ∧ t.increaseReady 2 = false := by
  decide

/-! ### For each obligation with hypotheses: a state and operands that meet them -/

theorem witness_StepKeepsQueuesBoundedAndNumbered :
    busy.QueuesBounded ∧ busy.SettlementsNumbered ∧
      step busy = .next (after (.readEvents 5 []) { busy with pending := [] }) := by
  refine ⟨?_, ⟨?_, ⟨rfl, trivial⟩, ?_⟩, rfl⟩
  · unfold State.QueuesBounded; decide
  · decide
  · decide

theorem witness_StepKeepsEnergyLocksAndNotice :
    busy.EnergyAddsUp ∧ busy.OpenUnlocked ∧ busy.NoticeSound ∧ busy.uplink.noticePending = true ∧
      step busy = .next (after (.readEvents 5 []) { busy with pending := [] }) := by
  refine ⟨?_, ?_, ?_, rfl, rfl⟩
  · unfold State.EnergyAddsUp Session.EnergyAddsUp; decide
  · unfold State.OpenUnlocked; decide
  · unfold State.NoticeSound UplinkState.shares; decide

/-- The busy state's sessions are sound, with one connector priced on plan slot 0. -/
theorem busy_sessions_sound : busy.SessionsSound := by
  unfold State.SessionsSound State.HeldSound State.WaitingSound State.UseCountsRight
  decide

theorem witness_StepKeepsSessionsSound :
    busy.QueuesBounded ∧ busy.SessionsSound ∧
      step busy = .next (after (.readEvents 5 []) { busy with pending := [] }) :=
  ⟨witness_StepKeepsQueuesBoundedAndNumbered.1, busy_sessions_sound, rfl⟩

theorem card_fits : card.fits := Or.inl rfl

/-- Every token of the busy state is the card. -/
theorem busy_tokens_fit : busy.TokensFit := by
  refine ⟨fun i e h => ?_, fun h m => ?_, fun n t h => ?_, fun n r t h => ?_, fun r m t h => ?_⟩
  · have : tget busy.auth.tokens i = none := by
      simp [busy, withSession, withPed, State.updPlan, State.updSess, State.updPed, State.reset, tget]
    simp [this] at h
  · have : busy.auth.held = [] := rfl
    rw [this] at m; cases m
  · have : ∀ n, (busy.sess n).token = none ∨ (busy.sess n).token = some card := by decide
    rcases this n with e | e <;> rw [e] at h <;> cases h
    exact card_fits
  · have : ∀ n, (busy.sess n).record = none := by decide
    rw [this n] at h; cases h
  · have : ∀ r ∈ busy.settlement.records, r.body.token = some card := by decide
    rw [this r m] at h; cases h
    exact card_fits

theorem witness_StepKeepsTokensAndParametersInRange :
    busy.TokensFit ∧ busy.ParametersInRange ∧
      step busy = .next (after (.readEvents 5 []) { busy with pending := [] }) := by
  refine ⟨busy_tokens_fit, ?_, rfl⟩
  unfold State.ParametersInRange
  and_intros
  all_goals first
    | decide
    | exact (by decide : (1439 : Nat) < 1440)

/-- An active pedestal with a POLL on the line is sound. -/
theorem onLine_sound : (onLine .poll).PedestalsSound := by
  refine ⟨by decide, by decide, by decide, fun p q k hp hq _ _ => ?_, fun x h k => ?_, fun w h => by cases h⟩
  · have : ∀ p, ((onLine .poll).ped p).configured = true → p = 0 := by decide
    rw [this p hp, this q hq]
  · cases h
    rcases k with k | ⟨_, k⟩ <;> cases k

theorem witness_StepKeepsPedestalsSound :
    (onLine .poll).PedestalsSound ∧
      step { onLine .poll with pending := [.statusReply (statusFrame 0 ⟨600, ready, ready, none⟩)] } =
        .next (after (.statusReply (statusFrame 0 ⟨600, ready, ready, none⟩)) (onLine .poll)) :=
  ⟨onLine_sound, rfl⟩

theorem witness_TablesHaveTheirWritersOnly :
    exec (.readEvents 0 []) busy = .next (after (.readEvents 0 []) busy) ∧ Instr.readEvents 0 [] ≠ .powerOn ∧
      Instr.readEvents 0 [] ≠ .resetInput ∧
      (∀ tag body, Instr.readEvents 0 [] ≠ .loadTokens tag body ∧ Instr.readEvents 0 [] ≠ .clearTokens tag body) ∧
      (∀ tag body, Instr.readEvents 0 [] ≠ .loadWatch tag body) ∧
      ∀ tag body, Instr.readEvents 0 [] ≠ .loadPlan tag body ∧ Instr.readEvents 0 [] ≠ .clearPlan tag body := by
  refine ⟨rfl, ?_, ?_, fun _ _ => ⟨?_, ?_⟩, fun _ _ => ?_, fun _ _ => ⟨?_, ?_⟩⟩ <;> exact Instr.noConfusion

theorem witness_EpochAdvancesByOneWithItsLatch :
    exec (.latchNow 0 []) busy = .next (after (.latchNow 0 []) busy) ∧ Instr.latchNow 0 [] ≠ .powerOn ∧
      Instr.latchNow 0 [] ≠ .resetInput ∧
      (∀ tag body, Instr.latchNow 0 [] ≠ .setTime tag body ∧ Instr.latchNow 0 [] ≠ .setBands tag body) ∧
      (after (.latchNow 0 []) busy).clock.epoch = 1 ∧ busy.clock.minutesDue = 0 := by
  refine ⟨rfl, ?_, ?_, fun _ _ => ⟨?_, ?_⟩, by decide, rfl⟩ <;> exact Instr.noConfusion

theorem witness_CheckWordCatchesOneWrongByte :
    checkGood (withCheck [7, 6, 1]) = true ∧ 4 < (withCheck [7, 6, 1]).length ∧ (withCheck [7, 6, 1])[0]? ≠ some 8 ∧
      (withCheck [7, 6, 1])[4]? ≠ some 0 := by decide

theorem witness_SentFramesFitTheirLayout :
    lengthGood (txnFrame (some 23) .hold (.queued (.display none .text (List.replicate 40 65)))) = true ∧
      (List.replicate 40 (65 : Byte)).length ≤ 40 ∧ (OutFrame.notice 1 1).bytes.length < 65536 := by decide

/-- A reply with both latches at one epoch and a message of 32 payload bytes, the longest then. -/
def fullReply : StatusReply :=
  ⟨600, { ready with latch := some (255, 4294967295) }, { ready with latch := some (255, 0) },
    some ⟨255, 63, some .b, List.replicate 32 7⟩⟩

theorem witness_StatusRepliesAreReadAsSent : fullReply.fits ∧ (statusBody fullReply).length = 59 := by
  refine ⟨⟨by decide, by decide, by decide, by decide, by decide, fun x y h k => ?_, fun m h => ?_, by decide⟩, by decide⟩
  · cases h; cases k; rfl
  · cases h; decide

/-- A full response queue. -/
def full : State :=
  { State.reset with uplink := { State.reset.uplink with responses := List.replicate 8 ⟨1, 2, .ok, []⟩ } }

theorem witness_FullResponseQueueTurnsFramesAway :
    requestOf (.readEvents 5 []) = some (42, 5, []) ∧ catalogueKind 47 = false ∧
      (List.replicate 250 (0 : Byte)).length ≤ 250 ∧ 8 ≤ full.uplink.responses.length := by decide

theorem reset_has_room : State.reset.hasRoom := by unfold State.hasRoom; decide

theorem active_has_room : (withPed .active).hasRoom := by unfold State.hasRoom; decide

theorem witness_EveryRequestTakenGetsOneResponse :
    requestOf (.setUplinkTiming 5 [0, 30]) = some (44, 5, [0, 30]) ∧ State.reset.hasRoom ∧
      requestOf (.readPedestal 5 []) = some (4, 5, []) ∧ fixedLengths 4 = some [1] ∧ ([] : Frame).length ∉ [1] ∧
      requestOf (.loadPlan 5 [15]) = some (28, 5, [15]) ∧ (∀ l, fixedLengths 28 = some l → 1 ∉ l) ∧
      (15 : Byte).toNat < 16 ∧ 16 ≤ (16 : Byte).toNat ∧ (List.replicate 249 (0 : Byte)).length ≤ 249 :=
  ⟨by decide, reset_has_room, by decide, by decide, by decide, by decide, fun l h => by cases h; decide, by decide,
    by decide, by decide⟩

/-- The requests of varying length at the edges of their forms: no entry, nine of them, a byte more or less. -/
theorem witness_RequestsOfVaryingLength :
    State.reset.hasRoom ∧ (List.replicate 250 (0 : Byte)).length ≤ 250 ∧ ([1, 0, 5] : Frame).length < 4 ∧
      ([1, 0] : Frame).length < 3 ∧ (([0, 0, 0] : Frame).getD 2 0).toNat = 0 ∧
      8 < (([0, 0, 9] : Frame).getD 2 0).toNat ∧ ([0, 0, 1] : Frame).length ≠ 3 + 20 * 1 ∧
      (([] : Frame).getD 0 0).toNat = 0 ∧ 8 < (([9] : Frame).getD 0 0).toNat ∧ ([8] : Frame).length ≠ 1 + 3 * 8 ∧
      (List.replicate 246 (0 : Byte)).length ≠ (245 : Byte).toNat := by
  unfold State.hasRoom; decide

theorem witness_FramesThatAreNoRequestReachNoBlock :
    (0 : Byte).toNat = 0 ∧ 47 ≤ (47 : Byte).toNat ∧ State.reset.hasRoom ∧ (5 : BitVec 16).toNat < 6 ∧
      256 < (257 : BitVec 16).toNat ∧ cutOff [42, 0, 0, 6, 0] = true ∧ wholeFrame [42, 0, 0, 6, 0, 0] = true ∧
      checkGood [42, 0, 0, 6, 0, 0] = false :=
  ⟨by decide, by decide, reset_has_room, by decide, by decide, by decide, by decide, by decide⟩

theorem witness_EventsAndTheirRequestsTestAttention :
    hasEvent .powerOn State.reset.uplink.pendingSet = true ∧ busy.uplink.shares ∧ ¬ State.reset.uplink.shares ∧
      State.reset.hasRoom ∧ 128 ≤ (128 : Byte).toNat := by
  unfold UplinkState.shares State.hasRoom; decide

theorem witness_ReadsAnswerTheirLayoutAndChangeNothingElse :
    busy.hasRoom ∧ busy.TokensFit ∧ (busy.sess 0).state ≠ .closed ∧ 48 ≤ (48 : Byte).toNat ∧ (0 : Byte).toNat = 0 ∧
      24 < (25 : Byte).toNat ∧ 16 ≤ (16 : Byte).toNat ∧ 512 ≤ 256 * (2 : Byte).toNat + (0 : Byte).toNat :=
  ⟨by unfold State.hasRoom; decide, busy_tokens_fit, by decide, by decide, by decide, by decide, by decide, by decide⟩

/-- A CLOSED session with its record, on the closed-waiting list of a full settlement queue. -/
def waiting : State :=
  { busy with
    sessions := { busy.sessions with
      entries := tset busy.sessions.entries 0
        { Session.initial with state := .closed, record := some (State.reset.builtRecord 0 charging) }
      waiting := [0] }
    settlement := ⟨List.replicate 96 (settled 7), 8, true⟩ }

theorem witness_ReadsOfAClosedSession :
    (waiting.sess 0).state = .closed ∧ (waiting.sess 0).record.isSome = true := by decide

theorem witness_ParameterRequestsForceTheirOperands :
    State.reset.hasRoom ∧ 4294967295 < 4294967296 ∧ 2 ≤ (2 : Byte).toNat := ⟨reset_has_room, by decide, by decide⟩

theorem witness_UplinkTimingSetsTheSilenceTime :
    State.reset.hasRoom ∧ ([] : Frame).length ≠ 2 ∧ (List.replicate 250 (0 : Byte)).length ≤ 250 :=
  ⟨reset_has_room, by decide, by decide⟩

theorem witness_SetPedestalConfiguresIt :
    (withPed .active).hasRoom ∧
      (∀ q, q ≠ 0 → ((withPed .active).ped q).configured = true → ((withPed .active).ped q).slot ≠ some 0) ∧
      ((withPed .active).ped 0).configured = true ∧ ((withPed .active).config 0).limit ≠ min 600 44 ∧
      (State.reset.ped 0).configured = false :=
  ⟨active_has_room, by decide, by decide, by decide, by decide⟩

theorem witness_SetPedestalAbsenceAndRefusals :
    (withPed .quiet).hasRoom ∧
      (∀ x, ((withPed .quiet).sess (connOf 0 x)).state = .empty ∧
        ((withPed .quiet).seq (connOf 0 x)).contactor = .opened) ∧
      ((withPed .quiet).ped 0).configured = true ∧ (State.reset.ped 0).configured = false ∧
      (List.replicate 9 (0 : Byte)).length = 9 ∧ 24 ≤ (24 : Byte).toNat ∧ 24 < (25 : Byte).toNat ∧
      ((withPed .quiet).ped 0).slot = some 0 ∧ (busy.sess (connOf 0 .a)).state ≠ .empty :=
  ⟨by unfold State.hasRoom; decide, fun x => by cases x <;> decide, by decide, by decide, by decide, by decide,
    by decide, by decide, by decide⟩

/-- An AUTHORIZED connector A under a query at connector B, with the OPEN of A on the line. -/
def mixed : State :=
  let s := (onLine (.openSlot 0)).updSess 1 fun _ => { Session.initial with state := .awaitingAuth, token := some card }
  { s with auth := { s.auth with held := [⟨1, 3, card, .watched, 8, false⟩], nextTag := 4 } }

theorem mixed_held_sound : mixed.HeldSound := by
  refine ⟨by decide, fun h m => ?_⟩
  have : mixed.auth.held = [⟨1, 3, card, .watched, 8, false⟩] := rfl
  rw [this] at m
  cases List.mem_singleton.mp m
  decide

theorem witness_ClearPedestalClearsItsState :
    mixed.hasRoom ∧ mixed.HeldSound ∧ mixed.OpenUnlocked ∧ (mixed.ped 0).link ≠ .unconfigured ∧
      mixed.line.inflight = some (txn (.openSlot 0)) ∧ (withPed .active).line.inflight = none ∧
      (mixed.sess 0).state = .empty ∧ (mixed.sess 1).state = .awaitingAuth :=
  ⟨by unfold State.hasRoom; decide, mixed_held_sound, by unfold State.OpenUnlocked; decide, by decide, rfl, rfl,
    by decide, by decide⟩

/-- A CLEAR_PEDESTAL that ends a session. -/
theorem witness_ClearPedestalEndsASession :
    busy.hasRoom ∧ busy.HeldSound ∧ busy.OpenUnlocked ∧ (busy.ped 0).link ≠ .unconfigured ∧
      (busy.sess (connOf 0 .a)).state.open_ ∧ busy.settlement.records.length < 96 :=
  ⟨by unfold State.hasRoom; decide, busy_sessions_sound.1, by unfold State.OpenUnlocked; decide, by decide,
    .inr (.inl rfl), by decide⟩

theorem witness_ClearPedestalIsRefused :
    State.reset.hasRoom ∧ (0 : Byte).toNat = 0 ∧ 24 < (25 : Byte).toNat ∧ (State.reset.ped 23).link = .unconfigured :=
  ⟨reset_has_room, by decide, by decide, by decide⟩

theorem witness_SetClassFollowsItsChecks :
    State.reset.hasRoom ∧ 64 ≤ (64 : Byte).toNat ∧ (63 : Byte).toNat = (63 : Code).val ∧ 4 ≤ (4 : Byte).toNat ∧
      5 ≤ (5 : Code).val ∧ 1 ≤ (4 : Code).val ∧ (4 : Code).val ≤ 4 :=
  ⟨reset_has_room, by decide, by decide, by decide, by decide, by decide, by decide⟩

/-- A pedestal whose command queue is full. -/
def queueFull : State :=
  (withPed .active).updPed 0 fun e => { e with queue := List.replicate 4 ⟨.clear, .lineController⟩ }

theorem witness_DownwardRequestsQueueOneEntry :
    State.reset.hasRoom ∧ (List.replicate 40 (0 : Byte)).length ≤ 40 ∧ (State.reset.ped 0).link = .unconfigured ∧
      (queueFull.ped 0).link ≠ .unconfigured ∧ 4 ≤ (queueFull.ped 0).queue.length ∧
      ((withPed .active).ped 0).queue.length < 4 :=
  ⟨reset_has_room, by decide, by decide, by decide, by decide, by decide⟩

theorem witness_DownwardRequestsAreRefusedInOrder :
    State.reset.hasRoom ∧ (List.replicate 246 (0 : Byte)).length ≤ 246 ∧ 24 < (25 : Byte).toNat ∧
      ¬ ((24 : Byte).toNat = 0 ∨ 24 < (24 : Byte).toNat) ∧ 64 ≤ (64 : Byte).toNat ∧ (63 : Byte).toNat < 64 ∧
      40 < (41 : Byte).toNat ∧ ([0] : Frame).length ≠ (0 : Byte).toNat ∧
      ((2 : Byte) ≠ 0 ∧ (2 : Byte) ≠ 1 ∧ (2 : Byte) ≠ 255) :=
  ⟨reset_has_room, by decide, by decide, by decide, by decide, by decide, by decide, by decide, by decide⟩

/-- A message of code 5, whose action is UP at power-on. -/
def offered : Message := ⟨9, 5, none, []⟩

/-- A full pass-up queue, an action DROP for code 5, and a message told before. -/
def passUpFull : State :=
  { (withPed .active).updPed 0 (fun e => { e with lastMessage := some 8 }) with
    classifier := { State.reset.classifier with passUp := List.replicate 16 ⟨0, none, 5, []⟩ } }

theorem witness_OffersAreAcceptedOrHeld :
    (passUpFull.ped 0).lastMessage ≠ some offered.number ∧ (passUpFull.ped 0).lastMessage = some 8 ∧
      tget passUpFull.classifier.actions offered.code = .up ∧ 16 ≤ passUpFull.classifier.passUp.length ∧
      (withPed .active).classifier.passUp.length < 16 ∧
      tget (after (.setClass 0 [5, 3]) State.reset).classifier.actions 5 = .drop := by decide

/-- Connector A locked by the host. -/
def lockedA : State := (withPed .active).updSeq 0 fun r => { r with contactor := .locked, locks := ⟨true, false⟩ }

/-- A FAULT_REPORT without connector, a STOP_REQUEST, and a SERVICE_SWITCH set to the LOCKED position. -/
def faultReport : Message := ⟨9, 3, none, [7]⟩
def stopRequest : Message := ⟨9, 2, some .a, []⟩
def serviceSwitch : Message := ⟨9, 4, none, [1]⟩

theorem witness_OffersAreHandedOver :
    (busy.ped 0).lastMessage ≠ some faultReport.number ∧ tget busy.classifier.actions faultReport.code = .toOwner ∧
      tget (after (.setClass 0 [3, 2]) State.reset).classifier.actions faultReport.code = .toOwnerAndUp ∧
      busy.classifier.passUp.length < 16 ∧ tget busy.classifier.actions stopRequest.code = .toOwner ∧
      (busy.sess (connOf 0 .a)).state = .charging ∧ tget busy.classifier.actions serviceSwitch.code = .toOwner ∧
      (busy.seq (connOf 0 .a)).locks = ⟨false, false⟩ ∧ (lockedA.seq (connOf 0 .a)).locks ≠ ⟨false, false⟩ ∧
      (∀ y, (busy.sess (connOf 0 y)).state ≠ .authorized) ∧ card.fits := by
  refine ⟨by decide, rfl, by decide, by decide, rfl, rfl, rfl, rfl, by decide, fun y => ?_, card_fits⟩
  cases y <;> decide

/-- No token is of kind 3, in a table entry or in a message. -/
theorem no_token_of_kind_3 (k : Token) (rest : Frame) :
    tokenBytes (some k) ≠ 3 :: rest ∧
      3 :: rest ≠ (match k.kind with
        | .card => 1
        | .payment => 2) :: byte k.id.length :: k.id := by
  obtain ⟨kind, id⟩ := k
  cases kind <;> simp [tokenBytes]

/-- A TOKEN message out of form, and a switch set to the LOCKED position over an AUTHORIZED session. -/
theorem witness_MessagesOutOfFormAndTheSwitchOff :
    let s := (withSession { charging with state := .authorized }).updSeq 0 fun r =>
      { r with contactor := .locked, locks := ⟨false, true⟩ }
    (∀ k : Token, k.fits → ([3] : Frame) ≠
      (match k.kind with
        | .card => 1
        | .payment => 2) :: byte k.id.length :: k.id) ∧
      tget s.classifier.actions 4 = .toOwner ∧ (s.ped 0).lastMessage ≠ some 9 ∧
      (s.sess (connOf 0 .a)).state = .authorized ∧ (s.ped 0).link ≠ .unconfigured ∧ (s.ped 0).queue.length ≤ 2 ∧
      (s.seq (connOf 0 .a)).locks = ⟨false, true⟩ ∧ (s.seq (connOf 0 .a)).contactor = .locked ∧
      (s.seq (connOf 0 .b)).locks ≠ ⟨false, true⟩ :=
  ⟨fun k _ => (no_token_of_kind_3 k []).2, by decide⟩

/-- Once the switch or the host releases it, an AUTHORIZED connector starts its CLOSE (3.2). -/
theorem test_released_connector_starts_its_close :
    let s := (withSession { charging with state := .authorized }).updSeq 0 fun r =>
      { r with contactor := .locked, locks := ⟨true, false⟩ }
    ((after (.unlock 0 [0]) s).seq 0).contactor = .closing := by decide

/-- FAULT_REPORT without connector faults both connectors, and the switch locks the idle one (2.1, 3.6). -/
theorem test_messages_without_connector_act_on_both :
    let t := busy.offerMessage 0 faultReport
    let u := busy.offerMessage 0 serviceSwitch
    (t.seq 0).fault = some (.reported 7) ∧ (t.seq 1).contactor = .faulted ∧ (t.sess 0).endReason = some .pedestalFault ∧
      (u.seq 1).contactor = .locked ∧ (u.sess 0).endReason = some .lockout := by decide

/-- Connector A charging on a CLOSED contactor. -/
def closedCharging : State := busy.updSeq 0 fun r => { r with contactor := .closed }

theorem witness_LockoutAddsTheHostSource :
    State.reset.linkOf 0 = .unconfigured ∧ lockedA.linkOf 0 ≠ .unconfigured ∧
      (lockedA.seq 0).locks ≠ ⟨false, false⟩ ∧ closedCharging.hasRoom ∧ closedCharging.linkOf 0 ≠ .unconfigured ∧
      (closedCharging.seq 0).locks = ⟨false, false⟩ ∧ (closedCharging.seq 0).contactor.live = true := by
  unfold State.hasRoom; decide

/-- Connector A faulted, with and without a lock source. -/
def faultedA (l : Locks) : State :=
  (withPed .active).updSeq 0 fun r => { r with contactor := .faulted, fault := some .welded, locks := l }

theorem witness_UnlockAndClearFaultReturnAConnector :
    lockedA.hasRoom ∧ (lockedA.sess 0).state ≠ .authorized ∧ (lockedA.seq 0).contactor ≠ .faulted ∧
      ((faultedA ⟨false, false⟩).seq 0).contactor = .faulted ∧
      ((faultedA ⟨false, false⟩).seq 0).locks = ⟨false, false⟩ ∧
      ((faultedA ⟨true, false⟩).seq 0).contactor = .faulted ∧
      ((faultedA ⟨true, false⟩).seq 0).locks ≠ ⟨false, false⟩ ∧ 48 ≤ (48 : Byte).toNat := by
  unfold State.hasRoom; decide

/-- UNLOCK and CLEAR_FAULT over an AUTHORIZED session. -/
theorem witness_ReleasesOfAnAuthorizedConnector :
    let s := fun c l => (withSession { charging with state := .authorized }).updSeq 0 fun r =>
      { r with contactor := c, locks := l }
    (s .locked ⟨true, false⟩).hasRoom ∧ (s .locked ⟨true, false⟩).roomForClose 0 ∧
      ((s .locked ⟨true, false⟩).sess 0).state = .authorized ∧ (s .faulted ⟨false, false⟩).hasRoom ∧
      (s .faulted ⟨false, false⟩).roomForClose 0 ∧ ((s .faulted ⟨false, false⟩).sess 0).state = .authorized := by
  unfold State.hasRoom State.roomForClose; decide

theorem witness_ParkStopStopsThePark :
    mixed.hasRoom ∧ mixed.HeldSound ∧ mixed.sequencer.parkStop = false ∧ (∃ h ∈ mixed.auth.held, h.conn = 1) ∧
      (∀ h ∈ mixed.auth.held, h.conn ≠ 0) ∧ (closedCharging.seq 0).contactor.live = true ∧
      (after (.parkStop 0 []) mixed).sequencer.parkStop = true :=
  ⟨by unfold State.hasRoom; decide, mixed_held_sound, rfl, ⟨_, List.mem_singleton.mpr rfl, rfl⟩, by decide, by decide,
    by decide⟩

/-- Connector A of an ACTIVE pedestal AUTHORIZED and ready in a park stop; every other pedestal UNCONFIGURED. -/
def parked : State :=
  let s := withSession { charging with state := .authorized, readyDeadline := some 90 }
  { s with sequencer := { s.sequencer with parkStop := true } }

theorem parked_ready : parked.readyToClose 0 :=
  ⟨by decide, by decide, by decide, ready, by decide, rfl, rfl, rfl⟩

theorem parked_room : parked.hasRoom ∧ parked.roomForClose 0 := by
  unfold State.hasRoom State.roomForClose; decide

theorem witness_ParkResumeTestsTheCloseCondition :
    parked.hasRoom ∧ parked.sequencer.parkStop = true ∧ parked.readyToClose 0 ∧ (parked.sess 0).state = .authorized ∧
      (∀ n, (parked.sess n).state = .authorized → n = 0) ∧ parked.roomForClose 0 ∧
      (parked.ped (pedOf 0)).queue.length ≤ 2 ∧ (parked.ped 1).link = .unconfigured :=
  ⟨parked_room.1, rfl, parked_ready, by decide, by decide, parked_room.2, by decide, by decide⟩

theorem witness_LookupTakesTheLowestIndex :
    (([18, 52, 86, 120] : Frame).zipIdx.map fun x => x.1.toNat * (2 * x.2 + 1)).sum % 1024 =
      128 * (3 : Fin 8).val + (36 : Fin 128).val := by decide

/-- A table entry for the card. -/
def entry (blocked : Bool) : TokenEntry := ⟨card, blocked, 2, 4294967295, some 0⟩

theorem witness_TokenTableAndWatchAreWritten :
    State.reset.hasRoom ∧ 65535 < 65536 ∧ [some (entry true)].length ≤ 8 ∧
      (∀ e, some e ∈ [some (entry true)] → e.token.fits ∧ e.limit < 4294967296) ∧
      (List.replicate 16 (255 : Byte)).length = 16 ∧ 8 ≤ (8 : Byte).toNat := by
  refine ⟨reset_has_room, by decide, by decide, fun e m => ?_, by decide, by decide⟩
  cases List.mem_singleton.mp m
  exact ⟨card_fits, by decide⟩

/-- The second of two entries out of form. -/
theorem witness_LoadTokensOutOfForm :
    State.reset.hasRoom ∧ (3 :: List.replicate 11 (0 : Byte)).length = 12 ∧ (entryBytes none).length % 20 = 0 ∧
      (entryBytes none).length + 20 + 0 = 20 * (2 : Byte).toNat ∧ 2 ≤ (2 : Byte).toNat ∧ 4 ≤ (4 : Byte).toNat ∧
      (16 ≤ (16 : Byte).toNat ∧ (16 : Byte) ≠ 255) ∧
      ∀ k : Token, k.fits → tokenBytes (some k) ≠ 3 :: List.replicate 11 0 :=
  ⟨reset_has_room, by decide, by decide, by decide, by decide, by decide, by decide,
    fun k _ => (no_token_of_kind_3 k _).1⟩

/-- The card in the table at index 511, beside a LOADED plan slot 0. -/
def tabled (blocked : Bool) (link : UplinkLink) (held : Nat) : State :=
  let s := (withPed .active).updPlan 0 fun p => { p with loaded := true }
  { s with
    auth := { s.auth with
      tokens := tset s.auth.tokens 511 (some (entry blocked))
      held := List.replicate held ⟨40, 0, card, .watched, 8, true⟩ }
    uplink := { s.uplink with link := link } }

/-- A payment token with the card's id. -/
def payment : Token := ⟨.payment, card.id⟩

theorem roomForClose_of_active : (tabled false .online 0).roomForClose 0 := by
  unfold State.roomForClose; decide

theorem witness_TokenDecisionsFollowTheirOrder :
    ((busy.sess 0).state = .charging ∧ (busy.sess 0).token = some card) ∧
      (mixed.sess 1).state ≠ .empty ∧ ¬ (mixed.sess 1).state = .charging ∧ ¬ (mixed.sess 1).state = .complete ∧
      ((lockedA.sess 0).state = .empty ∧ (lockedA.seq 0).locks ≠ ⟨false, false⟩) ∧
      ((faultedA ⟨false, false⟩).sess 0).state = .empty ∧
      (tabled true .online 0).lookup card = some (entry true) ∧
      (tabled false .online 0).lookup card = some (entry false) ∧ (tabled false .online 0).watched card.id = false ∧
      ((tabled false .online 0).plan 0).loaded = true ∧ (tabled false .online 0).roomForClose 0 ∧
      (tabled false .online 7).lookup payment = none ∧ (tabled false .online 7).uplink.link = .online ∧
      (tabled false .online 7).auth.held.length < 8 ∧ 8 ≤ (tabled false .online 8).auth.held.length :=
  ⟨by decide, by decide, by decide, by decide, by decide, by decide, by decide, by decide, by decide, by decide,
    roomForClose_of_active, by decide, by decide, by decide, by decide⟩

/-- The offline rule: a payment in no table, and a watched card on a LOADED and on an EMPTY slot. -/
theorem witness_TokenDecisionsOffline :
    let s := tabled false .offline 0
    let u := { s with auth := { s.auth with watch := tset s.auth.watch 3 (BitVec.allOnes 128) } }
    s.uplink.link = .offline ∧ s.lookup payment = none ∧ u.watched card.id = true ∧
      u.lookup card = some (entry false) ∧ (u.plan 0).loaded = true ∧ u.roomForClose 0 ∧
      ((withPed .active).plan 0).loaded = false := by
  unfold State.roomForClose; decide

/-- A query at connector 1, beside a LOADED plan slot 0. -/
def asked : State := mixed.updPlan 0 fun p => { p with loaded := true }

theorem asked_held_sound : asked.HeldSound := mixed_held_sound

theorem asked_room : asked.hasRoom ∧ asked.roomForClose 1 := by
  unfold State.hasRoom State.roomForClose; decide

theorem witness_AnswersOnTimeDecideTheQuery :
    asked.hasRoom ∧ asked.HeldSound ∧ ⟨1, 3, card, .watched, 8, false⟩ ∈ asked.auth.held ∧
      (asked.plan (planTaken (asked.lookup card) (some 0) (asked.defaultPlan 1))).loaded = true ∧
      (asked.plan (planTaken (asked.lookup card) (some 15) (asked.defaultPlan 1))).loaded = false ∧
      asked.roomForClose 1 :=
  ⟨asked_room.1, asked_held_sound, List.mem_singleton.mpr rfl, by decide, by decide, asked_room.2⟩

/-- Operands at the edges of what AUTH_ANSWER and REMOTE_START take. -/
theorem witness_OperandsOutOfRange :
    asked.hasRoom ∧ 48 ≤ (48 : Byte).toNat ∧ (16 ≤ (16 : Byte).toNat ∧ (16 : Byte) ≠ 255) ∧
      ¬ (48 ≤ (47 : Byte).toNat ∨ (16 ≤ (255 : Byte).toNat ∧ (255 : Byte) ≠ 255)) ∧ 2 ≤ (2 : Byte).toNat ∧
      4 ≤ (4 : Byte).toNat ∧ (3 :: List.replicate 11 (0 : Byte)).head? ≠ some 0 ∧
      ∀ k : Token, k.fits → tokenBytes (some k) ≠ 3 :: List.replicate 11 0 :=
  ⟨asked_room.1, by decide, by decide, by decide, by decide, by decide, by decide,
    fun k _ => (no_token_of_kind_3 k _).1⟩

/-- A session that waits for the late answer to tag 3. -/
def late (k : SessionKind) : State := withSession { charging with state := k, lateTag := some 3 }

theorem witness_LateAnswersAdjustOrAreIgnored :
    (late .charging).hasRoom ∧ (∀ h ∈ (late .charging).auth.held, h.conn = 0 → h.tag ≠ 3) ∧
      ((late .charging).sess 0).lateTag = some 3 ∧ ((late .charging).sess 0).state = .charging ∧
      ((late .stopping).sess 0).state = .stopping ∧ ((late .stopping).sess 0).lateTag = some 3 ∧
      ((late .charging).sess 0).lateTag ≠ some 4 ∧
      ((late .authorized).sess 0).state = .authorized := by
  refine ⟨by unfold State.hasRoom; decide, ?_, by decide, by decide, by decide, by decide, by decide, by decide⟩
  intro h m
  have : (late .charging).auth.held = [] := rfl
  rw [this] at m; cases m

theorem witness_RemoteStartAcceptsOrRefuses :
    (tabled false .online 0).hasRoom ∧ card.fits ∧ (tabled false .online 0).linkOf 0 ≠ .unconfigured ∧
      ((tabled false .online 0).sess 0).state = .empty ∧ ((tabled false .online 0).seq 0).locks = ⟨false, false⟩ ∧
      ((tabled false .online 0).seq 0).contactor ≠ .faulted ∧ ((tabled false .online 0).plan 0).loaded = true ∧
      ((tabled false .online 0).plan 15).loaded = false ∧
      ((tabled false .online 0).ped (pedOf 0)).queue.length < 4 ∧ State.reset.linkOf 0 = .unconfigured :=
  ⟨by unfold State.hasRoom; decide, card_fits, by decide, by decide, by decide, by decide, by decide, by decide,
    by decide, by decide⟩

theorem witness_QueryDeadlineAppliesTheOfflineRule :
    asked.HeldSound ∧ ⟨1, 3, card, .watched, 8, false⟩ ∈ asked.auth.held ∧ 8 * 1000 ≤ Config.lastMs ∧
      asked.roomForClose 1 ∧ asked.lookup card = none ∧ asked.auth.offlineAccept = false ∧
      (asked.plan (planTaken (asked.lookup card) none (asked.defaultPlan 1))).loaded = true :=
  ⟨asked_held_sound, List.mem_singleton.mpr rfl, by decide, asked_room.2, by decide, by decide, by decide⟩

theorem witness_StopRequestsAndDeadlinesStopTheSession :
    asked.hasRoom ∧ (asked.sess 0).state = .empty ∧ (asked.sess 1).state = .awaitingAuth ∧
      ((late .stopping).sess 0).state = .stopping ∧ ((late .charging).sess 0).state.open_ ∧
      ((withSession { charging with state := .authorized, readyDeadline := some 90 }).sess 0).readyDeadline = some 90 ∧
      ((late .charging).sess 0).startSec = some 0 ∧ (0 + 48 * 3600) * 1000 ≤ Config.lastMs ∧
      ¬ ((late .stopping).sess 0).state.open_ ∧ 48 ≤ (48 : Byte).toNat :=
  ⟨asked_room.1, by decide, by decide, by decide, Or.inr (Or.inl (by decide)), by decide, by decide, by decide,
    by unfold SessionKind.open_; decide, by decide⟩

/-- A session whose vehicle was seen plugged, under a lowered maximum. -/
def unplugging (k : SessionKind) (c : ContactorState) : State :=
  let s := (withSession { charging with state := k, plugSeen := true }).updSeq 0 fun r => { r with contactor := c }
  { s with sessions := { s.sessions with maxHours := 1, maxFrom := 3602 } }

/-- The session step at an unplug, and a lowered maximum that an age already exceeds. -/
theorem witness_UnplugsAndALoweredMaximum :
    ({ ready with plugged := false } : ConnReport).plugged = false ∧
      ((unplugging .charging .closed).sess 0).plugSeen = true ∧
      ¬ ((unplugging .charging .closed).seq 0).contactor.reopened ∧
      ((unplugging .charging .opened).seq 0).contactor.reopened ∧
      ((unplugging .awaitingAuth .opened).sess 0).state = .awaitingAuth ∧ (asked.sess 1).plugSeen = false ∧
      0 + (unplugging .charging .closed).sessions.maxHours * 3600 + 1 <
        (unplugging .charging .closed).sessions.maxFrom ∧ 3602 * 1000 ≤ Config.lastMs := by
  unfold ContactorState.reopened; decide

/-- R91: a session whose age the lowered maximum has passed is stopped at the next second. -/
theorem test_lowered_maximum_stops_at_the_next_second :
    let s := { withSession charging with clock := { State.reset.clock with ms := 7200000 } }
    let t := after (.maxDuration 0) (after (.setSessionTiming 0 [0, 90, 0, 120, 1]) s)
    t.clock.ms = 7201000 ∧ (t.sess 0).state = .stopping ∧ (t.sess 0).stopDeadline = some (7201 + 120) := by decide

/-- A STOPPING session with a settlement queue of k records. -/
def stopping (k : Nat) : State :=
  let s := withSession { charging with state := .stopping, endReason := some .userStop, stopDeadline := some 120 }
  { s with settlement := ⟨List.replicate k (settled 7), 8, false⟩ }

theorem witness_StopDeadlineClosesTheSession :
    ((stopping 96).sess 0).state = .stopping ∧ ((stopping 96).sess 0).stopDeadline = some 120 ∧
      120 * 1000 ≤ Config.lastMs ∧ (stopping 96).settlement.records.length = 96 ∧
      (stopping 95).settlement.records.length < 96 ∧ ((stopping 96).sess 0).startSec = some 0 ∧
      ((stopping 96).seq 0).contactor.reopened ∧ ¬ (((stopping 96).enterOpening 0).seq 0).contactor.reopened := by
  refine ⟨by decide, by decide, by decide, List.length_replicate, ?_, by decide, .inl (by decide), ?_⟩
  · show (List.replicate 95 (settled 7)).length < 96
    rw [List.length_replicate]; decide
  · unfold ContactorState.reopened; decide

/-- Plan contents at the top of every field's range. -/
def dearPlan : PlanContents :=
  ⟨some ⟨65, 90, 77⟩, 4294967295, #v[10000000, 9999999, 0, 4294967295], #v[65535, 0, 0, 0], 255⟩

theorem witness_PlansAreWrittenWhileUnused :
    State.reset.hasRoom ∧
      (∃ x, dearPlan.currency = some x ∧ isCapital x.c0 = true ∧ isCapital x.c1 = true ∧ isCapital x.c2 = true) ∧
      dearPlan.startFee < 4294967296 ∧ (∀ b, tget dearPlan.energyPrice b < 4294967296) ∧
      (∀ b, tget dearPlan.idlePrice b < 65536) ∧ dearPlan.grace < 256 ∧ 0 < (busy.plan 0).useCount ∧
      (State.reset.plan 15).useCount = 0 :=
  ⟨reset_has_room, ⟨_, rfl, by decide, by decide, by decide⟩, by decide, by decide, by decide, by decide, by decide,
    by decide⟩

theorem witness_PlanRequestsOutOfRange :
    State.reset.hasRoom ∧ 16 ≤ (16 : Byte).toNat ∧
      ∀ x, ({ dearPlan with currency := some ⟨65, 91, 77⟩ } : PlanContents).currency = some x →
        ¬ (isCapital x.c0 = true ∧ isCapital x.c1 = true ∧ isCapital x.c2 = true) :=
  ⟨reset_has_room, by decide, fun x h => by cases h; decide⟩

theorem witness_BandInForceFollowsTheSchedule :
    scheduleSound [⟨600, 1⟩, ⟨1439, 2⟩] ∧ 1439 ≤ 86399 / 60 ∧
      (∀ x ∈ [(⟨600, 1⟩ : Boundary), ⟨1439, 2⟩], x.minute ≤ 86399 / 60 → x.minute ≤ 1439) ∧
      (∀ x ∈ [(⟨600, 1⟩ : Boundary), ⟨1439, 2⟩], 35999 / 60 < x.minute) ∧
      [(⟨600, 1⟩ : Boundary), ⟨1439, 2⟩].getLast? = some ⟨1439, 2⟩ ∧ State.reset.clock.wall = none :=
  ⟨⟨by decide, by show (1439 : Nat) < 1440; decide⟩, by decide, by decide, by decide, by decide, by decide⟩

theorem witness_ClockRequestsTestTheBand :
    State.reset.hasRoom ∧ 65535 < 65536 ∧ 86399 < 86400 ∧ 86400 ≤ 4294967295 ∧
      scheduleSound (List.replicate 1 ⟨1439, 3⟩) ∧ (List.replicate 8 (⟨7, 3⟩ : Boundary)).length ≤ 8 ∧
      ¬ scheduleSound (List.replicate 8 ⟨7, 3⟩) :=
  ⟨reset_has_room, by decide, by decide, by decide, by show (1439 : Nat) < 1440; decide, by decide,
    fun h => absurd h.1 (by decide)⟩

/-- A band of 4 in the last of eight boundaries. -/
theorem witness_SetBandsWithABandOutOfRange :
    State.reset.hasRoom ∧ (8 : Byte).toNat ≤ 8 ∧ (List.replicate 21 (0 : Byte)).length % 3 = 0 ∧
      (List.replicate 21 (0 : Byte)).length + 3 + ([] : Frame).length = 3 * (8 : Byte).toNat ∧ 4 ≤ (4 : Byte).toNat :=
  ⟨reset_has_room, by decide, by decide, by decide, by decide⟩

/-- The busy state with two minute tests still due: the boundary at minute 1,439 and the minute before it. -/
def overdue : State := { busy with clock := { busy.clock with minutesDue := 2 } }

theorem witness_ClockRequestsTakeDueTests :
    overdue.hasRoom ∧ 0 < overdue.clock.minutesDue ∧
      exec .wallClockMinute overdue = .next (after .wallClockMinute overdue) :=
  ⟨by unfold State.hasRoom; decide, by decide, rfl⟩

/-- R113: each minute entered is tested: first 1,438, in band 1, then 1,439, in band 2. -/
theorem test_each_minute_due_is_tested :
    let t := after .wallClockMinute overdue
    t.clock.band = 1 ∧ t.clock.minutesDue = 1 ∧ (after .wallClockMinute t).clock.band = 2 ∧
      (after (.setTime 0 (be 2 7 ++ be 4 0)) overdue).clock.epoch = 3 := by decide

theorem witness_MinutesAccrueAndTestTheBand :
    busy.clock.wall = some ⟨65535, 86399⟩ ∧ busy.clock.minutesDue = 0 ∧ overdue.clock.minutesDue = 2 ∧
      (1438 + 2 - 1) % 1440 = 86399 / 60 % 1440 ∧
      (busy.sec + (60 - 86399 % 60)) * 1000 ≤ Config.lastMs ∧ (busy.clock.ticksTaken + 1) * 60 * 1000 ≤ Config.lastMs ∧
      (busy.sess 0).state ≠ .complete ∧
      ((withSession { charging with state := .complete, grace := 1 }).sess 0).state = .complete ∧
      ((withSession { charging with state := .complete, grace := 0 }).sess 0).plan = some (0, 1) := by decide

theorem witness_ReadingsArePricedByBand :
    (before712.sess 14).state.metered = true ∧ (before712.sess 14).baseline = some (1000000, 7200000) ∧
      (before712.sess 14).plan = some (3, 0) ∧ (before712.clock.epoch - (before712.sess 14).lastEpoch).toNat = 1 ∧
      ((1004310 : BitVec 32) - 1000000).toNat ≤ 6000 ∧ (busy.sess 0).baseline = none ∧
      (busy.sess 0).state.metered = true := by decide

/-- 7.8: a priced reading that takes the running cost past the threshold stops the session. -/
theorem test_priced_reading_reaches_the_threshold :
    let s := before712.updSess 14 fun e => { e with threshold := 1600 }
    let t := s.deliverReading 14 { ready with reading := 1006000, latch := some (5, 1004310) }
    (s.sess 14).state = .charging ∧ (t.sess 14).running = 1633 ∧ (t.sess 14).state = .stopping ∧
      (t.sess 14).endReason = some .budget := by decide

theorem witness_OneEpochIsPricedAtTheCurrentBand :
    let s := { before712 with clock := { before712.clock with epoch := 4 } }
    (s.sess 14).state.metered = true ∧ (s.sess 14).baseline = some (1000000, 7200000) ∧
      (s.sess 14).plan = some (3, 0) ∧ (s.sess 14).lastEpoch = s.clock.epoch := by decide

theorem witness_PassKeepsEveryLimit :
    before89.participates 2 = true ∧ before89.participates 0 = true ∧
      (before89.sess 0).cls < (before89.sess 2).cls ∧ (withPed .unreachable).linkOf 0 = .unreachable ∧
      (({ before89 with alloc := { before89.alloc with baseLimit := 100 } } : State).pass.setpoint 2).target <
        ({ before89 with alloc := { before89.alloc with baseLimit := 100 } } : State).pass.pedShare 2 := by decide

/-- A curtailment to 100 kW until second 60, and a grant at connector 0 that holds until second 20. -/
def curtailed : State :=
  ({ withPed .active with
      alloc := { State.reset.alloc with baseLimit := 600, curtailment := some ⟨100, 60⟩ } }).updSetpoint 0 fun x =>
    { x with grant := 40, holdExpiry := some 20 }

theorem witness_LimitsAndHoldsBringAPass :
    curtailed.hasRoom ∧ min (256 * 2 + 88) 4000 = curtailed.alloc.baseLimit ∧
      min (256 * 255 + 255) 4000 ≠ curtailed.alloc.baseLimit ∧ (∃ c, curtailed.alloc.curtailment = some c ∧ c.limit = 100) ∧
      (∀ c, State.reset.alloc.curtailment = some c → c.limit ≠ 100) ∧ 60 * 1000 ≤ Config.lastMs ∧
      (curtailed.setpoint 0).holdExpiry = some 20 ∧ State.reset.alloc.curtailment = none :=
  ⟨by unfold State.hasRoom; decide, by decide, by decide, ⟨_, rfl, rfl⟩, (fun c h => by cases h), by decide, by decide,
    by decide⟩

theorem waiting_sound : waiting.WaitingSound := by
  refine ⟨by decide, by decide, by decide, fun _ => List.length_replicate⟩

theorem witness_SettlementsAreReadThenDiscarded :
    waiting.hasRoom ∧ waiting.WaitingSound ∧ waiting.settlement.records = settled 7 :: List.replicate 95 (settled 7) ∧
      waiting.settlement.readMark = true ∧ waiting.sessions.waiting = [0] ∧ State.reset.settlement.records = [] ∧
      (stopping 1).settlement.readMark = false ∧ (stopping 1).settlement.records = [settled 7] ∧
      busy.settlement.readMark = true ∧ busy.sessions.waiting = [] :=
  ⟨by unfold State.hasRoom; decide, waiting_sound, rfl, rfl, rfl, rfl, rfl, rfl, rfl, rfl⟩

theorem witness_TimeMomentsChangeOnlyTheClock :
    State.reset.pending = [] ∧ State.reset.clock.ms < Config.lastMs ∧
      ({ withPed .active with line := { (withPed .active).line with rollTimer := some 0 } } : State).line.rollTimer =
        some 0 ∧ ((withPed .active).ped 0).configured = true ∧ ((withPed .active).ped 0).nextPoll = some 1000 ∧
      1000 + 2 * 1000 ≤ Config.lastMs ∧
      (((withPed .active).updSeq 0 fun r => { r with settleDeadline := some 300 }).seq 0).settleDeadline = some 300 ∧
      (curtailed.setpoint 0).holdExpiry = some 20 ∧ (20 + 1) * 1000 ≤ Config.lastMs ∧
      (after (.readEvents 0 []) State.reset).uplink.silenceDeadline = some 30 ∧
      (after (.readEvents 0 []) State.reset).uplink.link = .online ∧ State.reset.uplink.link = .offline := by decide

/-- The busy state's pedestals are sound. -/
theorem busy_pedestals_sound : busy.PedestalsSound := by
  refine ⟨by decide, by decide, by decide, fun p q k hp hq _ _ => ?_, fun x h _ => (by cases h),
    fun w h => (by cases h)⟩
  have : ∀ p, (busy.ped p).configured = true → p = 0 := by decide
  rw [this p hp, this q hq]

theorem witness_RestartClearsAndKeeps :
    busy.hasRoom ∧ busy.SessionsSound ∧ busy.NoticeSound ∧ busy.PedestalsSound :=
  ⟨by unfold State.hasRoom; decide, busy_sessions_sound, by unfold State.NoticeSound UplinkState.shares; decide,
    busy_pedestals_sound⟩

/-- A session that RESTART closes, and an increase on the line at that moment. -/
theorem witness_RestartClosesAndTakesTheIncrease :
    let s := busy.updSetpoint 0 fun x => { x with state := .increaseSent, inFlight := some 20 }
    (s.sess 0).state.open_ ∧ ((stopping 1).sess 0).state = .stopping ∧
      (allConns.filter fun n => (s.sess n).state != .empty && (s.sess n).state != .awaitingAuth &&
        (s.sess n).state != .closed) = [0] ∧
      (s.setpoint 0).state = .increaseSent ∧ (s.setpoint 0).inFlight = some 20 ∧ s.linkOf 0 ≠ .unreachable :=
  ⟨.inr (.inl rfl), by decide⟩

/-- An ONLINE uplink with what waits to be sent. -/
def outgoing (held : List HeldEntry) (up : List PassUpEntry) (sending : Option OutFrame) : State :=
  { State.reset with
    uplink := { State.reset.uplink with link := .online, sending := sending }
    auth := { State.reset.auth with held := held }
    classifier := { State.reset.classifier with passUp := up } }

theorem witness_TransmitterSendsInOrder :
    busy.uplink.sending = none ∧ busy.uplink.noticePending = true ∧ full.uplink.noticePending = false ∧
      full.uplink.responses = ⟨1, 2, .ok, []⟩ :: List.replicate 7 ⟨1, 2, .ok, []⟩ ∧
      (let s := outgoing [⟨0, 1, card, .watched, 8, true⟩, ⟨1, 2, card, .watched, 8, false⟩] [] none
       s.uplink.responses = [] ∧ s.uplink.link = .online ∧
        s.auth.held = [⟨0, 1, card, .watched, 8, true⟩] ++ ⟨1, 2, card, .watched, 8, false⟩ :: []) ∧
      (let s := outgoing [] [⟨0, none, 5, []⟩] none
       s.classifier.passUp = ⟨0, none, 5, []⟩ :: []) ∧
      (outgoing [] [] (some (.passUp ⟨0, none, 5, []⟩ true))).uplink.sending = some (.passUp ⟨0, none, 5, []⟩ true) ∧
      State.reset.uplink.link = .offline := by decide

/-- Every class of work on offer at once. -/
def offering : State :=
  let s := (withPed .active).updPed 0 fun e => { e with nextPoll := some 0, queue := [⟨.clear, .lineController⟩] }
  { s.updSlots 1 (fun _ => ⟨true, true, 5⟩) with clock := { State.reset.clock with ms := 2000 } }

theorem witness_ArbiterServesClassesInOrder :
    offering.nextWork = some (.openSlot 1) ∧ offering.line.inflight = none ∧ offering.line.window = none ∧
      (let s := offering.updSlots 1 fun _ => ⟨false, false, 0⟩
       s.nextWork = some (.agedPoll 0) ∧
        (s.updPed 0 fun e => { e with nextPoll := some 1 }).nextWork = some (.head 0 ⟨.clear, .lineController⟩) ∧
        (s.updPed 0 fun e => { e with nextPoll := some 1, queue := [] }).nextWork = some (.duePoll 0)) := by decide

theorem witness_ArbiterStartsBroadcastsPollsAndSlots :
    ({ offering with line := { offering.line with pendingLatch := some 7 } } : State).nextWork = some (.latch 7) ∧
      (withPed .quiet).nextWork = some .rollCall ∧
      (offering.updPed 0 fun e => { e with resync := true }).nextWork = some (.resyncPoll 0) ∧
      (offering.updSlots 1 fun _ => ⟨false, false, 0⟩).nextWork = some (.agedPoll 0) ∧
      ((offering.updSlots 1 fun _ => ⟨false, false, 0⟩).updPed 0 fun e =>
        { e with nextPoll := some 1, queue := [] }).nextWork = some (.duePoll 0) ∧
      offering.nextWork = some (.openSlot 1) ∧
      (offering.updSlots 1 fun _ => ⟨false, true, 5⟩).nextWork = some (.decrease 1) := by decide

theorem witness_ArbiterStartsQueueHeadsAndSetpoints :
    queueFull.nextWork = some (.head 0 ⟨.clear, .lineController⟩) ∧
      (let s := ({ withPed .active with alloc := { State.reset.alloc with baseLimit := 20 } }).updSetpoint 1 fun x =>
        { x with target := 20, state := .increaseDeferred }
       s.nextWork = some (.setpoint ⟨1, 20, true⟩)) ∧
      (let s := { curtailed with clock := { State.reset.clock with ms := 16000 } }
       (s.updPed 0 fun e => { e with nextPoll := some 15000 }).nextWork = some (.setpoint ⟨0, 40, false⟩)) := by decide

/-- A CLOSE at the head of its queue, for an AUTHORIZED and for a COMPLETE session (log entry 35). -/
theorem witness_ACloseAtTheHead :
    let s := fun k => (withSession { charging with state := k }).updPed 0 fun e => { e with queue := [⟨.close 0, .sequencer⟩] }
    (s .authorized).nextWork = some (.head 0 ⟨.close 0, .sequencer⟩) ∧
      (s .complete).nextWork = some (.head 0 ⟨.close 0, .sequencer⟩) := by decide

theorem witness_StatusRepliesAreStoredAndDelivered :
    (onLine .poll).line.inflight = some (txn .poll) ∧ (txn .poll).target = some 0 ∧ (txn .poll).kind = .poll ∧
      (txn .poll).discarded = false ∧ fullReply.fits ∧ ((onLine .poll).ped 0).link = .active :=
  ⟨rfl, rfl, rfl, rfl, witness_StatusRepliesAreReadAsSent.1, by decide⟩

/-- Connector A with a sequencer record and a session state. -/
def atContact (r : SeqRecord) (k : SessionKind) : State :=
  (withSession { charging with state := k }).updSeq 0 fun _ => r

/-- The contact step at an OPEN connector: the close condition, and the re-close after the idle release. -/
theorem witness_TheContactStepAtOpen :
    let s := { parked with sequencer := { parked.sequencer with parkStop := false } }
    let t := atContact { SeqRecord.initial with released := true, restCount := 19 } .charging
    (s.seq 0).contactor = .opened ∧ ready.contact = .opened ∧ (s.seq 0).released = false ∧ s.readyToClose 0 ∧
      (s.sess 0).state = .authorized ∧ s.sequencer.parkStop = false ∧ s.roomForClose 0 ∧ (t.seq 0).released = true ∧
      (t.sess 0).state = .charging ∧ ready.plugged = true ∧ 0 < ready.demand ∧
      t.sequencer.idleRelease ≤ min ((t.seq 0).restCount + 1) 20 ∧ t.sequencer.parkStop = false ∧ t.roomForClose 0 ∧
      ({ ready with contact := .bad } : ConnReport).contact ≠ .opened := by
  refine ⟨rfl, rfl, rfl, parked_ready, rfl, rfl, parked_room.2, ?_⟩
  unfold State.roomForClose; decide

/-- The contact step at a VERIFYING connector, before and at its settle deadline. -/
theorem witness_TheContactStepAtVerifying :
    let rec_ : SeqRecord := { SeqRecord.initial with contactor := .verifying, settleDeadline := some 0 }
    let s := atContact rec_ .authorized
    (s.seq 0).contactor = .verifying ∧ (∀ d, (s.seq 0).settleDeadline = some d → d ≤ s.clock.ms) ∧
      s.clock.ms < 300 ∧ (s.sess 0).plan = some (0, 1) ∧ (s.seq 0).attempt < 3 ∧ s.roomForClose 0 ∧
      ((atContact { rec_ with attempt := 3 } .complete).sess 0).state = .complete ∧
      3 ≤ ((atContact { rec_ with attempt := 3 } .complete).seq 0).attempt := by
  refine ⟨rfl, fun d h => ?_, ?_⟩
  · cases h; decide
  · unfold State.roomForClose; decide

/-- The contact step at a CLOSED, an OPENING and a LOCKED connector. -/
theorem witness_TheContactStepAtTheOthers :
    let closed := atContact { SeqRecord.initial with contactor := .closed, idleCount := 19 } .charging
    let opening := atContact { SeqRecord.initial with contactor := .opening, openAcked := true } .stopping
    let resting : ConnReport := { ready with contact := .closed, demand := 0 }
    (closed.seq 0).contactor = .closed ∧ resting.power = 0 ∧ closed.sequencer.idleRelease ≤ min (19 + 1) 20 ∧
      min (0 + 1) 20 < closed.sequencer.idleRelease ∧ (opening.seq 0).openAcked = true ∧
      (opening.seq 0).repliesSinceOpen < 2 ∧ (opening.seq 0).locks = ⟨false, false⟩ ∧
      (opening.sess 0).state ≠ .authorized ∧ SeqRecord.initial.openAcked = false ∧
      (lockedA.seq 0).contactor = .locked := by decide

/-- An OPENING connector whose session is AUTHORIZED. -/
theorem witness_TheContactStepBackToOpen :
    let s := atContact { SeqRecord.initial with contactor := .opening, openAcked := true } .authorized
    (s.seq 0).locks = ⟨false, false⟩ ∧ (s.sess 0).state = .authorized ∧ s.roomForClose 0 ∧ ready.contact = .opened := by
  unfold State.roomForClose; decide

theorem witness_TheSessionStep :
    let s := atContact { SeqRecord.initial with contactor := .closed } .charging
    (s.sess 0).state = .charging ∧ (s.sess 0).plan = some (0, 1) ∧ ready.plugged = true ∧ ready.complete = false ∧
      ((atContact SeqRecord.initial .complete).sess 0).state = .complete ∧ 0 < ready.demand := by decide

theorem witness_AcksEndTheirCommand :
    (onLine (.queued (.close 0))).line.inflight = some (txn (.queued (.close 0))) ∧
      (txn (.queued (.close 0))).target = some 0 ∧ (txn (.queued (.close 0))).discarded = false ∧
      (((onLine (.queued (.close 0))).updSeq 0 fun r => { r with contactor := .closing }).seq 0).contactor = .closing ∧
      (txn (.increase 0 20 20)).kind = .increase 0 20 20 := by decide

theorem witness_NaksEndTheirCommand :
    let s := ((onLine (.queued (.close 0))).updSeq 0 fun r => { r with contactor := .closing, attempt := 3 }).updSess 0
      fun _ => charging
    s.line.inflight = some (txn (.queued (.close 0))) ∧ pedOf 0 = 0 ∧ (s.seq 0).contactor = .closing ∧
      (s.seq 0).openPending = false ∧ 3 ≤ (s.seq 0).attempt ∧ (s.sess 0).state = .charging ∧
      (s.ped 0).link ≠ .unconfigured ∧ (s.ped 0).queue.length < 4 ∧ SeqRecord.initial.attempt < 3 := by decide

/-- A refused CLOSE whose opening waits, whose session is COMPLETE, and which the connector no longer waits for. -/
theorem witness_NaksWithoutARetry :
    let s := fun r => (atContact r .complete).setInflight (some (txn (.queued (.close 0))))
    let waits : SeqRecord := { SeqRecord.initial with contactor := .closing, openPending := true }
    let done : SeqRecord := { SeqRecord.initial with contactor := .closing }
    ((s waits).seq 0).contactor = .closing ∧ ((s waits).seq 0).openPending = true ∧ ((s done).seq 0).attempt < 3 ∧
      ((s done).sess 0).state = .complete ∧ ((s done).seq 0).openPending = false ∧
      ((s SeqRecord.initial).seq 0).contactor ≠ .closing ∧
      (s done).line.inflight = some (txn (.queued (.close 0))) ∧ (txn (.queued (.close 0))).discarded = false := by
  decide

theorem witness_FailedAttemptsAreRetriedThenLost :
    (onLine .poll).line.inflight = some (txn .poll) ∧ (txn .poll).attempt < 3 ∧ (txn .poll).deadline ≤ Config.lastMs ∧
      lengthGood [1, 6, 130] = false ∧ lengthGood [1, 5, 130, 0, 0] = true ∧ checkGood [1, 5, 130, 0, 0] = false ∧
      lengthGood (nakFrame 1) = true ∧ checkGood (nakFrame 1) = true ∧ (nakFrame 1).head? ≠ some (byte (0 + 1)) ∧
      (∀ n v h, (txn .poll).kind ≠ .decrease n v h) ∧ (txn (.decrease 1 5 20)).kind = .decrease 1 5 20 ∧
      fullReply.fits ∧ (txn (.openSlot 0)).kind ≠ .poll :=
  ⟨rfl, by decide, by decide, by decide, by decide, by decide, by decide, by decide, by decide,
    fun _ _ _ => TxnKind.noConfusion, rfl, witness_StatusRepliesAreReadAsSent.1, TxnKind.noConfusion⟩

/-- A transaction with pedestal 1 whose third attempt is on the line. -/
def lastTry (k : TxnKind) (s : State) : State := s.setInflight (some { txn k with attempt := 3 })

/-- The third failure: of a POLL, of a renewal, of a CLOSE and at an UNCONFIGURED pedestal. -/
theorem witness_ThirdFailures :
    let closing := (atContact { SeqRecord.initial with contactor := .closing } .charging)
    (lastTry .poll (withPed .active)).line.inflight = some { txn .poll with attempt := 3 } ∧
      3 ≤ ({ txn .poll with attempt := 3 } : Txn).attempt ∧ ((withPed .active).ped 0).link ≠ .unconfigured ∧
      ((withPed .active).ped 0).queue = [] ∧ (State.reset.ped 0).link = .unconfigured ∧
      (txn (.renewal 1 5 20)).kind = .renewal 1 5 20 ∧ pedOf 1 = 0 ∧ (closing.seq 0).contactor = .closing ∧
      (closing.seq 0).openPending = false ∧ (closing.seq 0).attempt < 3 ∧ (closing.sess 0).state = .charging ∧
      (closing.ped 0).queue = [] := by decide

/-- R10: a lost CLOSE counts as a NAK, which queues it again, and the pedestal is UNREACHABLE. -/
theorem test_lost_close_is_queued_again :
    let s := lastTry (.queued (.close 0)) (atContact { SeqRecord.initial with contactor := .closing } .charging)
    let t := after .replyTimeout s
    (t.ped 0).link = .unreachable ∧ (t.ped 0).queue = [⟨.close 0, .sequencer⟩] ∧ (t.seq 0).attempt = 2 := by decide

theorem witness_StrayAndDiscardedFramesHaveNoEffect :
    State.reset.line.inflight = none ∧ ({ txn .rollCall with target := none } : Txn).target = none ∧
      ({ txn .poll with discarded := true } : Txn).target = some 0 ∧ (txn .poll).deadline ≤ Config.lastMs := by decide

/-- A roll-call window at the last slot. -/
def window (link : LinkState) : State :=
  let s := (withPed link).updPed 0 fun e => { e with slot := some 23, absentCount := 2 }
  { s with line := { s.line with window := some ⟨23, 23, 0⟩, inflight := some { txn .rollCall with target := none } } }

theorem window_sound : (window .quiet).PedestalsSound := by
  refine ⟨by decide, by decide, by decide, fun p q k hp hq _ _ => ?_, fun x h _ => by cases h; rfl,
    fun w h => ⟨_, rfl, rfl, rfl⟩⟩
  have : ∀ p, ((window .quiet).ped p).configured = true → p = 0 := by decide
  rw [this p hp, this q hq]

theorem witness_RollCallWindowServesEachSlot :
    (window .quiet).PedestalsSound ∧ (window .quiet).line.window = some ⟨23, 23, 0⟩ ∧
      ((window .quiet).ped 0).configured = true ∧ ((window .quiet).ped 0).slot = some 23 ∧
      0 + 2 * (23 + 1) ≤ Config.lastMs ∧ ((window .quiet).ped 0).absentCount = 2 ∧ ((window .quiet).ped 0).queue = [] ∧
      checkGood [0, 0, 0] = false ∧ 3 < (ackFrame 0).length ∧ checkGood (ackFrame 0) = true ∧
      (∀ q j, ((window .quiet).ped q).configured = true → ((window .quiet).ped q).slot = some j → j ≤ 23) :=
  ⟨window_sound, rfl, by decide, by decide, by decide, by decide, by decide, by decide, by decide, by decide, by decide⟩

/-! ### Power-on in the middle of a transaction -/

/-- R1: power-on keeps the transaction in flight, which no power-on rule names. -/
theorem test_power_on_keeps_the_transaction_in_flight :
    (after .powerOn (onLine .poll)).line.inflight = some (txn .poll) ∧
      ((after .powerOn (onLine .poll)).ped 0).link = .unconfigured := by decide

/-- R24: the pedestal that answers that transaction is still read with its power-on values. -/
theorem test_unconfigured_pedestal_reads_its_power_on_values :
    let t := after (.statusReply (statusFrame 0 fullReply)) (after .powerOn (onLine .poll))
    t.line.inflight = none ∧ (t.ped 0).lastReply = some 0 ∧
      lastResponse (after (.readPedestal 7 [1]) t) = some ⟨132, 7, .ok, 0 :: 255 :: List.replicate 24 0⟩ := by decide

end Sys2Proof.Tests
end

section
/-! SUPPORT and PROOF. Metering and price arithmetic (R122 to R131): what each stage leaves of a session entry, what a
reading does at an epoch gap of 0, and the statement of R125. -/

namespace Sys2Proof.Machine

/-! ### Session flags (R80) -/

theorem SessionFlag.bit_injective : Function.Injective SessionFlag.bit := by
  intro f g
  cases f <;> cases g <;> decide

theorem hasFlag_addFlag_of_ne (f g : SessionFlag) (fs : SessionFlags) (h : f ≠ g) :
    hasFlag f (addFlag g fs) = hasFlag f fs := by
  have hbit : g.bit ≠ f.bit := fun e => h (SessionFlag.bit_injective e.symm)
  simp [hasFlag, addFlag, BitVec.getLsbD_twoPow, hbit]

theorem hasFlag_addFlagIf_of_ne (c : Bool) (f g : SessionFlag) (fs : SessionFlags) (h : f ≠ g) :
    hasFlag f (addFlagIf c g fs) = hasFlag f fs := by
  unfold addFlagIf
  split
  · exact hasFlag_addFlag_of_ne f g fs h
  · rfl

@[simp] theorem addFlagIf_false (f : SessionFlag) (fs : SessionFlags) : addFlagIf false f fs = fs := rfl

/-! ### Stage 3 at an epoch gap of 0 (R125) -/

/-- The energy that Stages 1 and 2 bill for a reading: none when it is reverse, else the delta up to the limit. -/
def billedEnergy (rating elapsed : Nat) (base reading : BitVec 32) : Nat :=
  if 2147483648 ≤ delta reading base then 0 else min (delta reading base) (plausibleLimit rating elapsed)

/-- The one part by band of an energy that is not divided; no energy makes no part. -/
def wholePart (b : Band) (d : Nat) : List (Band × Nat) := if d = 0 then [] else [(b, d)]

theorem bandSplit_of_same_epoch (c : ClockState) (prices : Table Nat 4) (base : BitVec 32)
    (latch : Option (BitVec 8 × BitVec 32)) (d : Nat) :
    bandSplit c prices c.epoch base latch d = (wholePart c.band d, false) := by
  have hgap : (c.epoch - c.epoch).toNat = 0 := by simp
  unfold bandSplit wholePart
  simp only [hgap, if_true]
  split <;> rfl

/-- What Stages 1 to 3 make of a reading at an epoch gap of 0: no latch is asked for and none is missed. -/
def wholeReading (c : ClockState) (rating : Nat) (base : BitVec 32) (since : Nat) (reading : BitVec 32) : Reading where
  parts := wholePart c.band (billedEnergy rating (c.ms - since) base reading)
  reverse := isReverse (delta reading base)
  jump := !isReverse (delta reading base) && decide (plausibleLimit rating (c.ms - since) < delta reading base)
  missed := false

theorem readParts_of_same_epoch (c : ClockState) (prices : Table Nat 4) (rating : Nat) (base : BitVec 32) (since : Nat)
    (reading : BitVec 32) (latch : Option (BitVec 8 × BitVec 32)) :
    readParts c prices rating c.epoch base since reading latch = wholeReading c rating base since reading := by
  unfold readParts wholeReading billedEnergy
  by_cases h : 2147483648 ≤ delta reading base
  · simp [isReverse, h, wholePart]
  · simp [isReverse, h, bandSplit_of_same_epoch]

/-! ### Stage 4 (R128) -/

@[simp] theorem addPart_zero (prices : Table Nat 4) (e : Session) (b : Band) : addPart prices e (b, 0) = e := by
  simp [addPart]

/-- Making no part of no energy is the same to the session as adding a part of 0. -/
theorem foldl_addPart_wholePart (prices : Table Nat 4) (b : Band) (d : Nat) (e : Session) :
    (wholePart b d).foldl (addPart prices) e = addPart prices e (b, d) := by
  unfold wholePart
  split
  · next h => subst h; exact (addPart_zero prices e b).symm
  · rfl

/-! ### The budget check on its session (R90, R131) -/

@[simp] theorem State.pass_sess (n : Conn) (s : State) : s.pass.sess n = s.sess n := by simp [State.sess]

@[simp] theorem State.openCause_sess (n m : Conn) (s : State) : (s.openCause n).sess m = s.sess m := by
  simp [State.sess]

@[simp] theorem State.raiseIf_sess (c : Bool) (k : EventKind) (n : Conn) (s : State) :
    (s.raiseIf c k).sess n = s.sess n := by simp [State.sess]

theorem State.beginStop_sess (why : EndReason) (n : Conn) (s : State) :
    (s.beginStop why n).sess n = (s.sess n).stoppedAt why (s.sec + s.sessions.stopWait) := by
  simp only [State.beginStop]
  split <;> simp [State.setSess_sess, Session.stoppedAt]

theorem State.budgetCheck_sess (n : Conn) (s : State) :
    (s.budgetCheck n).sess n =
      if ((s.sess n).state = .charging ∨ (s.sess n).state = .complete) ∧
          (s.sess n).threshold ≤ (s.sess n).running then
        (s.sess n).stoppedAt .budget (s.sec + s.sessions.stopWait)
      else s.sess n := by
  cases h : (s.sess n).state with
  | charging | complete =>
    by_cases hc : (s.sess n).threshold ≤ (s.sess n).running <;>
      simp [State.budgetCheck, State.stopCause, EndReason.stopsRunning, State.beginStop_sess, h, hc]
  | empty | awaitingAuth | authorized | stopping | closed => simp [State.budgetCheck, h]

/-- The budget check moves a session to STOPPING at most: it changes no energy, no cost and no flag. -/
theorem State.budgetCheck_sess_metering (n : Conn) (s : State) :
    ((s.budgetCheck n).sess n).costAcc = (s.sess n).costAcc ∧
      ((s.budgetCheck n).sess n).bandEnergy = (s.sess n).bandEnergy ∧
      ((s.budgetCheck n).sess n).energyTotal = (s.sess n).energyTotal ∧
      ((s.budgetCheck n).sess n).flags = (s.sess n).flags := by
  rw [State.budgetCheck_sess]
  split <;> exact ⟨rfl, rfl, rfl, rfl⟩

/-! ### A reading with a baseline (R119) -/

/-- A reading as Stages 4 and 5 take it: priced on the session of connector n, then its findings raised. -/
def State.priceReading (n : Conn) (prices : Table Nat 4) (f : Reading) (reading : BitVec 32) (s : State) : State :=
  ((s.updSess n (applyReading s.clock prices f reading)).raiseIf (f.reverse || f.jump) .meterAnomaly).raiseIf
    f.missed .latchMissed

theorem State.priceReading_sess (n : Conn) (prices : Table Nat 4) (f : Reading) (reading : BitVec 32) (s : State) :
    (s.priceReading n prices f reading).sess n = applyReading s.clock prices f reading (s.sess n) := by
  simp [State.priceReading]

theorem State.deliverReading_of_baseline (n : Conn) (r : ConnReport) (s : State) (base : BitVec 32) (since : Nat)
    (hm : (s.sess n).state.metered = true) (hb : (s.sess n).baseline = some (base, since)) :
    s.deliverReading n r = (s.priceReading n (s.energyPrices (s.sess n))
      (readParts s.clock (s.energyPrices (s.sess n)) (s.rating n) (s.sess n).lastEpoch base since r.reading r.latch)
      r.reading).budgetCheck n := by
  simp only [State.deliverReading, hm, hb, if_true]
  rfl

theorem State.energyPrices_of_plan (s : State) (e : Session) (k : PlanSlot) (rev : BitVec 16)
    (h : e.plan = some (k, rev)) : s.energyPrices e = (s.plan k).contents.energyPrice := by
  simp only [State.energyPrices, h]

theorem State.deliverReading_of_same_epoch (n : Conn) (r : ConnReport) (s : State) (base : BitVec 32) (since : Nat)
    (k : PlanSlot) (rev : BitVec 16) (hm : (s.sess n).state.metered = true)
    (hb : (s.sess n).baseline = some (base, since)) (hp : (s.sess n).plan = some (k, rev))
    (he : (s.sess n).lastEpoch = s.clock.epoch) :
    s.deliverReading n r = (s.priceReading n (s.plan k).contents.energyPrice
      (wholeReading s.clock (s.rating n) base since r.reading) r.reading).budgetCheck n := by
  rw [s.deliverReading_of_baseline n r base since hm hb, he, readParts_of_same_epoch, s.energyPrices_of_plan _ k rev hp]

/-- What a reading that is not divided and missed no latch leaves of a session's energy, cost and flag. -/
theorem applyReading_of_wholePart (c : ClockState) (prices : Table Nat 4) (f : Reading) (reading : BitVec 32)
    (e : Session) (b : Band) (d : Nat) (hp : f.parts = wholePart b d) (hm : f.missed = false) :
    let e' := applyReading c prices f reading e
    e'.costAcc = e.costAcc + d * tget prices b ∧ e'.bandEnergy = tset e.bandEnergy b (tget e.bandEnergy b + d) ∧
      e'.energyTotal = e.energyTotal + d ∧ hasFlag .missedLatch e'.flags = hasFlag .missedLatch e.flags := by
  simp [applyReading, hp, hm, foldl_addPart_wholePart, addPart, hasFlag_addFlagIf_of_ne]

/-- Settles O45 (R125): the state that a reading leads to at an epoch gap of 0 does not name the reading's latch, and
its one part is the whole billed energy in the current band. -/
theorem oneEpochIsPricedAtTheCurrentBand : Obligations.OneEpochIsPricedAtTheCurrentBand := by
  intro s n r base since k rev hmetered hbase hplan hepoch
  have delivered := fun latch =>
    s.deliverReading_of_same_epoch n { r with latch := latch } base since k rev hmetered hbase hplan hepoch
  obtain ⟨hcost, hband, htotal, hflags⟩ := State.budgetCheck_sess_metering n
    (s.priceReading n (s.plan k).contents.energyPrice
      (wholeReading s.clock (s.rating n) base since r.reading) r.reading)
  rw [← delivered r.latch, State.priceReading_sess] at hcost hband htotal hflags
  obtain ⟨pcost, pband, ptotal, pflag⟩ := applyReading_of_wholePart s.clock (s.plan k).contents.energyPrice
    (wholeReading s.clock (s.rating n) base since r.reading) r.reading (s.sess n) s.clock.band _ rfl rfl
  exact ⟨hcost.trans pcost, hband.trans pband, htotal.trans ptotal,
    (congrArg (hasFlag .missedLatch) hflags).trans pflag,
    fun latch => (delivered latch).trans (delivered r.latch).symm⟩

end Sys2Proof.Machine
end

section
/-! SUPPORT and PROOF. The silence time (R172, R173): what keeps it, and the statement of SET_UPLINK_TIMING. -/

namespace Sys2Proof.Machine

/-! ### What keeps the silence time -/

@[simp] theorem State.testAttention_silenceTime (before : Bool) (s : State) :
    (s.testAttention before).uplink.silenceTime = s.uplink.silenceTime := by
  unfold State.testAttention
  split <;> rfl

@[simp] theorem State.raise_silenceTime (k : EventKind) (s : State) :
    (s.raise k).uplink.silenceTime = s.uplink.silenceTime := by simp [State.raise]

/-- The events that an appended record raises (R163, R164) are all that it changes of the uplink. -/
@[simp] theorem State.appendRecord_silenceTime (r : BuiltRecord) (s : State) :
    (s.appendRecord r).uplink.silenceTime = s.uplink.silenceTime := by
  simp only [State.appendRecord]
  (repeat' split) <;> simp

@[simp] theorem State.closeSession_silenceTime (n : Conn) (s : State) :
    (s.closeSession n).uplink.silenceTime = s.uplink.silenceTime := by
  simp only [State.closeSession]
  (repeat' split) <;> simp

@[simp] theorem State.closeAtOnce_silenceTime (why : EndReason) (lost : Bool) (n : Conn) (s : State) :
    (s.closeAtOnce why lost n).uplink.silenceTime = s.uplink.silenceTime := by
  unfold State.closeAtOnce
  split <;> simp

/-! ### RESTART, block by block (R179) -/

@[simp] theorem State.restartConnector_uplink (n : Conn) (s : State) :
    (s.restartConnector n).uplink = s.uplink := by
  simp only [State.restartConnector]
  split <;> simp

@[simp] theorem State.restartSequencer_uplink (s : State) : s.restartSequencer.uplink = s.uplink := by
  simp only [State.restartSequencer]
  exact foldl_frame State.uplink _ (fun t n => t.restartConnector_uplink n) _ _

@[simp] theorem State.restartLine_uplink (s : State) : s.restartLine.uplink = s.uplink := by
  simp [State.restartLine]

@[simp] theorem State.restartClassifier_silenceTime (s : State) :
    s.restartClassifier.uplink.silenceTime = s.uplink.silenceTime := rfl

@[simp] theorem State.restartAuth_uplink (s : State) : s.restartAuth.uplink = s.uplink := rfl

@[simp] theorem State.restartSession_silenceTime (lost : Conn → Bool) (n : Conn) (s : State) :
    (s.restartSession lost n).uplink.silenceTime = s.uplink.silenceTime := by
  unfold State.restartSession
  split <;> simp

@[simp] theorem State.restartSetpoint_uplink (n : Conn) (s : State) :
    (s.restartSetpoint n).uplink = s.uplink := by
  simp [State.restartSetpoint]

@[simp] theorem State.restartActivity_uplink (p : Ped) (s : State) :
    (s.restartActivity p).uplink = s.uplink := by
  unfold State.restartActivity
  split <;> simp

/-- RESTART reaches the uplink only by the events that its closes raise and by a PASS_UP on its way to the host. -/
@[simp] theorem State.restartBlocks_silenceTime (s : State) :
    s.restartBlocks.uplink.silenceTime = s.uplink.silenceTime := by
  have sessions := foldl_frame (·.uplink.silenceTime) (State.restartSession s.linkLost)
    (fun t n => t.restartSession_silenceTime s.linkLost n) allConns
  have setpoints := foldl_frame State.uplink State.restartSetpoint (fun t n => t.restartSetpoint_uplink n) allConns
  have activity := foldl_frame State.uplink State.restartActivity (fun t p => t.restartActivity_uplink p) allPeds
  simp [State.restartBlocks, activity, setpoints, sessions]

theorem ownRestart_silenceTime (s : State) : (ownRestart s).1.uplink.silenceTime = s.uplink.silenceTime := by
  simp only [ownRestart]
  split <;> simp

/-! ### Requests answered (R171) -/

@[simp] theorem State.respond_silenceTime (kind tag : Byte) (r : Reply) (s : State) :
    (s.respond kind tag r).uplink.silenceTime = s.uplink.silenceTime := rfl

/-- A request that its owner refuses changes the uplink as its answer does, and nothing else. -/
theorem State.takeFrame_refused (kind tag : Byte) (payload : Frame) (owner : State → State × Reply)
    (code : ResultCode) (s : State) (hp : payload.length ≤ 250) (hr : s.hasRoom)
    (ho : ∀ t, owner t = refuseWith code t) :
    s.takeFrame kind tag payload owner = { s with uplink := s.answered kind tag code [] } := by
  rw [s.takeFrame_taken kind tag payload owner hp hr, ho]
  rfl

/-- Taking a frame and answering it set the deadline and not the silence time (R172): only an owner can set that. -/
theorem State.takeFrame_silenceTime (kind tag : Byte) (payload : Frame) (owner : State → State × Reply) (s : State)
    (hp : payload.length ≤ 250) (hr : s.hasRoom)
    (ho : ∀ t, (owner t).1.uplink.silenceTime = t.uplink.silenceTime) :
    (s.takeFrame kind tag payload owner).uplink.silenceTime = s.uplink.silenceTime := by
  rw [s.takeFrame_taken kind tag payload owner hp hr, State.respond_silenceTime, ho]
  rfl

/-! ### SET_UPLINK_TIMING (R173) -/

theorem clamp_eq_max_min (lo hi x : Nat) (h : lo ≤ hi) : clamp lo hi x = max lo (min hi x) := by
  unfold clamp
  (repeat' split) <;> omega

theorem num_pair (b1 b0 : Byte) : num [b1, b0] = 256 * b1.toNat + b0.toNat := by
  simp only [num, List.foldl_cons, List.foldl_nil]
  omega

theorem ownSetUplinkTiming_of_length_ne (payload : Frame) (s : State) (h : payload.length ≠ 2) :
    ownSetUplinkTiming payload s = refuseWith .badRequest s := by
  unfold ownSetUplinkTiming
  split
  · exact absurd rfl h
  · rfl

/-- The new silence time and the deadline counted from it, and CLAMPED when the time asked was forced. -/
theorem ownSetUplinkTiming_pair (t1 t0 : Byte) (s : State) :
    let asked := 256 * t1.toNat + t0.toNat
    let time := max 5 (min 300 asked)
    ownSetUplinkTiming [t1, t0] s =
      (s.updUplink fun u => { u with silenceTime := time, silenceDeadline := some (s.sec + time) },
        Reply.bare (if time = asked then .ok else .clamped)) := by
  simp [ownSetUplinkTiming, clamp_eq_max_min, num_pair, Reply.forced]

/-- Settles O20 (R173): the owner's deadline stands, because the request's own frame rearms the old one before the owner
acts (R172); and RESTART keeps the silence time block by block. -/
theorem uplinkTimingSetsTheSilenceTime : Obligations.UplinkTimingSetsTheSilenceTime := by
  intro s tag hroom
  refine ⟨fun payload hform hlen => ?badForm, fun t1 t0 => ?set, ?restart⟩
  case badForm =>
    exact congrArg Host.Outcome.next
      (s.takeFrame_refused 172 tag payload _ .badRequest hlen hroom (ownSetUplinkTiming_of_length_ne payload · hform))
  case set =>
    have taken := s.takeFrame_taken 172 tag [t1, t0] (ownSetUplinkTiming [t1, t0]) (by simp) hroom
    rw [ownSetUplinkTiming_pair] at taken
    exact congrArg Host.Outcome.next taken
  case restart =>
    exact ⟨_, rfl, s.takeFrame_silenceTime _ tag [] _ (by simp) hroom ownRestart_silenceTime⟩

end Sys2Proof.Machine
end

section
/-! SUPPORT and PROOF. What every operation keeps: for each block what a change of it must respect, the relation of two
states that respects all of it, its composition, and the changes that it allows. The invariants of every step, and what
an
event leaves of the other connectors and pedestals, are read off this one relation. -/

namespace Sys2Proof.Machine

/-! ### What an operation may do beyond keeping everything -/

/-- What an operation is allowed: a connector or pedestal to touch, an invariant to leave broken, or a table or count
that
only some commands write. -/
inductive Privilege
  | conn (n : Conn)
  | ped (p : Ped)
  /-- May change more of a pedestal's entry than its queue and its becoming ACTIVE. -/
  | entry (p : Ped)
  /-- May start a transaction, open a window, or change the line's timers, pointers and pending LATCH. -/
  | arbiter
  /-- May leave connector n OPEN under a lock. -/
  | openLocked (n : Conn)
  /-- May leave a pedestal's entry inconsistent, in the middle of its loss. -/
  | lossAt (p : Ped)
  /-- May leave a notice pending without attention. -/
  | notice
  /-- May end queries that no held entry stands for. -/
  | queries
  /-- May bring in tokens of any length. -/
  | tokenForm
  | tokenTable
  | watchMap
  | planSlots
  | epoch
  /-- May change the uplink's link, silence time, responses and counts. -/
  | port
  /-- May take events out of the pending set, change the enable set, and end a notice. -/
  | events

/-- The connector and its pedestal may be touched. -/
def Touches (M : Set Privilege) (n : Conn) : Prop := .conn n ∈ M ∧ .ped (pedOf n) ∈ M

/-! ### The invariants, block by block -/

/-- The pedestal's standing (R2, R15, R19). -/
def Pedestal.Sound (e : Pedestal) : Prop :=
  (e.configured = false ↔ e.link = .unconfigured) ∧ (e.nextPoll.isSome = true ↔ e.link = .active) ∧
  (e.resync = true → e.link = .active)

/-- What the operations at a connector may change of its pedestal's entry: the queue, and a local activity makes it
ACTIVE (R5, R16). -/
def Pedestal.Stirred (e e' : Pedestal) : Prop :=
  e' = { e with queue := e'.queue, link := e'.link, nextPoll := e'.nextPoll } ∧
  ((e'.link = e.link ∧ e'.nextPoll = e.nextPoll) ∨ ((e.link = .probing ∨ e.link = .quiet) ∧ e'.link = .active))

/-- No roll-call slot is held by two configured pedestals (R3). -/
def SlotsDistinct (peds : Table Pedestal 24) : Prop :=
  ∀ p q k, (tget peds p).configured = true → (tget peds q).configured = true → (tget peds p).slot = some k →
    (tget peds q).slot = some k → p = q

/-- A broadcast has no target, and a roll-call window is open only while its roll call holds the line (R6, R8). -/
def FlightSound (inflight : Option Txn) (window : Option RollWindow) : Prop :=
  (∀ x, inflight = some x → (x.kind = .rollCall ∨ ∃ epoch, x.kind = .latch epoch) → x.target = none) ∧
  (∀ w, window = some w → ∃ x, inflight = some x ∧ x.target = none ∧ x.kind = .rollCall)

def LineState.InRange (l : LineState) : Prop :=
  (2 ≤ l.replyTimeout ∧ l.replyTimeout ≤ 100) ∧ (200 ≤ l.pollPeriod ∧ l.pollPeriod ≤ 5000) ∧
  (1 ≤ l.rollPeriod ∧ l.rollPeriod ≤ 30)

def SequencerState.InRange (q : SequencerState) : Prop :=
  (100 ≤ q.settleTime ∧ q.settleTime ≤ 2000) ∧ (2 ≤ q.idleRelease ∧ q.idleRelease ≤ 20)

def AuthState.InRange (a : AuthState) : Prop :=
  (1 ≤ a.queryTimeout ∧ a.queryTimeout ≤ 30) ∧ a.offlineLimit ≤ 4294967295

def SessionTable.InRange (x : SessionTable) : Prop :=
  (10 ≤ x.readyWait ∧ x.readyWait ≤ 600) ∧ (30 ≤ x.stopWait ∧ x.stopWait ≤ 600) ∧ (1 ≤ x.maxHours ∧ x.maxHours ≤ 48)

def PedConfig.InRange (c : PedConfig) : Prop :=
  c.limit ≤ 600 ∧ c.ratingA ≤ 400 ∧ c.ratingB ≤ 400 ∧ c.failsafeA ≤ 50 ∧ c.failsafeB ≤ 50

def AllocState.InRange (a : AllocState) : Prop :=
  a.baseLimit ≤ 4000 ∧ (1 ≤ a.hysteresis ∧ a.hysteresis ≤ 20) ∧ (5 ≤ a.hold ∧ a.hold ≤ 120) ∧
  (1 ≤ a.renew ∧ a.renew ≤ 60 ∧ a.renew < a.hold) ∧ ∀ p, (tget a.configs p).InRange

def ClockState.InRange (c : ClockState) : Prop :=
  c.ms ≤ 281474976710655 ∧ (∀ w, c.wall = some w → w.day ≤ 65535 ∧ w.sec ≤ 86399) ∧
  scheduleSound c.schedule ∧ c.schedule.length ≤ 8

/-- The settlement queue's numbering (R161, R162). -/
def SettlementState.Numbered (x : SettlementState) : Prop :=
  (∀ q ∈ x.records.map (·.sequence) ++ [x.nextSequence], 1 ≤ q ∧ q ≤ 4294967295) ∧
  consecutive (x.records.map (·.sequence) ++ [x.nextSequence]) ∧ (x.records = [] → x.readMark = false)

/-- What is the same in two session entries of one standing: the plan, the record, and the state, which may move between
the states of an open session. -/
def Session.SameStanding (e e' : Session) : Prop :=
  e'.plan = e.plan ∧ e'.record = e.record ∧
  (e'.state = e.state ∨ (e.state.metered = true ∧ e'.state.metered = true))

/-! ### What a change of a block respects -/

structure LineKept (M : Set Privilege) (l l' : LineState) : Prop where
  queue : ∀ p, (tget l.peds p).queue.length ≤ 4 → (tget l'.peds p).queue.length ≤ 4
  sound : ∀ p, .lossAt p ∉ M → (tget l.peds p).Sound → (tget l'.peds p).Sound
  stirred : ∀ p, .entry p ∉ M → (tget l.peds p).Stirred (tget l'.peds p)
  distinct : SlotsDistinct l.peds → SlotsDistinct l'.peds
  flight : FlightSound l.inflight l.window → FlightSound l'.inflight l'.window
  range : l.InRange → l'.InRange
  ped : ∀ p, .ped p ∉ M → tget l'.peds p = tget l.peds p
  openSet : ∀ n, .conn n ∉ M → (tget l'.slots n).openSet = (tget l.slots n).openSet

  rest : .arbiter ∉ M → l'.window = l.window ∧ l'.pendingLatch = l.pendingLatch ∧ l'.rollTimer = l.rollTimer ∧
    l'.pointer3 = l.pointer3 ∧ l'.pointer5 = l.pointer5 ∧ l'.replyTimeout = l.replyTimeout ∧
    l'.pollPeriod = l.pollPeriod ∧ l'.rollPeriod = l.rollPeriod ∧ (l.inflight = none → l'.inflight = none)

structure SequencerKept (M : Set Privilege) (q q' : SequencerState) : Prop where
  unlocked : ∀ n, .openLocked n ∉ M →
    ((tget q.recs n).contactor = .opened → (tget q.recs n).locks = ⟨false, false⟩) →
    ((tget q'.recs n).contactor = .opened → (tget q'.recs n).locks = ⟨false, false⟩)
  range : q.InRange → q'.InRange
  rec_ : ∀ n, .conn n ∉ M → tget q'.recs n = tget q.recs n

structure AuthKept (M : Set Privilege) (a a' : AuthState) : Prop where
  heldLength : a.held.length ≤ 8 → a'.held.length ≤ 8
  range : a.InRange → a'.InRange
  table : .tokenTable ∉ M → a'.tokens = a.tokens
  watch : .watchMap ∉ M → a'.watch = a.watch
  decision : ∀ n, .conn n ∉ M → tget a'.decisions n = tget a.decisions n

structure SessionsKept (M : Set Privilege) (x x' : SessionTable) : Prop where
  energy : ∀ n, (tget x.entries n).EnergyAddsUp → (tget x'.entries n).EnergyAddsUp
  range : x.InRange → x'.InRange
  entry : ∀ n, .conn n ∉ M → tget x'.entries n = tget x.entries n

structure ClockKept (M : Set Privilege) (c c' : ClockState) : Prop where
  range : c.InRange → c'.InRange
  epoch : .epoch ∉ M → c'.epoch = c.epoch ∧ c'.ring = c.ring ∧ c'.band = c.band

structure SettlementKept (x x' : SettlementState) : Prop where
  length : x.records.length ≤ 96 → x'.records.length ≤ 96
  numbered : x.Numbered → x'.Numbered

structure UplinkKept (M : Set Privilege) (u u' : UplinkState) : Prop where
  notice : .notice ∉ M → (u.noticePending = true → u.shares) → (u'.noticePending = true → u'.shares)
  responses : u.responses.length ≤ 8 → u'.responses.length ≤ 8
  range : 5 ≤ u.silenceTime ∧ u.silenceTime ≤ 300 → 5 ≤ u'.silenceTime ∧ u'.silenceTime ≤ 300
  port : .port ∉ M → u'.responses = u.responses ∧ u'.link = u.link ∧ u'.requestsTaken = u.requestsTaken ∧
    u'.overruns = u.overruns ∧ u'.framingErrors = u.framingErrors ∧ u'.checkFails = u.checkFails ∧
    u'.silenceTime = u.silenceTime ∧ u'.silenceDeadline = u.silenceDeadline
  events : .events ∉ M → u'.enableSet = u.enableSet ∧ u.pendingSet ||| u'.pendingSet = u'.pendingSet ∧
    (¬ u'.shares → u'.noticePending = u.noticePending)

/-- The plan slots but for their use counts. -/
def PlansKept (M : Set Privilege) (x x' : TariffState) : Prop :=
  .planSlots ∉ M → ∀ k, (tget x'.plans k).loaded = (tget x.plans k).loaded ∧
    (tget x'.plans k).revision = (tget x.plans k).revision ∧ (tget x'.plans k).contents = (tget x.plans k).contents

/-- What an operation with privileges M keeps between the state it finds and the state it leaves. -/
structure Keeps (M : Set Privilege) (s t : State) : Prop where
  line : LineKept M s.line t.line
  passUp : s.classifier.passUp.length ≤ 16 → t.classifier.passUp.length ≤ 16
  sequencer : SequencerKept M s.sequencer t.sequencer
  auth : AuthKept M s.auth t.auth
  entries : SessionsKept M s.sessions t.sessions
  tariff : PlansKept M s.tariff t.tariff
  clock : ClockKept M s.clock t.clock
  metering : s.metering.headroom ≤ 10000 → t.metering.headroom ≤ 10000
  alloc : s.alloc.InRange → t.alloc.InRange
  settlement : SettlementKept s.settlement t.settlement
  uplink : UplinkKept M s.uplink t.uplink
  held : .queries ∉ M → s.HeldSound → t.HeldSound
  waiting : .queries ∉ M → s.settlement.records.length ≤ 96 → s.WaitingSound → t.WaitingSound
  uses : .queries ∉ M → s.UseCountsRight → t.UseCountsRight
  tokens : .tokenForm ∉ M → s.TokensFit → t.TokensFit
  pending : t.pending = s.pending

/-! ### No change, one change after another, and more privileges -/

variable {M N : Set Privilege}

theorem Pedestal.Stirred.refl (e : Pedestal) : e.Stirred e := ⟨rfl, .inl ⟨rfl, rfl⟩⟩

theorem Pedestal.Stirred.trans {e₁ e₂ e₃ : Pedestal} (h : e₁.Stirred e₂) (g : e₂.Stirred e₃) : e₁.Stirred e₃ := by
  obtain ⟨h, hl⟩ := h
  obtain ⟨g, gl⟩ := g
  refine ⟨by rw [g, h], ?_⟩
  rcases hl, gl with ⟨⟨hl, hn⟩ | ⟨hl, ha⟩, ⟨gl, gn⟩ | ⟨gl, ga⟩⟩
  · exact .inl ⟨gl.trans hl, gn.trans hn⟩
  · exact .inr ⟨hl ▸ gl, ga⟩
  · exact .inr ⟨hl, gl.trans ha⟩
  · exact .inr ⟨hl, ga⟩

theorem Pedestal.Stirred.of_queue (e : Pedestal) (q : List QueueEntry) : e.Stirred { e with queue := q } :=
  ⟨rfl, .inl ⟨rfl, rfl⟩⟩

theorem LineKept.refl (l : LineState) : LineKept M l l :=
  ⟨fun _ h => h, fun _ _ h => h, fun _ _ => .refl _, id, id, id, fun _ _ => rfl, fun _ _ => rfl,
    fun _ => ⟨rfl, rfl, rfl, rfl, rfl, rfl, rfl, rfl, id⟩⟩

theorem SequencerKept.refl (q : SequencerState) : SequencerKept M q q := ⟨fun _ _ h => h, id, fun _ _ => rfl⟩

theorem AuthKept.refl (a : AuthState) : AuthKept M a a := ⟨id, id, fun _ => rfl, fun _ => rfl, fun _ _ => rfl⟩

theorem SessionsKept.refl (x : SessionTable) : SessionsKept M x x := ⟨fun _ h => h, id, fun _ _ => rfl⟩

theorem ClockKept.refl (c : ClockState) : ClockKept M c c := ⟨id, fun _ => ⟨rfl, rfl, rfl⟩⟩

theorem SettlementKept.refl (x : SettlementState) : SettlementKept x x := ⟨id, id⟩

theorem UplinkKept.refl (u : UplinkState) : UplinkKept M u u :=
  ⟨fun _ h => h, id, id, fun _ => ⟨rfl, rfl, rfl, rfl, rfl, rfl, rfl, rfl⟩,
    fun _ => ⟨rfl, BitVec.or_self, fun _ => rfl⟩⟩

/-- Sets that only grow share no kind later only if they shared none before (R178). -/
theorem UplinkState.shares_mono {u u' : UplinkState} (he : u'.enableSet = u.enableSet)
    (hp : u.pendingSet ||| u'.pendingSet = u'.pendingSet) (h : u.shares) : u'.shares := by
  intro e
  refine h (BitVec.eq_of_getLsbD_eq fun i hi => ?_)
  have now := congrArg (·.getLsbD i) e
  have grown := congrArg (·.getLsbD i) hp
  simp only [he, BitVec.getLsbD_and, BitVec.getLsbD_or] at now grown ⊢
  cases hu : u.pendingSet.getLsbD i <;> simp_all

theorem PlansKept.refl (x : TariffState) : PlansKept M x x := fun _ _ => ⟨rfl, rfl, rfl⟩

theorem Keeps.refl (s : State) : Keeps M s s :=
  ⟨.refl _, id, .refl _, .refl _, .refl _, .refl _, .refl _, id, id, .refl _, .refl _, fun _ => id, fun _ _ => id,
    fun _ => id, fun _ => id, rfl⟩

theorem LineKept.trans {l₁ l₂ l₃ : LineState} (h : LineKept M l₁ l₂) (g : LineKept M l₂ l₃) : LineKept M l₁ l₃ where
  queue p a := g.queue p (h.queue p a)
  sound p hp a := g.sound p hp (h.sound p hp a)
  stirred p hp := (h.stirred p hp).trans (g.stirred p hp)
  distinct := g.distinct ∘ h.distinct
  flight := g.flight ∘ h.flight
  range := g.range ∘ h.range
  ped p hp := (g.ped p hp).trans (h.ped p hp)
  openSet n hn := (g.openSet n hn).trans (h.openSet n hn)
  rest x := by
    have a := h.rest x
    have b := g.rest x
    simp_all

theorem SequencerKept.trans {q₁ q₂ q₃ : SequencerState} (h : SequencerKept M q₁ q₂) (g : SequencerKept M q₂ q₃) :
    SequencerKept M q₁ q₃ :=
  ⟨fun n hn a => g.unlocked n hn (h.unlocked n hn a), g.range ∘ h.range, fun n hn => (g.rec_ n hn).trans (h.rec_ n hn)⟩

theorem AuthKept.trans {a₁ a₂ a₃ : AuthState} (h : AuthKept M a₁ a₂) (g : AuthKept M a₂ a₃) : AuthKept M a₁ a₃ :=
  ⟨g.heldLength ∘ h.heldLength, g.range ∘ h.range, fun x => (g.table x).trans (h.table x),
    fun x => (g.watch x).trans (h.watch x), fun n hn => (g.decision n hn).trans (h.decision n hn)⟩

theorem SessionsKept.trans {x₁ x₂ x₃ : SessionTable} (h : SessionsKept M x₁ x₂) (g : SessionsKept M x₂ x₃) :
    SessionsKept M x₁ x₃ :=
  ⟨fun n a => g.energy n (h.energy n a), g.range ∘ h.range, fun n hn => (g.entry n hn).trans (h.entry n hn)⟩

theorem ClockKept.trans {c₁ c₂ c₃ : ClockState} (h : ClockKept M c₁ c₂) (g : ClockKept M c₂ c₃) : ClockKept M c₁ c₃
    where
  range := g.range ∘ h.range
  epoch x := by
    obtain ⟨e₁, r₁, b₁⟩ := h.epoch x
    obtain ⟨e₂, r₂, b₂⟩ := g.epoch x
    exact ⟨e₂.trans e₁, r₂.trans r₁, b₂.trans b₁⟩

theorem SettlementKept.trans {x₁ x₂ x₃ : SettlementState} (h : SettlementKept x₁ x₂) (g : SettlementKept x₂ x₃) :
    SettlementKept x₁ x₃ := ⟨g.length ∘ h.length, g.numbered ∘ h.numbered⟩

theorem UplinkKept.trans {u₁ u₂ u₃ : UplinkState} (h : UplinkKept M u₁ u₂) (g : UplinkKept M u₂ u₃) :
    UplinkKept M u₁ u₃ where
  notice x a := g.notice x (h.notice x a)
  responses := g.responses ∘ h.responses
  range := g.range ∘ h.range
  port x := by
    have := h.port x
    have := g.port x
    simp_all
  events x := by
    obtain ⟨e₁, p₁, n₁⟩ := h.events x
    obtain ⟨e₂, p₂, n₂⟩ := g.events x
    refine ⟨e₂.trans e₁, by rw [← p₂, ← BitVec.or_assoc, p₁], fun q => (n₂ q).trans (n₁ fun c => q ?_)⟩
    exact UplinkState.shares_mono e₂ p₂ c

theorem PlansKept.trans {x₁ x₂ x₃ : TariffState} (h : PlansKept M x₁ x₂) (g : PlansKept M x₂ x₃) : PlansKept M x₁
    x₃ := by
  intro x k
  obtain ⟨l₁, r₁, c₁⟩ := h x k
  obtain ⟨l₂, r₂, c₂⟩ := g x k
  exact ⟨l₂.trans l₁, r₂.trans r₁, c₂.trans c₁⟩

theorem Keeps.trans {s t u : State} (h : Keeps M s t) (g : Keeps M t u) : Keeps M s u where
  line := h.line.trans g.line
  passUp := g.passUp ∘ h.passUp
  sequencer := h.sequencer.trans g.sequencer
  auth := h.auth.trans g.auth
  entries := h.entries.trans g.entries
  tariff := h.tariff.trans g.tariff
  clock := h.clock.trans g.clock
  metering := g.metering ∘ h.metering
  alloc := g.alloc ∘ h.alloc
  settlement := h.settlement.trans g.settlement
  uplink := h.uplink.trans g.uplink
  held x := g.held x ∘ h.held x
  waiting x b a := g.waiting x (h.settlement.length b) (h.waiting x b a)
  uses x := g.uses x ∘ h.uses x
  tokens x := g.tokens x ∘ h.tokens x
  pending := g.pending.trans h.pending

/-- More privileges ask less. -/
theorem Keeps.mono {s t : State} (h : Keeps M s t) (hMN : M ⊆ N) : Keeps N s t where
  line :=
    { queue := h.line.queue
      sound p hp := h.line.sound p fun hm => hp (hMN hm)
      stirred p hp := h.line.stirred p fun hm => hp (hMN hm)
      distinct := h.line.distinct
      flight := h.line.flight
      range := h.line.range
      ped p hp := h.line.ped p fun hm => hp (hMN hm)
      openSet n hn := h.line.openSet n fun hm => hn (hMN hm)
      rest x := h.line.rest fun hm => x (hMN hm) }
  passUp := h.passUp
  sequencer :=
    ⟨fun n hn => h.sequencer.unlocked n fun hm => hn (hMN hm), h.sequencer.range,
      fun n hn => h.sequencer.rec_ n fun hm => hn (hMN hm)⟩
  auth :=
    ⟨h.auth.heldLength, h.auth.range, fun x => h.auth.table fun hm => x (hMN hm),
      fun x => h.auth.watch fun hm => x (hMN hm), fun n hn => h.auth.decision n fun hm => hn (hMN hm)⟩
  entries := ⟨h.entries.energy, h.entries.range, fun n hn => h.entries.entry n fun hm => hn (hMN hm)⟩
  tariff x := h.tariff fun hm => x (hMN hm)
  clock := ⟨h.clock.range, fun x => h.clock.epoch fun hm => x (hMN hm)⟩
  metering := h.metering
  alloc := h.alloc
  settlement := h.settlement
  uplink :=
    ⟨fun x => h.uplink.notice fun hm => x (hMN hm), h.uplink.responses, h.uplink.range,
      fun x => h.uplink.port fun hm => x (hMN hm), fun x => h.uplink.events fun hm => x (hMN hm)⟩
  held x := h.held fun hm => x (hMN hm)
  waiting x := h.waiting fun hm => x (hMN hm)
  uses x := h.uses fun hm => x (hMN hm)
  tokens x := h.tokens fun hm => x (hMN hm)
  pending := h.pending

/-- A connector in OPEN has no lock (R50). -/
def State.UnlockedAt (s : State) (n : Conn) : Prop := (s.seq n).contactor = .opened → (s.seq n).locks = ⟨false, false⟩

/-- The privileges that an operation may need in its middle only: to break an invariant that it restores. -/
def Privilege.Passing : Privilege → Prop
  | .openLocked _ | .lossAt _ | .notice | .queries => True
  | _ => False

/-- An operation that restores at its end what a passing privilege let it break needs it no more. -/
theorem Keeps.giveBack {x : Privilege} {s t : State} (h : Keeps (insert x M) s t) (hx : x.Passing)
    (unlocked : ∀ n, x = .openLocked n → s.UnlockedAt n → t.UnlockedAt n)
    (sound : ∀ p, x = .lossAt p → (s.ped p).Sound → (t.ped p).Sound)
    (notice : x = .notice → s.NoticeSound → t.NoticeSound)
    (lists : x = .queries → .queries ∉ M → (s.HeldSound → t.HeldSound) ∧
      (s.settlement.records.length ≤ 96 → s.WaitingSound → t.WaitingSound) ∧ (s.UseCountsRight → t.UseCountsRight)) :
    Keeps M s t := by
  have out {y : Privilege} (hy : y ∉ M) (hne : y ≠ x) : y ∉ insert x M := by simp [hy, hne]
  have ne {y : Privilege} (hy : ¬ y.Passing) : y ≠ x := fun e => hy (e ▸ hx)
  exact
    { line :=
        { queue := h.line.queue
          sound p hp := (em (x = .lossAt p)).elim (sound p) fun e => h.line.sound p (out hp (Ne.symm e))
          stirred p hp := h.line.stirred p (out hp (ne id))
          distinct := h.line.distinct
          flight := h.line.flight
          range := h.line.range
          ped p hp := h.line.ped p (out hp (ne id))
          openSet n hn := h.line.openSet n (out hn (ne id))
          rest y := h.line.rest (out y (ne id)) }
      passUp := h.passUp
      sequencer :=
        { unlocked n hn :=
            (em (x = .openLocked n)).elim (unlocked n) fun e => h.sequencer.unlocked n (out hn (Ne.symm e))
          range := h.sequencer.range
          rec_ n hn := h.sequencer.rec_ n (out hn (ne id)) }
      auth :=
        ⟨h.auth.heldLength, h.auth.range, fun y => h.auth.table (out y (ne id)),
          fun y => h.auth.watch (out y (ne id)), fun n hn => h.auth.decision n (out hn (ne id))⟩
      entries := ⟨h.entries.energy, h.entries.range, fun n hn => h.entries.entry n (out hn (ne id))⟩
      tariff y := h.tariff (out y (ne id))
      clock := ⟨h.clock.range, fun y => h.clock.epoch (out y (ne id))⟩
      metering := h.metering
      alloc := h.alloc
      settlement := h.settlement
      uplink :=
        { notice y := (em (x = .notice)).elim notice fun e => h.uplink.notice (out y (Ne.symm e))
          responses := h.uplink.responses
          range := h.uplink.range
          port y := h.uplink.port (out y (ne id))
          events y := h.uplink.events (out y (ne id)) }
      held y := (em (x = .queries)).elim (fun e => (lists e y).1) fun e => h.held (out y (Ne.symm e))
      waiting y := (em (x = .queries)).elim (fun e => (lists e y).2.1) fun e => h.waiting (out y (Ne.symm e))
      uses y := (em (x = .queries)).elim (fun e => (lists e y).2.2) fun e => h.uses (out y (Ne.symm e))
      tokens y := h.tokens (out y (ne id))
      pending := h.pending }

/-- A fold of steps that each keep everything keeps everything. -/
theorem Keeps.foldl {α : Type} (f : State → α → State) (l : List α) (h : ∀ s, ∀ x ∈ l, Keeps M s (f s x)) (s : State) :
    Keeps M s (l.foldl f s) := by
  induction l generalizing s with
  | nil => exact .refl s
  | cons x l ih =>
    exact (h s x (List.mem_cons_self ..)).trans (ih (fun t y hy => h t y (List.mem_cons_of_mem _ hy)) _)

/-- Either branch of a test. -/
theorem Keeps.ite {c : Prop} [Decidable c] {s t u : State} (h : c → Keeps M s t) (g : ¬ c → Keeps M s u) :
    Keeps M s (if c then t else u) := by
  split
  · exact h ‹_›
  · exact g ‹_›

/-! ### Changes of one block -/

section
variable {s : State}

theorem Keeps.of_line {l : LineState} (h : LineKept M s.line l) : Keeps M s { s with line := l } :=
  { Keeps.refl s with line := h }

theorem Keeps.of_classifier {c : ClassifierState} (h : s.classifier.passUp.length ≤ 16 → c.passUp.length ≤ 16) :
    Keeps M s { s with classifier := c } :=
  { Keeps.refl s with passUp := h }

theorem Keeps.of_sequencer {q : SequencerState} (h : SequencerKept M s.sequencer q) :
    Keeps M s { s with sequencer := q } :=
  { Keeps.refl s with sequencer := h }

theorem Keeps.of_clock {c : ClockState} (h : ClockKept M s.clock c) : Keeps M s { s with clock := c } :=
  { Keeps.refl s with clock := h }

theorem Keeps.of_metering {m : MeteringState} (h : s.metering.headroom ≤ 10000 → m.headroom ≤ 10000) :
    Keeps M s { s with metering := m } :=
  { Keeps.refl s with metering := h }

theorem Keeps.of_alloc {a : AllocState} (h : s.alloc.InRange → a.InRange) : Keeps M s { s with alloc := a } :=
  { Keeps.refl s with alloc := h }

theorem Keeps.of_uplink {u : UplinkState} (h : UplinkKept M s.uplink u) : Keeps M s { s with uplink := u } :=
  { Keeps.refl s with uplink := h }

end

end Sys2Proof.Machine
end

section
/-! SUPPORT and PROOF. The changes of single entries and of the uplink's event sets, each once, with what it must
respect
to keep everything. -/

namespace Sys2Proof.Machine

variable {M : Set Privilege}

/-! ### The line -/

/-- An update of a pedestal's entry keeps its standing, its queue's bound, its slot, and, away, all but its queue. -/
structure PedestalKept (M : Set Privilege) (p : Ped) (e e' : Pedestal) : Prop where
  queue : e.queue.length ≤ 4 → e'.queue.length ≤ 4
  sound : .lossAt p ∉ M → e.Sound → e'.Sound
  stirred : .entry p ∉ M → e.Stirred e'
  slot : e'.configured = true → e.configured = true ∧ e'.slot = e.slot

theorem State.updPed_peds {p : Ped} {f : Pedestal → Pedestal} (s : State) (q : Ped) :
    tget (s.updPed p f).line.peds q = if q = p then f (s.ped p) else tget s.line.peds q :=
  State.updPed_ped p q f s

/-- An update of a pedestal's entry, with the slots it leaves. -/
theorem Keeps.updPedSlot {p : Ped} {f : Pedestal → Pedestal} (s : State) (hp : .ped p ∈ M)
    (hl : (s.ped p).queue.length ≤ 4 → (f (s.ped p)).queue.length ≤ 4)
    (hs : .lossAt p ∉ M → (s.ped p).Sound → (f (s.ped p)).Sound)
    (hst : .entry p ∉ M → (s.ped p).Stirred (f (s.ped p)))
    (hd : SlotsDistinct s.line.peds → SlotsDistinct (s.updPed p f).line.peds) : Keeps M s (s.updPed p f) := by
  have entry := s.updPed_peds (p := p) (f := f)
  suffices line : LineKept M s.line (s.updPed p f).line from Keeps.of_line line
  refine ⟨fun q a => ?queue, fun q hq a => ?sound, fun q hq => ?stirred, hd, id, id,
    fun q hq => ?ped, fun _ _ => rfl, fun _ => ⟨rfl, rfl, rfl, rfl, rfl, rfl, rfl, rfl, id⟩⟩
  case queue =>
    rw [entry]; split
    · next e => subst e; exact hl a
    · exact a
  case sound =>
    rw [entry]; split
    · next e => subst e; exact hs hq a
    · exact a
  case stirred =>
    rw [entry]; split
    · next e => subst e; exact hst hq
    · exact .refl _
  case ped =>
    rw [entry, if_neg fun e : q = p => hq (e ▸ hp)]

theorem Keeps.updPed {p : Ped} {f : Pedestal → Pedestal} (s : State) (hp : .ped p ∈ M)
    (h : PedestalKept M p (s.ped p) (f (s.ped p))) : Keeps M s (s.updPed p f) := by
  refine .updPedSlot s hp h.queue h.sound h.stirred fun d => ?_
  have back (q : Ped) (c : (tget (s.updPed p f).line.peds q).configured = true) :
      (tget s.line.peds q).configured = true ∧
        (tget (s.updPed p f).line.peds q).slot = (tget s.line.peds q).slot := by
    rw [State.updPed_peds] at c ⊢
    split at c
    · next e => subst e; rw [if_pos rfl]; exact h.slot c
    · next e => rw [if_neg e]; exact ⟨c, rfl⟩
  intro q r k cq cr kq kr
  obtain ⟨cq', eq⟩ := back q cq
  obtain ⟨cr', er⟩ := back r cr
  exact d q r k cq' cr' (eq ▸ kq) (er ▸ kr)

/-- An update that leaves the queue, the standing and the slot of an entry alone, of a pedestal that is not away. -/
theorem PedestalKept.of_same {p : Ped} {e e' : Pedestal} (hq : e'.queue = e.queue) (hc : e'.configured = e.configured)
    (hk : e'.slot = e.slot) (hl : e'.link = e.link) (hn : e'.nextPoll.isSome = e.nextPoll.isSome)
    (hr : e'.resync = true → e.resync = true) (ha : .entry p ∈ M) : PedestalKept M p e e' where
  queue := by rw [hq]; exact id
  sound _ := by
    rintro ⟨h₁, h₂, h₃⟩
    exact ⟨by rw [hc, hl]; exact h₁, by rw [hn, hl]; exact h₂, fun h => hl ▸ h₃ (hr h)⟩
  stirred x := absurd ha x
  slot := by rw [hc]; exact fun h => ⟨h, hk⟩

theorem PedestalKept.of_queue {p : Ped} {e : Pedestal} {q : List QueueEntry} (h : e.queue.length ≤ 4 → q.length ≤ 4) :
    PedestalKept M p e { e with queue := q } :=
  ⟨h, fun _ => id, fun _ => .of_queue e q, fun c => ⟨c, rfl⟩⟩

theorem Keeps.enqueue {p : Ped} (e : QueueEntry) (s : State) (hp : .ped p ∈ M) (h : (s.ped p).queue.length < 4) :
    Keeps M s (s.enqueue p e) :=
  Keeps.updPed s hp (.of_queue fun _ => by simp; omega)

theorem queueTakes_length {s : State} {p : Ped} (h : s.queueTakes p = true) : (s.ped p).queue.length < 4 := by
  simp only [State.queueTakes, Bool.and_eq_true, decide_eq_true_eq] at h
  exact h.2

theorem Keeps.localActivity (p : Ped) (s : State) (hp : .ped p ∈ M) : Keeps M s (s.localActivity p) := by
  rcases s.localActivity_ped_cases p with ⟨hl, e⟩ | ⟨-, e⟩ <;> rw [e]
  · refine Keeps.updPed s hp ⟨id, fun _ h => ⟨?_, by simp, by simp⟩, fun _ => ⟨rfl, .inr ⟨hl, rfl⟩⟩, fun c => ⟨c, rfl⟩⟩
    have := h.1
    rcases hl with hl | hl <;> simp_all
  · exact .refl s

theorem Keeps.updSlots {n : Conn} {f : SafetySlots → SafetySlots} (s : State)
    (h : .conn n ∈ M ∨ (f (s.slots n)).openSet = (s.slots n).openSet) : Keeps M s (s.updSlots n f) := by
  refine Keeps.of_line { LineKept.refl s.line with openSet := fun m hm => ?_ }
  show ((s.updSlots n f).slots m).openSet = (s.slots m).openSet
  rw [State.updSlots_slots]
  split
  · next e =>
    subst e
    exact h.resolve_left hm
  · rfl

/-- The transaction on the line is replaced. -/
theorem Keeps.setInflight {o : Option Txn} (s : State)
    (h : FlightSound s.line.inflight s.line.window → FlightSound o s.line.window)
    (hn : .arbiter ∈ M ∨ (s.line.inflight = none → o = none)) : Keeps M s (s.setInflight o) :=
  Keeps.of_line { LineKept.refl s.line with
    flight := h
    rest := fun x => ⟨rfl, rfl, rfl, rfl, rfl, rfl, rfl, rfl, hn.resolve_left x⟩ }

/-- A transaction gives way to one of the same target that is a broadcast only if it was one. -/
theorem FlightSound.replace {x y : Txn} {w : Option RollWindow} (ht : y.target = x.target)
    (hk : y.kind = x.kind ∨ x.target ≠ none ∧ ¬ (y.kind = .rollCall ∨ ∃ e, y.kind = .latch e))
    (h : FlightSound (some x) w) : FlightSound (some y) w := by
  obtain ⟨hb, hw⟩ := h
  refine ⟨fun z hz hzk => ?_, fun v hv => ?_⟩
  · cases hz
    rcases hk with hk | ⟨-, hk⟩
    · exact ht.trans (hb x rfl (hk ▸ hzk))
    · exact absurd hzk hk
  · obtain ⟨z, hz, htz, hkz⟩ := hw v hv
    cases hz
    rcases hk with hk | ⟨hn, -⟩
    · exact ⟨y, rfl, ht.trans htz, hk.trans hkz⟩
    · exact absurd htz hn

/-- The line is freed of a transaction with a pedestal. -/
theorem FlightSound.free {x : Txn} {w : Option RollWindow} (ht : x.target ≠ none) (h : FlightSound (some x) w) :
    FlightSound none w := by
  refine ⟨fun z hz => absurd hz (by simp), fun v hv => ?_⟩
  obtain ⟨z, hz, htz, -⟩ := h.2 v hv
  cases hz
  exact absurd htz ht

theorem Keeps.discardInflight (hit : Ped → Bool) (s : State) : Keeps M s (s.discardInflight hit) := by
  unfold State.discardInflight
  split
  · next x hx =>
    split
    · refine .ite (fun _ => .setInflight s (fun h => ?_) (.inr (by simp [hx]))) fun _ => .refl s
      rw [hx] at h
      exact FlightSound.replace (x := x) rfl (.inl rfl) h
    · exact .refl s
  · exact .refl s

/-- What no pedestal entry, no slot and no timing is part of: the window, the timers and the pointers. -/
theorem Keeps.lineTimers {l : LineState} (s : State) (ha : .arbiter ∈ M) (hp : l.peds = s.line.peds)
    (hs : l.slots = s.line.slots)
    (hr : s.line.InRange → l.InRange)
    (hf : FlightSound s.line.inflight s.line.window → FlightSound l.inflight l.window) :
    Keeps M s { s with line := l } :=
  Keeps.of_line
    { queue := fun p h => by rw [hp]; exact h
      sound := fun p _ h => by rw [hp]; exact h
      stirred := fun p _ => by rw [hp]; exact .refl _
      distinct := by rw [hp]; exact id
      flight := hf
      range := hr
      ped := fun p _ => by rw [hp]
      openSet := fun n _ => by rw [hs]
      rest := fun x => absurd ha x }

theorem Keeps.requestLatch (e : Byte) (s : State) (ha : .arbiter ∈ M) : Keeps M s (s.requestLatch e) :=
  .lineTimers s ha rfl rfl id id

/-! ### The sequencer -/

theorem Keeps.updSeq {n : Conn} {f : SeqRecord → SeqRecord} (s : State) (hn : .conn n ∈ M)
    (h : .openLocked n ∉ M → ((s.seq n).contactor = .opened → (s.seq n).locks = ⟨false, false⟩) →
      (f (s.seq n)).contactor = .opened → (f (s.seq n)).locks = ⟨false, false⟩) : Keeps M s (s.updSeq n f) := by
  have entry (m : Conn) : tget (s.updSeq n f).sequencer.recs m = if m = n then f (s.seq n) else s.seq m :=
    State.updSeq_seq n m f s
  suffices recs : SequencerKept M s.sequencer (s.updSeq n f).sequencer from Keeps.of_sequencer recs
  refine ⟨fun m hm a => ?_, id, fun m hm => ?_⟩
  · rw [entry]
    split
    · next e => subst e; exact h hm a
    · exact a
  · rw [entry, if_neg fun e : m = n => hm (e ▸ hn)]
    rfl

/-- An update of a connector record that is about neither the contactor nor the locks. -/
theorem Keeps.updSeqRest {n : Conn} {f : SeqRecord → SeqRecord} (s : State) (hn : .conn n ∈ M)
    (hc : (f (s.seq n)).contactor = (s.seq n).contactor) (hl : (f (s.seq n)).locks = (s.seq n).locks) :
    Keeps M s (s.updSeq n f) :=
  Keeps.updSeq s hn fun _ a => by rw [hc, hl]; exact a

theorem Locks.isEmpty_iff (l : Locks) : l.isEmpty = true ↔ l = ⟨false, false⟩ := by
  obtain ⟨h, w⟩ := l
  cases h <;> cases w <;> simp [Locks.isEmpty]

theorem Keeps.setContactor {n : Conn} {c : ContactorState} (s : State) (hT : Touches M n)
    (h : c = .opened → (s.seq n).locks.isEmpty = true) : Keeps M s (s.setContactor n c) := by
  have first : Keeps M s (s.updSeq n fun r => { r with contactor := c }) :=
    Keeps.updSeq s hT.1 fun _ _ e => (Locks.isEmpty_iff _).1 (h e)
  unfold State.setContactor
  exact .ite (fun _ => first.trans (.localActivity _ _ hT.2)) fun _ => first

/-! ### The uplink -/

theorem UplinkState.shares_iff_attention (s : State) : s.uplink.shares ↔ s.attention = true := by
  simp [UplinkState.shares, State.attention]

theorem State.testAttention_uplink {s t : State} {e p : EventSet}
    (hu : t.uplink = { s.uplink with pendingSet := e, enableSet := p }) :
    (t.testAttention s.attention).uplink =
      { s.uplink with
        pendingSet := e
        enableSet := p
        noticePending := if s.attention = t.attention then s.uplink.noticePending else t.attention } := by
  unfold State.testAttention
  split <;> simp [hu]

/-- A test of attention after the output before it was taken from the same notice leaves a notice only with
attention (R178). -/
theorem UplinkKept.testAttention {s t : State} {e p : EventSet}
    (hu : t.uplink = { s.uplink with pendingSet := e, enableSet := p })
    (hg : .events ∉ M → p = s.uplink.enableSet ∧ s.uplink.pendingSet ||| e = e) :
    UplinkKept M s.uplink (t.testAttention s.attention).uplink := by
  have hport := State.testAttention_uplink hu
  have hatt : (t.testAttention s.attention).uplink.shares ↔ t.attention = true := by
    rw [hport]; simp [UplinkState.shares, State.attention, hu]
  refine ⟨fun _ a => ?_, by rw [hport]; exact id, by rw [hport]; exact id, fun _ => by rw [hport]; simp, fun x => ?_⟩
  · rw [hatt, hport]
    rw [UplinkState.shares_iff_attention] at a
    dsimp only
    split
    · next same => exact fun h => same ▸ a h
    · exact id
  · obtain ⟨he, hp⟩ := hg x
    have enable : (t.testAttention s.attention).uplink.enableSet = s.uplink.enableSet := by rw [hport]; exact he
    have pending : s.uplink.pendingSet ||| (t.testAttention s.attention).uplink.pendingSet =
        (t.testAttention s.attention).uplink.pendingSet := by rw [hport]; exact hp
    refine ⟨enable, pending, fun q => ?_⟩
    have before : s.attention = false := by
      rw [← Bool.not_eq_true, ← UplinkState.shares_iff_attention]
      exact fun c => q (UplinkState.shares_mono enable pending c)
    rw [hatt, Bool.not_eq_true] at q
    rw [hport, before, q]
    simp

theorem Keeps.raise (k : EventKind) (s : State) : Keeps M s (s.raise k) := by
  have hu : (s.raise k) = { s with uplink := (s.raise k).uplink } := by
    unfold State.raise State.testAttention
    split <;> rfl
  rw [hu]
  refine Keeps.of_uplink (UplinkKept.testAttention rfl fun _ => ⟨rfl, ?_⟩)
  show s.uplink.pendingSet ||| (s.uplink.pendingSet ||| k.only) = s.uplink.pendingSet ||| k.only
  rw [← BitVec.or_assoc, BitVec.or_self]

theorem Keeps.raiseIf (c : Bool) (k : EventKind) (s : State) : Keeps M s (s.raiseIf c k) := by
  unfold State.raiseIf
  exact .ite (fun _ => .raise k s) fun _ => .refl s

/-! ### The classifier, the clock and the allocator -/

theorem Keeps.updCounts (p : Ped) (f : PassCounts → PassCounts) (s : State) : Keeps M s (s.updCounts p f) :=
  Keeps.of_classifier id

theorem Keeps.updConfig {p : Ped} {f : PedConfig → PedConfig} (s : State)
    (h : (s.config p).InRange → (f (s.config p)).InRange) : Keeps M s (s.updConfig p f) := by
  refine Keeps.of_alloc fun ⟨h₁, h₂, h₃, h₄, hc⟩ => ⟨h₁, h₂, h₃, h₄, fun q => ?_⟩
  show ((s.updConfig p f).config q).InRange
  rw [State.updConfig_config]
  split
  · next e => subst e; exact h (hc q)
  · exact hc q

theorem Keeps.updSetpoint (n : Conn) (f : Setpoint → Setpoint) (s : State) : Keeps M s (s.updSetpoint n f) :=
  Keeps.of_alloc id

theorem msAt_le (t : Nat) : msAt t ≤ 281474976710655 := by
  unfold msAt Config.lastMs
  split
  · assumption
  · have := (Config.msPastEnd t).isLt; omega

theorem WallTime.later_inRange (k : Nat) (w : WallTime) : (w.later k).day ≤ 65535 ∧ (w.later k).sec ≤ 86399 := by
  simp only [WallTime.later]
  omega

theorem Keeps.advanceTo (t : Nat) (s : State) : Keeps M s (s.advanceTo t) := by
  unfold State.advanceTo
  refine .ite (fun _ => .refl s) fun _ => Keeps.of_clock ⟨fun ⟨_, _, h⟩ => ⟨msAt_le t, fun w hw => ?_, h⟩,
    fun _ => ⟨rfl, rfl, rfl⟩⟩
  obtain ⟨v, -, rfl⟩ := Option.map_eq_some_iff.1 hw
  exact WallTime.later_inRange _ v

theorem Keeps.advanceToSec (t : Nat) (s : State) : Keeps M s (s.advanceToSec t) := Keeps.advanceTo _ s

end Sys2Proof.Machine
end

section
/-! SUPPORT and PROOF. The changes of session entries, plan slots, held queries and settlement records, each once, with
what it must respect; a change whose middle leaves the lists and counts out of step is taken with the privilege to do
so,
which the whole of it then gives back. -/

namespace Sys2Proof.Machine

variable {M : Set Privilege}

/-! ### Session entries -/

theorem SessionKind.metered_iff (k : SessionKind) :
    k.metered = true ↔ k = .authorized ∨ k = .charging ∨ k = .complete ∨ k = .stopping := by
  cases k <;> simp [SessionKind.metered]

theorem Session.pricedOn_of_metered {e : Session} {k : PlanSlot} (h : e.state.metered = true) :
    e.pricedOn k = (e.plan.map (·.1) == some k) := by
  rcases (SessionKind.metered_iff _).1 h with h | h | h | h <;> simp [Session.pricedOn, h]

theorem Session.pricedOn_of_not_metered {e : Session} {k : PlanSlot}
    (h : e.state = .empty ∨ e.state = .awaitingAuth) : e.pricedOn k = false := by
  rcases h with h | h <;> simp [Session.pricedOn, h]

namespace Session.SameStanding

theorem awaiting {e e' : Session} (h : e.SameStanding e') (a : e.state = .awaitingAuth) : e'.state = .awaitingAuth := by
  rcases h.2.2 with h | ⟨h, -⟩
  · exact h.trans a
  · rw [a] at h; cases h

theorem closed_iff {e e' : Session} (h : e.SameStanding e') : e'.state = .closed ↔ e.state = .closed := by
  rcases h.2.2 with h | ⟨h, h'⟩
  · rw [h]
  · constructor <;> intro a <;> simp_all [SessionKind.metered]

theorem pricedOn {e e' : Session} (h : e.SameStanding e') (k : PlanSlot) : e'.pricedOn k = e.pricedOn k := by
  rcases h with ⟨hp, -, hs | ⟨h, h'⟩⟩
  · simp only [Session.pricedOn, hp, hs]
  · rw [Session.pricedOn_of_metered h', Session.pricedOn_of_metered h, hp]

end Session.SameStanding

/-- The tokens an entry holds, its record's among them, have a good length. -/
def Session.TokensFit (e : Session) : Prop :=
  (∀ t, e.token = some t → t.fits) ∧ ∀ r t, e.record = some r → r.token = some t → t.fits

theorem State.TokensFit.sess {s : State} (h : s.TokensFit) (n : Conn) : (s.sess n).TokensFit :=
  ⟨fun t => h.2.2.1 n t, fun r t => h.2.2.2.1 n r t⟩

/-- The good length of every token, with the session entries taken one by one. -/
theorem State.tokensFit_iff (s : State) :
    s.TokensFit ↔ (∀ i e, tget s.auth.tokens i = some e → e.token.fits) ∧ (∀ h ∈ s.auth.held, h.token.fits) ∧
      (∀ n, (s.sess n).TokensFit) ∧ ∀ r ∈ s.settlement.records, ∀ t, r.body.token = some t → t.fits := by
  simp only [State.TokensFit, Session.TokensFit, forall_and, and_assoc]

theorem Session.TokensFit.of_same {e e' : Session} (h : e.TokensFit) (ht : e'.token = e.token)
    (hr : e'.record = e.record) : e'.TokensFit := by
  unfold Session.TokensFit
  rw [ht, hr]
  exact h

theorem Session.initial_tokensFit : Session.initial.TokensFit := by
  constructor <;> simp [Session.initial]

theorem Session.initial_energyAddsUp : Session.initial.EnergyAddsUp := rfl

/-- Any update of an entry, with the lists and counts left to be put in step. -/
theorem Keeps.updSessRaw {n : Conn} {f : Session → Session} (s : State) (hq : .queries ∈ M) (hn : .conn n ∈ M)
    (he : (s.sess n).EnergyAddsUp → (f (s.sess n)).EnergyAddsUp)
    (ht : .tokenForm ∉ M → s.TokensFit → (f (s.sess n)).TokensFit) : Keeps M s (s.updSess n f) := by
  have entry (m : Conn) : tget (s.updSess n f).sessions.entries m = if m = n then f (s.sess n) else s.sess m :=
    State.updSess_sess n m f s
  refine { Keeps.refl s with
    entries := ⟨fun m a => ?energy, id, fun m hm => ?entry⟩
    held := fun x => absurd hq x
    waiting := fun x => absurd hq x
    uses := fun x => absurd hq x
    tokens := fun x a => ?tokens }
  case energy =>
    rw [entry]; split
    · next e => subst e; exact he a
    · exact a
  case entry =>
    rw [entry, if_neg fun e : m = n => hm (e ▸ hn)]; rfl
  case tokens =>
    have := (State.tokensFit_iff s).1 a
    refine (State.tokensFit_iff _).2 ⟨this.1, this.2.1, fun m => ?_, this.2.2.2⟩
    rw [State.updSess_sess]; split
    · exact ht x a
    · exact this.2.2.1 m

/-- The lists and counts are in step again. -/
theorem Keeps.inStep {s t : State} (h : Keeps (insert .queries M) s t)
    (held : .queries ∉ M → s.HeldSound → t.HeldSound)
    (waiting : .queries ∉ M → s.settlement.records.length ≤ 96 → s.WaitingSound → t.WaitingSound)
    (uses : .queries ∉ M → s.UseCountsRight → t.UseCountsRight) : Keeps M s t :=
  h.giveBack trivial (fun _ e => by cases e) (fun _ e => by cases e) (fun e => by cases e)
    fun _ x => ⟨held x, waiting x, uses x⟩

/-- An update of an entry that keeps its standing and its token. -/
theorem Keeps.updSess {n : Conn} {f : Session → Session} (s : State) (hn : .conn n ∈ M)
    (he : (s.sess n).EnergyAddsUp → (f (s.sess n)).EnergyAddsUp) (hs : (s.sess n).SameStanding (f (s.sess n)))
    (ht : (f (s.sess n)).token = (s.sess n).token) : Keeps M s (s.updSess n f) := by
  have standing (m : Conn) : (s.sess m).SameStanding ((s.updSess n f).sess m) := by
    rw [State.updSess_sess]; split
    · next e => subst e; exact hs
    · exact ⟨rfl, rfl, .inl rfl⟩
  refine Keeps.inStep (Keeps.updSessRaw s (by simp) (by simp [hn]) he fun _ a => (a.sess n).of_same ht hs.2.1)
    (fun _ ⟨nodup, a⟩ => ⟨nodup, fun h hh => (standing _).awaiting (a h hh)⟩)
    (fun _ _ ⟨nodup, mem, closed, full⟩ => ⟨nodup, fun m => (mem m).trans (standing m).closed_iff.symm, fun m hm => ?_,
      full⟩)
    (fun _ a k => ?_)
  · rw [(standing m).2.1, (standing m).1]
    exact closed m ((standing m).closed_iff.1 hm)
  · have : (fun m => ((s.updSess n f).sess m).pricedOn k) = fun m => (s.sess m).pricedOn k :=
      funext fun m => (standing m).pricedOn k
    rw [this]
    exact a k

theorem State.setSess_of_not_empty (n : Conn) (e : Session) (s : State) (h : (s.sess n).state ≠ .empty) :
    s.setSess n e = s.updSess n fun _ => e := by
  simp [State.setSess, h]

theorem State.setSess_to_empty (n : Conn) (e : Session) (s : State) (h : e.state = .empty) :
    s.setSess n e = s.updSess n fun _ => e := by
  simp [State.setSess, h]

/-- An open session moves to another of the open states. -/
theorem Keeps.setSessOpen {n : Conn} {e : Session} (s : State) (hn : .conn n ∈ M) (ho : (s.sess n).state.metered = true)
    (ho' : e.state.metered = true) (hp : e.plan = (s.sess n).plan) (hr : e.record = (s.sess n).record)
    (ht : e.token = (s.sess n).token) (hE : e.energyTotal = (s.sess n).energyTotal)
    (hB : e.bandEnergy = (s.sess n).bandEnergy) : Keeps M s (s.setSess n e) := by
  rw [State.setSess_of_not_empty n e s (fun h => by rw [h] at ho; cases ho)]
  exact Keeps.updSess s hn (fun a => by simpa [Session.EnergyAddsUp, hE, hB] using a) ⟨hp, hr, .inr ⟨ho, ho'⟩⟩ ht

/-! ### Counts over the connectors -/

theorem countP_update {α : Type} [DecidableEq α] (g g' : α → Bool) (n : α) (l : List α) (hl : l.Nodup) (hn : n ∈ l)
    (h : ∀ m, m ≠ n → g' m = g m) :
    l.countP g' + (if g n then 1 else 0) = l.countP g + (if g' n then 1 else 0) := by
  induction l with
  | nil => cases hn
  | cons x l ih =>
    obtain ⟨hx, hl⟩ := List.nodup_cons.1 hl
    rw [List.countP_cons, List.countP_cons]
    by_cases e : x = n
    · subst e
      have : l.countP g' = l.countP g := List.countP_congr fun m hm => by rw [h m fun e => hx (e ▸ hm)]
      omega
    · have := ih hl ((List.mem_cons.1 hn).resolve_left (Ne.symm e))
      rw [h x e]
      omega

theorem mem_allConns (n : Conn) : n ∈ allConns := List.mem_finRange n

theorem allConns_nodup : allConns.Nodup := List.nodup_finRange 48

/-- How many sessions are priced on a slot, before and after the entry of connector n changes. -/
theorem countP_pricedOn (k : PlanSlot) (n : Conn) (s t : State) (h : ∀ m, m ≠ n → t.sess m = s.sess m) :
    allConns.countP (fun m => (t.sess m).pricedOn k) + (if (s.sess n).pricedOn k then 1 else 0) =
      allConns.countP (fun m => (s.sess m).pricedOn k) + (if (t.sess n).pricedOn k then 1 else 0) :=
  countP_update (fun m => (s.sess m).pricedOn k) (fun m => (t.sess m).pricedOn k) n allConns allConns_nodup
    (mem_allConns n) fun m hm => by rw [h m hm]

/-! ### Any other entry -/

/-- Any entry may be written, with the lists and counts left to be put in step; leaving EMPTY is a local activity. -/
theorem Keeps.setSessRaw {n : Conn} {e : Session} (s : State) (hq : .queries ∈ M) (hT : Touches M n)
    (he : e.EnergyAddsUp) (ht : .tokenForm ∉ M → s.TokensFit → e.TokensFit) : Keeps M s (s.setSess n e) := by
  have first : Keeps M s (s.updSess n fun _ => e) := .updSessRaw s hq hT.1 (fun _ => he) ht
  unfold State.setSess
  exact .ite (fun _ => first.trans (.localActivity _ _ hT.2)) fun _ => first

/-! ### Plans -/

/-- A use more or less of a plan slot, with the use counts left to be put in step. -/
theorem Keeps.updPlanUse {k : PlanSlot} {f : Plan → Plan} (s : State) (hq : .queries ∈ M)
    (h : ∀ p, (f p).loaded = p.loaded ∧ (f p).revision = p.revision ∧ (f p).contents = p.contents) :
    Keeps M s (s.updPlan k f) := by
  refine { Keeps.refl s with
    tariff := fun _ j => ?_
    held := fun x => absurd hq x
    waiting := fun x => absurd hq x
    uses := fun x => absurd hq x }
  show ((s.updPlan k f).plan j).loaded = (s.plan j).loaded ∧ ((s.updPlan k f).plan j).revision = (s.plan j).revision ∧
    ((s.updPlan k f).plan j).contents = (s.plan j).contents
  rw [State.updPlan_plan]
  split
  · next e => subst e; exact h _
  · exact ⟨rfl, rfl, rfl⟩

theorem Keeps.releasePlan (e : Session) (s : State) (hq : .queries ∈ M) : Keeps M s (s.releasePlan e) := by
  unfold State.releasePlan
  split
  · exact Keeps.updPlanUse s hq fun _ => ⟨rfl, rfl, rfl⟩
  · exact .refl s

theorem State.releasePlan_plan (e : Session) (s : State) (k : PlanSlot) :
    (s.releasePlan e).plan k =
      { s.plan k with
        useCount := (s.plan k).useCount - if (e.plan.map (·.1)) = some k then 1 else 0 } := by
  unfold State.releasePlan
  split
  · next j rev h =>
    rw [State.updPlan_plan]
    by_cases hk : k = j
    · subst hk; simp [h]
    · simp [h, hk, Ne.symm hk]
  · next h => simp [h]

/-! ### The held list and the decisions -/

theorem Keeps.decide {n : Conn} (k : DecisionKind) (s : State) (hn : .conn n ∈ M) : Keeps M s (s.decide n k) := by
  refine { Keeps.refl s with auth := { AuthKept.refl s.auth with decision := fun m hm => ?_ } }
  show (s.decide n k).decision m = s.decision m
  simp only [State.decide, State.decision, tget_tset, if_neg fun e : m = n => hm (e ▸ hn)]

/-- Held entries leave the list, or are marked sent. -/
theorem Keeps.heldShrinks {l : List HeldEntry} (s : State)
    (h : (l.map fun x => (x.conn, x.token)).Sublist (s.auth.held.map fun x => (x.conn, x.token))) :
    Keeps M s { s with auth := { s.auth with held := l } } := by
  have back : ∀ x ∈ l, ∃ y ∈ s.auth.held, y.conn = x.conn ∧ y.token = x.token := by
    intro x hx
    obtain ⟨y, hy, e⟩ := List.mem_map.1 (h.subset (List.mem_map.2 ⟨x, hx, rfl⟩))
    exact ⟨y, hy, congrArg Prod.fst e, congrArg Prod.snd e⟩
  refine { Keeps.refl s with
    auth := { AuthKept.refl s.auth with heldLength := fun a => ?_ }
    held := fun _ ⟨nodup, a⟩ => ⟨?_, fun x hx => ?_⟩
    tokens := fun _ a => ?_ }
  · have := h.length_le
    simp only [List.length_map] at this
    exact this.trans a
  · have hs : (l.map (·.conn)).Sublist (s.auth.held.map (·.conn)) := by
      simpa [List.map_map, Function.comp_def] using h.map Prod.fst
    exact nodup.sublist hs
  · obtain ⟨y, hy, e, -⟩ := back x hx
    exact e ▸ a y hy
  · have := (State.tokensFit_iff s).1 a
    refine (State.tokensFit_iff _).2 ⟨this.1, fun x hx => ?_, this.2.2⟩
    obtain ⟨y, hy, -, e⟩ := back x hx
    exact e ▸ this.2.1 y hy

theorem Keeps.dropHeld (n : Conn) (s : State) : Keeps M s (s.dropHeld n) :=
  Keeps.heldShrinks s (List.filter_sublist.map _)

theorem dropHeld_held (n : Conn) (s : State) : ∀ h ∈ (s.dropHeld n).auth.held, h.conn ≠ n := by
  intro h hh
  simpa using (List.mem_filter.1 hh).2

/-! ### An entry that waits for its answer returns to EMPTY -/

/-- Connector n has no session, or one that waits for an answer while no held entry stands for it any more. -/
def State.Undecided (s : State) (n : Conn) : Prop :=
  (s.sess n).state = .empty ∨ ((s.sess n).state = .awaitingAuth ∧ ∀ h ∈ s.auth.held, h.conn ≠ n)

theorem State.Undecided.not_metered {s : State} {n : Conn} (h : s.Undecided n) :
    (s.sess n).state = .empty ∨ (s.sess n).state = .awaitingAuth := h.imp_right And.left

/-- No held entry is for a connector whose token is undecided. -/
theorem State.Undecided.not_held {s : State} {n : Conn} (h : s.Undecided n) (a : s.HeldSound) :
    ∀ x ∈ s.auth.held, x.conn ≠ n := by
  rcases h with h | ⟨-, h⟩
  · intro x hx e
    have := a.2 x hx
    rw [e, h] at this
    cases this
  · exact h

/-- The entry of a connector whose token is undecided is replaced by EMPTY. -/
theorem Keeps.setSessInitial {n : Conn} (s : State) (hn : .conn n ∈ M) (hw : .queries ∉ M → s.Undecided n) :
    Keeps M s (s.setSess n Session.initial) := by
  rw [State.setSess_to_empty n _ s rfl]
  have other (m : Conn) (hm : m ≠ n) : (s.updSess n fun _ => Session.initial).sess m = s.sess m := by
    rw [State.updSess_sess, if_neg hm]
  refine Keeps.inStep (Keeps.updSessRaw s (by simp) (by simp [hn]) (fun _ => Session.initial_energyAddsUp)
    fun _ _ => Session.initial_tokensFit)
    (fun x ⟨nodup, a⟩ => ⟨nodup, fun h hh => ?_⟩)
    (fun x _ ⟨nodup, mem, closed, full⟩ => ⟨nodup, fun m => (mem m).trans ?_, fun m hm => ?_, full⟩)
    (fun x a k => ?_)
  · rw [other _ ((hw x).not_held ⟨nodup, a⟩ h hh)]
    exact a h hh
  · by_cases hm : m = n
    · subst hm
      rcases (hw x).not_metered with h | h <;> simp [h, Session.initial]
    · rw [other m hm]
  · by_cases e : m = n
    · subst e; simp [Session.initial] at hm
    · rw [other m e] at hm ⊢
      exact closed m hm
  · have := countP_pricedOn k n s (s.updSess n fun _ => Session.initial) other
    rw [Session.pricedOn_of_not_metered (hw x).not_metered] at this
    obtain ⟨ha, hl⟩ := a k
    refine ⟨?_, hl⟩
    have hi : ((s.updSess n fun _ => Session.initial).sess n).pricedOn k = false := by
      simp [Session.pricedOn, Session.initial]
    rw [hi] at this
    simp only [Bool.false_eq_true, if_false, Nat.add_zero] at this
    exact ha.trans this.symm

theorem Keeps.withdraw {n : Conn} (s : State) (hn : .conn n ∈ M)
    (hw : .queries ∉ M → (s.sess n).state = .awaitingAuth ∨ (s.sess n).state = .empty) :
    Keeps M s (s.withdraw n) := by
  have ended : Keeps M s ((s.dropHeld n).setSess n Session.initial) :=
    (Keeps.dropHeld n s).trans (.setSessInitial _ hn fun x => (hw x).symm.imp_right fun h => ⟨h, dropHeld_held n s⟩)
  unfold State.withdraw
  dsimp only
  split
  · exact ended.trans (.decide _ _ hn)
  · exact ended

/-! ### The settlement queue -/

theorem nextSequence_range {q : Nat} (h : 1 ≤ q ∧ q ≤ 4294967295) : 1 ≤ nextSequence q ∧
    nextSequence q ≤ 4294967295 := by
  unfold nextSequence
  split <;> omega

theorem consecutive_concat (l : List Nat) (q : Nat) (h : consecutive (l ++ [q])) :
    consecutive (l ++ [q] ++ [nextSequence q]) := by
  induction l with
  | nil => exact ⟨rfl, trivial⟩
  | cons a l ih =>
    cases l with
    | nil => exact ⟨h.1, rfl, trivial⟩
    | cons b l => exact ⟨h.1, ih h.2⟩

theorem numbered_append {x : SettlementState} (r : BuiltRecord) (h : x.Numbered) :
    SettlementState.Numbered
      { records := x.records ++ [⟨x.nextSequence, r⟩]
        nextSequence := nextSequence x.nextSequence
        readMark := if x.records.length = 0 then false else x.readMark } := by
  obtain ⟨range, next, -⟩ := h
  refine ⟨fun q hq => ?_, ?_, fun e => absurd e (by simp)⟩
  · simp only [List.map_append, List.map_cons, List.map_nil, List.mem_append, List.mem_singleton] at hq
    rcases hq with (hq | rfl) | rfl
    · exact range q (by simp [hq])
    · exact range _ (by simp)
    · exact nextSequence_range (range x.nextSequence (by simp))
  · simpa using consecutive_concat _ _ next

/-- The settlement queue changes, with the lists and counts left to be put in step. -/
theorem Keeps.settlementRaw {x : SettlementState} (s : State) (hq : .queries ∈ M) (hx : SettlementKept s.settlement x)
    (ht : .tokenForm ∉ M → s.TokensFit → ∀ r ∈ x.records, ∀ t, r.body.token = some t → t.fits) :
    Keeps M s { s with settlement := x } :=
  { Keeps.refl s with
    settlement := hx
    held := fun y => absurd hq y
    waiting := fun y => absurd hq y
    uses := fun y => absurd hq y
    tokens := fun y a => by
      have := (State.tokensFit_iff s).1 a
      exact (State.tokensFit_iff _).2 ⟨this.1, this.2.1, this.2.2.1, ht y a⟩ }

/-- A record joins the queue as it stands, or as it stands without its head (R162 to R164). -/
theorem Keeps.appendTo {x : SettlementState} (r : BuiltRecord) (s : State) (hq : .queries ∈ M)
    (hx : SettlementKept s.settlement x) (hsub : ∀ y ∈ x.records, y ∈ s.settlement.records)
    (hl : s.settlement.records.length ≤ 96 → x.records.length < 96)
    (ht : .tokenForm ∉ M → s.TokensFit → ∀ t, r.token = some t → t.fits) :
    Keeps M s (({ s with settlement := x } : State).appendRecord r) := by
  have raised (k : EventKind) (u : State) : Keeps M u (u.raise k) := .raise k u
  have appended : Keeps M s { s with settlement :=
      { records := x.records ++ [⟨x.nextSequence, r⟩]
        nextSequence := nextSequence x.nextSequence
        readMark := if x.records.length = 0 then false else x.readMark } } := by
    refine .settlementRaw s hq ⟨fun len => ?_, fun a => numbered_append r (hx.numbered a)⟩ fun y a z hz t e => ?_
    · simpa using hl len
    · rcases List.mem_append.1 hz with hz | hz
      · exact a.2.2.2.2 z (hsub z hz) t e
      · rw [List.mem_singleton] at hz
        subst hz
        exact ht y a t e
  unfold State.appendRecord
  dsimp only
  exact appended.trans (.ite (fun _ => raised _ _) fun _ => .ite (fun _ => raised _ _) fun _ => .refl _)

theorem Keeps.appendRecord (r : BuiltRecord) (s : State) (hq : .queries ∈ M)
    (hl : s.settlement.records.length < 96) (ht : .tokenForm ∉ M → s.TokensFit → ∀ t, r.token = some t → t.fits) :
    Keeps M s (s.appendRecord r) :=
  .appendTo r s hq (.refl _) (fun _ => id) (fun _ => hl) ht

end Sys2Proof.Machine
end

section
/-! SUPPORT and PROOF. The allocation pass, the close of a session, an acceptance, a query opened and a settlement
record
discarded: each keeps everything. -/

namespace Sys2Proof.Machine

variable {M : Set Privilege}

/-! ### The allocator (R147 to R156) -/

theorem Keeps.setDecSlot (n : Conn) (v : Nat) (s : State) : Keeps M s (s.setDecSlot n v) := .updSlots s (.inr rfl)

theorem Keeps.clearDecSlot (n : Conn) (s : State) : Keeps M s (s.clearDecSlot n) := .updSlots s (.inr rfl)

theorem Keeps.place (n : Conn) (s : State) : Keeps M s (s.place n) :=
  .ite (fun _ => .refl s) fun _ => .ite (fun _ => (Keeps.setDecSlot n _ s).trans (.updSetpoint n _ _)) fun _ =>
    .ite (fun _ => (Keeps.clearDecSlot n s).trans (.updSetpoint n _ _)) fun _ =>
      (Keeps.clearDecSlot n s).trans (.updSetpoint n _ _)

/-- The pass after its marks and its limits (R147, R148). -/
def State.marked (s : State) : State :=
  allPeds.foldl (fun s p => s.useLimit p) (allConns.foldl (fun s n => s.markOne n) s)

/-- The pass as it takes the power it shares (R149). -/
def State.powered (s : State) : State := { s with alloc := { s.alloc with available := s.passPower } }

/-- The pass as it gives every connector its target (R150). -/
def State.targeted (ts : List (Conn × Nat)) (s : State) : State := allConns.foldl (fun s n => s.setTarget ts n) s

/-- The pass as it places every record (R151). -/
def State.placedAll (s : State) : State := allConns.foldl (fun s n => s.placeReachable n) s

theorem State.pass_eq (s : State) :
    s.pass = (s.marked.powered.targeted (s.marked.fillAll s.marked.passPower)).placedAll := by
  simp only [State.pass, State.marked, State.powered, State.targeted, State.placedAll]

theorem Keeps.marked (s : State) : Keeps M s s.marked :=
  (Keeps.foldl (fun t n => State.markOne n t) allConns (fun t n _ =>
    .ite (fun _ => .refl t) fun _ => .updSetpoint n _ t) s).trans <|
  Keeps.foldl (fun t p => State.useLimit p t) allPeds (fun t _ _ =>
    .ite (fun _ => .refl t) fun _ => .updConfig t id) _

theorem Keeps.targeted (ts : List (Conn × Nat)) (s : State) : Keeps M s (s.targeted ts) :=
  Keeps.foldl (fun t n => State.setTarget ts n t) allConns (fun t n _ =>
    .ite (fun _ => .refl t) fun _ => .updSetpoint n _ t) s

theorem Keeps.placedAll (s : State) : Keeps M s s.placedAll :=
  Keeps.foldl (fun t n => State.placeReachable n t) allConns (fun t n _ =>
    .ite (fun _ => .refl t) fun _ => .place n t) s

theorem Keeps.powered (s : State) : Keeps M s s.powered :=
  .of_alloc fun ⟨base, hyst, hold, renew, configs⟩ => ⟨base, hyst, hold, renew, configs⟩

theorem Keeps.pass (s : State) : Keeps M s s.pass := by
  rw [State.pass_eq]
  exact (Keeps.marked s).trans <| (Keeps.powered _).trans <| (Keeps.targeted _ _).trans (.placedAll _)

theorem Keeps.decreaseAcked (n : Conn) (v h a : Nat) (s : State) : Keeps M s (s.decreaseAcked n v h a) :=
  (Keeps.updSetpoint n _ s).trans (.place n _)

theorem Keeps.increaseAcked (n : Conn) (v h a : Nat) (s : State) : Keeps M s (s.increaseAcked n v h a) :=
  (Keeps.updSetpoint n _ s).trans (.place n _)

theorem Keeps.increaseRefused (n : Conn) (s : State) : Keeps M s (s.increaseRefused n) :=
  (Keeps.updSetpoint n _ s).trans (.place n _)

theorem Keeps.renewalAcked (n : Conn) (v h a : Nat) (s : State) : Keeps M s (s.renewalAcked n v h a) :=
  (Keeps.updSetpoint n _ s).trans (.place n _)

theorem Keeps.fallBack (n : Conn) (s : State) : Keeps M s (s.fallBack n) :=
  (Keeps.updSetpoint n _ s).trans (.pass _)

theorem Keeps.renewalRefused (n : Conn) (s : State) : Keeps M s (s.renewalRefused n) :=
  (Keeps.updSetpoint n _ s).trans (.fallBack n _)

theorem Keeps.increaseFailed (n : Conn) (s : State) : Keeps M s (s.increaseFailed n) := .updSetpoint n _ s

theorem Keeps.renewalFailed (n : Conn) (s : State) : Keeps M s (s.renewalFailed n) := .updSetpoint n _ s

theorem Keeps.reportFailed (k : TxnKind) (s : State) : Keeps M s (s.reportFailed k) := by
  cases k with
  | increase n _ _ => exact .increaseFailed n s
  | renewal n _ _ => exact .renewalFailed n s
  | poll | openSlot | decrease | queued | latch | rollCall => exact .refl s

/-! ### The close of a session (R95, R96) -/

/-- The close of connector n's session without the pass that an exit from CHARGING brings. -/
def State.closeEntry (n : Conn) (s : State) : State :=
  let e := s.sess n
  let r := s.builtRecord n e
  let s := s.releasePlan e
  if s.settlement.records.length < Config.settlementSize then
    (s.appendRecord r).setSess n Session.initial
  else
    let s := s.setSess n
      { e with
        state := .closed
        plan := none
        lateTag := none
        readyDeadline := none
        stopDeadline := none
        flags := addFlagIf s.clock.wall.isNone .clockUnset e.flags
        record := some r }
    { s with sessions := { s.sessions with waiting := s.sessions.waiting ++ [n] } }

theorem State.closeSession_eq (n : Conn) (s : State) :
    s.closeSession n = if (s.sess n).state = .charging then (s.closeEntry n).pass else s.closeEntry n := rfl

/-- The entry of a session that waits for a place in the settlement queue (R96). -/
def Session.closedWith (r : BuiltRecord) (unset : Bool) (e : Session) : Session :=
  { e with
    state := .closed
    plan := none
    lateTag := none
    readyDeadline := none
    stopDeadline := none
    flags := addFlagIf unset .clockUnset e.flags
    record := some r }

theorem State.closeEntry_of_room (n : Conn) (s : State) (h : s.settlement.records.length < 96) :
    s.closeEntry n = ((s.releasePlan (s.sess n)).appendRecord (s.builtRecord n (s.sess n))).updSess n
      fun _ => Session.initial := by
  simp [State.closeEntry, Config.settlementSize, h, State.setSess_to_empty, Session.initial]

@[simp] theorem State.releasePlan_sess (e : Session) (s : State) (n : Conn) : (s.releasePlan e).sess n = s.sess n := by
  simp [State.sess]

@[simp] theorem State.appendRecord_sess (r : BuiltRecord) (s : State) (n : Conn) :
    (s.appendRecord r).sess n = s.sess n := by simp [State.sess]

@[simp] theorem State.appendRecord_plan (r : BuiltRecord) (s : State) (k : PlanSlot) :
    (s.appendRecord r).plan k = s.plan k := by simp [State.plan]

/-- Connector n joins the closed-waiting list (R97). -/
def State.waits (n : Conn) (s : State) : State :=
  { s with sessions := { s.sessions with waiting := s.sessions.waiting ++ [n] } }

theorem State.closeEntry_of_full (n : Conn) (s : State) (h : 96 ≤ s.settlement.records.length)
    (ho : (s.sess n).state ≠ .empty) :
    s.closeEntry n = ((s.releasePlan (s.sess n)).updSess n fun _ =>
      (s.sess n).closedWith (s.builtRecord n (s.sess n)) s.clock.wall.isNone).waits n := by
  have : ¬ s.settlement.records.length < 96 := by omega
  simp [State.closeEntry, Config.settlementSize, this, State.setSess_of_not_empty, ho, State.waits, Session.closedWith]

/-- What the close leaves of every entry, of the plans, and of the list of those that wait. -/
theorem State.closeEntry_leaves (n : Conn) (s : State) (ho : (s.sess n).state ≠ .empty) :
    (∀ m, m ≠ n → (s.closeEntry n).sess m = s.sess m) ∧
    (∀ k, (s.closeEntry n).plan k = { s.plan k with
      useCount := (s.plan k).useCount - if ((s.sess n).plan.map (·.1)) = some k then 1 else 0 }) ∧
    (s.closeEntry n).auth = s.auth ∧
    (s.settlement.records.length < 96 →
      (s.closeEntry n).sess n = Session.initial ∧ (s.closeEntry n).sessions.waiting = s.sessions.waiting) ∧
    (96 ≤ s.settlement.records.length →
      (s.closeEntry n).sess n = (s.sess n).closedWith (s.builtRecord n (s.sess n)) s.clock.wall.isNone ∧
      (s.closeEntry n).sessions.waiting = s.sessions.waiting ++ [n] ∧ (s.closeEntry n).settlement = s.settlement) := by
  by_cases room : s.settlement.records.length < 96
  · rw [State.closeEntry_of_room n s room]
    refine ⟨fun m hm => ?_, fun k => ?_, by simp, fun _ => ⟨by simp, by simp⟩, fun h => by omega⟩
    · rw [State.updSess_sess, if_neg hm]; simp
    · simpa using State.releasePlan_plan (s.sess n) s k
  · rw [State.closeEntry_of_full n s (by omega) ho]
    have at_ (m : Conn) (t : State) : (t.waits n).sess m = t.sess m := rfl
    refine ⟨fun m hm => ?_, fun k => ?_, by simp [State.waits], fun h => absurd h room, fun _ => ⟨?_, ?_⟩⟩
    · rw [at_, State.updSess_sess, if_neg hm]; simp
    · exact State.releasePlan_plan (s.sess n) s k
    · rw [at_, State.updSess_sess, if_pos rfl]
    · simp [State.waits]

/-- A use count after the close of a session priced on the slot, or not on it. -/
theorem useCountsRight_of_close {n : Conn} {s t : State} (ho : (s.sess n).state.metered = true)
    (hn : ∀ k, (t.sess n).pricedOn k = false) (hm : ∀ m, m ≠ n → t.sess m = s.sess m)
    (hp : ∀ k, t.plan k = { s.plan k with
      useCount := (s.plan k).useCount - if ((s.sess n).plan.map (·.1)) = some k then 1 else 0 })
    (a : s.UseCountsRight) : t.UseCountsRight := by
  intro k
  obtain ⟨count, used⟩ := a k
  have := countP_pricedOn k n s t hm
  rw [hn k, Session.pricedOn_of_metered ho] at this
  rw [hp k]
  refine ⟨?_, fun h => used (Nat.lt_of_lt_of_le h (Nat.sub_le _ _))⟩
  by_cases hk : (s.sess n).plan.map (·.1) = some k
  · simp only [hk, beq_self_eq_true, if_true, Bool.false_eq_true, if_false] at this ⊢
    omega
  · simp only [hk, beq_eq_false_iff_ne.2 hk, if_false, Bool.false_eq_true] at this ⊢
    omega

theorem heldSound_of_not_awaiting {n : Conn} {s t : State} (hn : (s.sess n).state ≠ .awaitingAuth)
    (hm : ∀ m, m ≠ n → t.sess m = s.sess m) (hh : t.auth.held = s.auth.held) (a : s.HeldSound) : t.HeldSound := by
  obtain ⟨nodup, held⟩ := a
  refine ⟨hh ▸ nodup, fun h hmem => ?_⟩
  rw [hh] at hmem
  rw [hm h.conn fun e => hn (e ▸ held h hmem)]
  exact held h hmem

/-- The close with the lists and counts left to be put in step. -/
theorem Keeps.closeEntryRaw {n : Conn} (s : State) (hq : .queries ∈ M) (hn : .conn n ∈ M)
    (ho : (s.sess n).state.metered = true) : Keeps M s (s.closeEntry n) := by
  have released : Keeps M s (s.releasePlan (s.sess n)) := .releasePlan _ s hq
  have fits (a : (s.releasePlan (s.sess n)).TokensFit) : (s.sess n).TokensFit := by simpa using a.sess n
  by_cases room : s.settlement.records.length < 96
  · rw [State.closeEntry_of_room n s room]
    exact released.trans <| (Keeps.appendRecord _ _ hq (by simpa using room) fun _ a => (fits a).1).trans <|
      .updSessRaw _ hq hn (fun _ => Session.initial_energyAddsUp) fun _ _ => Session.initial_tokensFit
  · rw [State.closeEntry_of_full n s (by omega) fun h => by rw [h] at ho; cases ho]
    refine released.trans <| Keeps.trans (Keeps.updSessRaw (n := n)
      (f := fun _ => (s.sess n).closedWith (s.builtRecord n (s.sess n)) s.clock.wall.isNone) _ hq hn ?_
      fun _ a => ⟨(fits a).1, ?_⟩) ?_
    · simp [Session.EnergyAddsUp, Session.closedWith]
    · intro r t hr e
      cases hr
      exact (fits a).1 t e
    · exact { Keeps.refl _ with
        entries := ⟨fun _ => id, id, fun _ _ => rfl⟩
        held := fun x => absurd hq x
        waiting := fun x => absurd hq x
        uses := fun x => absurd hq x }

theorem Keeps.closeEntry {n : Conn} (s : State) (hn : .conn n ∈ M) (ho : (s.sess n).state.metered = true) :
    Keeps M s (s.closeEntry n) := by
  have hnw : (s.sess n).state ≠ .awaitingAuth := fun h => by rw [h] at ho; cases ho
  have hnc : (s.sess n).state ≠ .closed := fun h => by rw [h] at ho; cases ho
  obtain ⟨other, plans, auth, room, full⟩ :=
    s.closeEntry_leaves n fun h => by rw [h] at ho; cases ho
  refine Keeps.inStep (Keeps.closeEntryRaw s (by simp) (by simp [hn]) ho)
    (fun _ => heldSound_of_not_awaiting hnw other (by rw [auth]))
    (fun _ len ⟨nodup, mem, closed, filled⟩ => ?wait)
    (fun _ => useCountsRight_of_close ho (fun k => ?_) other plans)
  case wait =>
    have hnm : n ∉ s.sessions.waiting := fun h => hnc ((mem n).1 h)
    by_cases hlen : s.settlement.records.length < 96
    · obtain ⟨own, list⟩ := room hlen
      have none_ : s.sessions.waiting = [] := by
        by_contra h; have := filled h; omega
      refine ⟨list ▸ nodup, fun m => ?_, fun m hm => ?_, fun h => absurd (list.trans none_) h⟩
      · by_cases e : m = n
        · subst e; rw [own, list, none_]; simp [Session.initial]
        · rw [other m e, list]; exact mem m
      · by_cases e : m = n
        · subst e; rw [own] at hm; cases hm
        · rw [other m e] at hm ⊢; exact closed m hm
    · obtain ⟨own, list, same⟩ := full (by omega)
      refine ⟨?_, fun m => ?_, fun m hm => ?_, fun _ => by rw [same]; omega⟩
      · rw [list]
        exact nodup.append (List.nodup_singleton n) (by simpa using hnm)
      · by_cases e : m = n
        · subst e; rw [own, list]; simp [Session.closedWith]
        · rw [other m e, list]; simpa [e] using mem m
      · by_cases e : m = n
        · subst e; rw [own]; exact ⟨rfl, rfl⟩
        · rw [other m e] at hm ⊢; exact closed m hm
  · by_cases hlen : s.settlement.records.length < 96
    · rw [(room hlen).1]; rfl
    · rw [(full (by omega)).1]; simp [Session.pricedOn, Session.closedWith]

theorem Keeps.closeSession {n : Conn} (s : State) (hn : .conn n ∈ M) (ho : (s.sess n).state.metered = true) :
    Keeps M s (s.closeSession n) := by
  rw [State.closeSession_eq]
  exact .ite (fun _ => (Keeps.closeEntry s hn ho).trans (.pass _)) fun _ => .closeEntry s hn ho

end Sys2Proof.Machine
end

section
/-! SUPPORT and PROOF. What the operations of the Connector Sequencer, the Session Table and the Metering Engine at one
connector keep. -/

namespace Sys2Proof.Machine

variable {M : Set Privilege}

/-! ### Open causes and stops (R47, R48, R90) -/

theorem Keeps.setOpenSlot {n : Conn} (s : State) (hT : Touches M n) : Keeps M s (s.setOpenSlot n) := by
  have slot : Keeps M s ((s.updPed (pedOf n) fun x =>
      { x with queue := x.queue.filter fun e => !e.isClose n }).updSlots n fun x => { x with openSet := true }) :=
    (Keeps.updPed s hT.2 (.of_queue fun h => (List.length_filter_le _ _).trans h)).trans (.updSlots _ (.inl hT.1))
  unfold State.setOpenSlot
  dsimp only
  split
  · next x hx =>
    refine .ite (fun _ => slot.trans (.setInflight _ (fun h => ?_) (.inr fun h => ?_))) fun _ => slot
    · rw [hx] at h
      exact FlightSound.replace (x := x) rfl (.inl rfl) h
    · rw [hx] at h
      cases h
  · exact slot

theorem Keeps.enterOpening {n : Conn} (s : State) (hT : Touches M n) : Keeps M s (s.enterOpening n) :=
  (Keeps.updSeqRest s hT.1 rfl rfl).trans (.setContactor _ hT (by simp))

theorem Keeps.openCause {n : Conn} (s : State) (hT : Touches M n) : Keeps M s (s.openCause n) := by
  have first : Keeps M s (s.updSeq n fun r => { r with released := false, restCount := 0 }) :=
    .updSeqRest s hT.1 rfl rfl
  unfold State.openCause
  dsimp only
  split
  · have pending :=
      first.trans <| (Keeps.updSeqRest (f := fun r => { r with openPending := true }) _ hT.1 rfl rfl).trans
      (.setOpenSlot _ hT)
    exact .ite (fun _ => pending.trans <| (Keeps.updSeqRest _ hT.1 rfl rfl).trans (.enterOpening _ hT)) fun _ => pending
  · exact first.trans <| (Keeps.setOpenSlot _ hT).trans <| (Keeps.updSeqRest _ hT.1 rfl rfl).trans (.enterOpening _ hT)
  · exact first.trans <| (Keeps.setOpenSlot _ hT).trans <| (Keeps.updSeqRest _ hT.1 rfl rfl).trans (.enterOpening _ hT)
  all_goals exact first

theorem Keeps.beginStop {n : Conn} (why : EndReason) (s : State) (hT : Touches M n)
    (ho : (s.sess n).state.metered = true) : Keeps M s (s.beginStop why n) := by
  have stopping : Keeps M s (s.setSess n
      { s.sess n with
        state := .stopping
        endReason := some why
        stopDeadline := some (s.sec + s.sessions.stopWait)
        readyDeadline := none }) := .setSessOpen s hT.1 ho rfl rfl rfl rfl rfl rfl
  have opened := stopping.trans (.openCause _ hT)
  unfold State.beginStop
  exact .ite (fun _ => opened.trans (.pass _)) fun _ => opened

theorem Keeps.stopCause {n : Conn} (why : EndReason) (s : State) (hT : Touches M n) : Keeps M s
    (s.stopCause why n) := by
  unfold State.stopCause
  split
  · exact .refl s
  · exact .refl s
  · exact .refl s
  · next h => exact .ite (fun _ => .withdraw s hT.1 fun _ => .inl h) fun _ => .refl s
  all_goals next h => exact .ite (fun _ => .beginStop why s hT (by rw [h]; rfl)) fun _ => .refl s

theorem Keeps.budgetCheck {n : Conn} (s : State) (hT : Touches M n) : Keeps M s (s.budgetCheck n) := by
  unfold State.budgetCheck
  dsimp only
  split
  iterate 2 exact .ite (fun _ => .stopCause _ s hT) fun _ => .refl s
  all_goals exact .refl s

/-! ### Metering (R119 to R132) -/

theorem addPart_energyAddsUp (prices : Table Nat 4) (e : Session) (part : Band × Nat) (h : e.EnergyAddsUp) :
    (addPart prices e part).EnergyAddsUp := by
  obtain ⟨b, d⟩ := part
  simp only [Session.EnergyAddsUp, addPart, tget_tset] at h ⊢
  rw [h]
  fin_cases b <;> simp <;> omega

theorem addPart_standing (prices : Table Nat 4) (e : Session) (part : Band × Nat) :
    e.SameStanding (addPart prices e part) ∧ (addPart prices e part).token = e.token :=
  ⟨⟨rfl, rfl, .inl rfl⟩, rfl⟩

theorem Session.SameStanding.trans {e₁ e₂ e₃ : Session} (h : e₁.SameStanding e₂) (g : e₂.SameStanding e₃) :
    e₁.SameStanding e₃ := by
  refine ⟨g.1.trans h.1, g.2.1.trans h.2.1, ?_⟩
  rcases h.2.2, g.2.2 with ⟨h | h, g | g⟩
  · exact .inl (g.trans h)
  · exact .inr (h ▸ g)
  · exact .inr ⟨h.1, g ▸ h.2⟩
  · exact .inr ⟨h.1, g.2⟩

/-- What pricing a reading keeps of an entry: its energy adds up, and it has the same standing and token. -/
theorem applyReading_keeps (c : ClockState) (prices : Table Nat 4) (f : Reading) (reading : BitVec 32) (e : Session) :
    (e.EnergyAddsUp → (applyReading c prices f reading e).EnergyAddsUp) ∧
      e.SameStanding (applyReading c prices f reading e) ∧ (applyReading c prices f reading e).token = e.token := by
  have parts : ∀ (l : List (Band × Nat)) (e : Session),
      (e.EnergyAddsUp → (l.foldl (addPart prices) e).EnergyAddsUp) ∧
        e.SameStanding (l.foldl (addPart prices) e) ∧ (l.foldl (addPart prices) e).token = e.token := by
    intro l
    induction l with
    | nil => exact fun e => ⟨id, ⟨rfl, rfl, .inl rfl⟩, rfl⟩
    | cons x l ih =>
      intro e
      obtain ⟨energy, standing, token⟩ := ih (addPart prices e x)
      exact ⟨fun h => energy (addPart_energyAddsUp prices e x h),
        (addPart_standing prices e x).1.trans standing, token.trans (addPart_standing prices e x).2⟩
  exact parts f.parts e

theorem Keeps.deliverReading {n : Conn} (r : ConnReport) (s : State) (hT : Touches M n) :
    Keeps M s (s.deliverReading n r) := by
  unfold State.deliverReading
  dsimp only
  refine .ite (fun _ => ?_) fun _ => .refl s
  split
  · exact .updSess s hT.1 id ⟨rfl, rfl, .inl rfl⟩ rfl
  · have reading := applyReading_keeps s.clock
    exact (Keeps.updSess s hT.1 (reading _ _ _ _).1 (reading _ _ _ _).2.1 (reading _ _ _ _).2.2).trans <|
      (Keeps.raiseIf _ _ _).trans <| (Keeps.raiseIf _ _ _).trans (.budgetCheck _ hT)

theorem Keeps.idleMinute {n : Conn} (s : State) (hT : Touches M n) : Keeps M s (s.idleMinute n) := by
  unfold State.idleMinute
  exact .ite (fun _ => .ite (fun _ => .updSess s hT.1 id ⟨rfl, rfl, .inl rfl⟩ rfl) fun _ =>
    (Keeps.updSess s hT.1 id ⟨rfl, rfl, .inl rfl⟩ rfl).trans (.budgetCheck _ hT)) fun _ => .refl s

/-! ### Faults and CLOSE commands (R41, R42, R44, R52) -/

theorem Keeps.enterFaulted {n : Conn} (k : FaultKind) (s : State) (hT : Touches M n) :
    Keeps M s (s.enterFaulted n k) :=
  .ite (fun _ => .refl s) fun _ =>
    (Keeps.setContactor s hT (by simp)).trans <| (Keeps.updSeqRest _ hT.1 rfl rfl).trans <|
      (Keeps.setOpenSlot _ hT).trans <| (Keeps.raise _ _).trans (.stopCause _ _ hT)

theorem Keeps.enqueueTaken {n : Conn} (e : QueueEntry) (s : State) (hT : Touches M n)
    (h : s.queueTakes (pedOf n) = true) : Keeps M s (s.enqueue (pedOf n) e) :=
  .enqueue e s hT.2 (queueTakes_length h)

theorem Keeps.closeNak {n : Conn} (fuel : Nat) (s : State) (hT : Touches M n) : Keeps M s (s.closeNak n fuel) := by
  induction fuel generalizing s with
  | zero => exact .refl s
  | succ fuel ih =>
    have retry : Keeps M s (s.updSeq n fun r => { r with attempt := r.attempt + 1 }) := .updSeqRest s hT.1 rfl rfl
    unfold State.closeNak
    dsimp only
    refine .ite (fun _ => .refl s) fun _ => .ite (fun _ => ?_) fun _ => .ite (fun _ => .enterFaulted _ s hT) fun _ => ?_
    · exact (Keeps.updSeqRest s hT.1 rfl rfl).trans (.enterOpening _ hT)
    · split
      iterate 2
        exact .ite (fun h => retry.trans (.enqueueTaken _ _ hT h)) fun _ => retry.trans (ih _)
      · exact (Keeps.setOpenSlot s hT).trans <| (Keeps.updSeqRest _ hT.1 rfl rfl).trans (.enterOpening _ hT)
      all_goals exact .refl s

theorem Keeps.offerClose {n : Conn} (s : State) (hT : Touches M n) : Keeps M s (s.offerClose n) :=
  .ite (fun h => .enqueueTaken _ s hT h) fun _ => .closeNak 3 s hT

theorem Keeps.closeAck {n : Conn} (s : State) (hT : Touches M n) : Keeps M s (s.closeAck n) :=
  .ite (fun _ => .refl s) fun _ =>
    .ite (fun _ => (Keeps.updSeqRest s hT.1 rfl rfl).trans (.enterOpening _ hT)) fun _ =>
      (Keeps.updSeqRest s hT.1 rfl rfl).trans (.setContactor _ hT (by simp))

theorem Keeps.testClose {n : Conn} (s : State) (hT : Touches M n) : Keeps M s (s.testClose n) :=
  .ite (fun _ => (Keeps.updSeqRest s hT.1 rfl rfl).trans <| (Keeps.setContactor _ hT (by simp)).trans
    (.offerClose _ hT)) fun _ => .refl s

theorem Keeps.enterOpen {n : Conn} (s : State) (hT : Touches M n) (h : (s.seq n).locks.isEmpty = true) :
    Keeps M s (s.enterOpen n) :=
  (Keeps.setContactor s hT fun _ => h).trans (.testClose _ hT)

theorem Keeps.enterClosed {n : Conn} (s : State) (hT : Touches M n) : Keeps M s (s.enterClosed n) := by
  have first : Keeps M s ((s.updSeq n fun r =>
      { r with settleDeadline := none, idleCount := 0, released := false }).setContactor n .closed) :=
    (Keeps.updSeqRest s hT.1 rfl rfl).trans (.setContactor _ hT (by simp))
  unfold State.enterClosed
  dsimp only
  split
  · next h =>
    refine first.trans (Keeps.trans (Keeps.setSessOpen _ hT.1 ?_ ?_ ?_ ?_ ?_ ?_ ?_) <|
      (Keeps.pass _).trans (.budgetCheck _ hT))
    · rw [h]; rfl
    all_goals rfl
  · exact first

/-! ### Locks (R50) -/

/-- A connector that was left OPEN under a lock in the middle is not so left at the end. -/
theorem Keeps.relocked {n : Conn} {s t : State} (h : Keeps (insert (.openLocked n) M) s t)
    (hl : (t.seq n).contactor ≠ .opened) : Keeps M s t :=
  h.giveBack trivial (fun m e _ b => by cases e; exact absurd b hl) (fun _ e => by cases e) (fun e => by cases e)
    fun e => by cases e

theorem Touches.mono {M N : Set Privilege} {n : Conn} (h : Touches M n) (hMN : M ⊆ N) : Touches N n :=
  ⟨hMN h.1, hMN h.2⟩

/-- No operation of an open cause leaves a contactor OPEN that was not. -/
theorem State.openCause_not_opened (n : Conn) (s : State) (h : (s.seq n).contactor ≠ .opened) :
    ((s.openCause n).seq n).contactor ≠ .opened := by
  unfold State.openCause
  dsimp only
  split
  · refine fun e => ?_
    split at e
    · simp [State.enterOpening_seq] at e
    · simp_all
  · simp [State.enterOpening_seq]
  · simp [State.enterOpening_seq]
  all_goals simpa [State.updSeq_seq] using h

theorem Keeps.addLock {n : Conn} (src : LockSource) (s : State) (hT : Touches M n) : Keeps M s (s.addLock n src) := by
  unfold State.addLock
  dsimp only
  refine .ite (fun _ => Keeps.relocked (n := n) ?_ ?_) fun h => .updSeq s hT.1 fun _ a b => ?_
  · have hT' : Touches (insert (.openLocked n) M) n := hT.mono (Set.subset_insert _ _)
    have stopped : Keeps (insert (.openLocked n) M) s ((s.updSeq n fun r =>
        { r with locks := r.locks.put true src }).stopCause .lockout n) :=
      (Keeps.updSeq s hT'.1 fun x => absurd (Set.mem_insert _ _) x).trans (.stopCause _ _ hT')
    split
    · exact stopped.trans (.setContactor _ hT' (by simp))
    iterate 3 exact stopped.trans (.openCause _ hT')
    all_goals exact stopped
  · split
    · simp [State.setContactor_seq]
    iterate 3 next h => exact State.openCause_not_opened n _ (by rw [h]; simp)
    all_goals next h => rw [h]; simp
  · exact absurd ((Locks.isEmpty_iff _).2 (a b)) h

theorem Keeps.removeLock {n : Conn} (src : LockSource) (s : State) (hT : Touches M n) :
    Keeps M s (s.removeLock n src) := by
  have put : Keeps M s (s.updSeq n fun r => { r with locks := r.locks.put false src }) := by
    refine .updSeq s hT.1 fun _ a b => ?_
    have := a b
    dsimp only
    rw [this]
    cases src <;> rfl
  unfold State.removeLock
  dsimp only
  refine .ite (fun h => put.trans (.enterOpen _ hT ?_)) fun _ => put
  simp only [Bool.and_eq_true] at h
  simpa [State.updSeq_seq] using h.1.2

/-! ### A reply's contact state (R43 to R49) -/

theorem Keeps.testReclose {n : Conn} (r : ConnReport) (s : State) (hT : Touches M n) : Keeps M s (s.testReclose n r) :=
  .ite (fun _ => (Keeps.updSeqRest s hT.1 rfl rfl).trans <| (Keeps.setContactor _ hT (by simp)).trans
    (.offerClose _ hT)) fun _ => .refl s

theorem Keeps.replyOpened {n : Conn} (r : ConnReport) (s : State) (hT : Touches M n) : Keeps M s (s.replyOpened n r) :=
  .ite (fun _ => (Keeps.setOpenSlot s hT).trans (.enterOpening _ hT)) fun _ =>
    .ite (fun _ => (Keeps.updSeqRest s hT.1 rfl rfl).trans <| (Keeps.testReclose r _ hT).trans (.testClose _ hT)) fun _
      =>
      .testClose s hT

theorem Keeps.replyVerifying {n : Conn} (r : ConnReport) (s : State) (hT : Touches M n) :
    Keeps M s (s.replyVerifying n r) := by
  refine .ite (fun _ => .refl s) fun _ => .ite (fun _ => .enterClosed s hT) fun _ =>
    .ite (fun _ => .enterFaulted _ s hT) fun _ => ?_
  split
  iterate 2
    exact (Keeps.setOpenSlot s hT).trans <| (Keeps.updSeqRest _ hT.1 rfl rfl).trans <|
      (Keeps.setContactor _ hT (by simp)).trans (.offerClose _ hT)
  · exact (Keeps.setOpenSlot s hT).trans <| (Keeps.updSeqRest _ hT.1 rfl rfl).trans (.enterOpening _ hT)
  all_goals exact .refl s

theorem Keeps.replyClosed {n : Conn} (r : ConnReport) (s : State) (hT : Touches M n) : Keeps M s (s.replyClosed n r) :=
  .ite (fun _ => .enterFaulted _ s hT) fun _ => .ite (fun _ => .ite (fun _ =>
      (Keeps.updSeqRest s hT.1 rfl rfl).trans <| (Keeps.setOpenSlot _ hT).trans <|
        (Keeps.updSeqRest _ hT.1 rfl rfl).trans (.enterOpening _ hT)) fun _ => .updSeqRest s hT.1 rfl rfl) fun _ =>
    .updSeqRest s hT.1 rfl rfl

theorem Keeps.replyOpening {n : Conn} (r : ConnReport) (s : State) (hT : Touches M n) :
    Keeps M s (s.replyOpening n r) :=
  .ite (fun _ => .refl s) fun _ => .ite
    (fun _ => .ite (fun h => (Keeps.updSeqRest s hT.1 rfl rfl).trans (.enterOpen _ hT h)) fun _ =>
      (Keeps.updSeqRest s hT.1 rfl rfl).trans (.setContactor _ hT (by simp)))
    fun _ => .ite (fun _ => (Keeps.updSeqRest s hT.1 rfl rfl).trans (.enterFaulted _ _ hT)) fun _ =>
      .updSeqRest s hT.1 rfl rfl

theorem Keeps.replyContact {n : Conn} (r : ConnReport) (s : State) (hT : Touches M n) :
    Keeps M s (s.replyContact n r) := by
  unfold State.replyContact
  split
  · exact .replyOpened r s hT
  · exact .refl s
  · exact .replyVerifying r s hT
  · exact .replyClosed r s hT
  · exact .replyOpening r s hT
  · exact .refl s
  · exact .ite (fun _ => .refl s) fun _ => .enterFaulted _ s hT

theorem Keeps.openAcked {n : Conn} (s : State) (hT : Touches M n) : Keeps M s (s.openAcked n) :=
  .ite (fun _ => .updSeqRest s hT.1 rfl rfl) fun _ => .refl s

end Sys2Proof.Machine
end

section
/-! SUPPORT and PROOF. What the operations of the Authorization Unit, the Message Classifier and the Line Controller
keep. -/

namespace Sys2Proof.Machine

variable {M : Set Privilege}

/-! ### Acceptances and queries (R63, R68, R83) -/

theorem useCountsRight_of_accept {n : Conn} {k : PlanSlot} {rev : BitVec 16} {s t : State}
    (hn : (s.sess n).state = .empty ∨ (s.sess n).state = .awaitingAuth) (ht : (t.sess n).state = .authorized)
    (hk : (t.sess n).plan = some (k, rev)) (hl : (s.plan k).loaded = true) (hm : ∀ m, m ≠ n → t.sess m = s.sess m)
    (hp : ∀ j, t.plan j = if j = k then { s.plan k with useCount := (s.plan k).useCount + 1 } else s.plan j)
    (a : s.UseCountsRight) : t.UseCountsRight := by
  intro j
  obtain ⟨count, used⟩ := a j
  have := countP_pricedOn j n s t hm
  rw [Session.pricedOn_of_not_metered hn, Session.pricedOn_of_metered (by rw [ht]; rfl), hk] at this
  rw [hp j]
  by_cases hj : j = k
  · subst hj
    simp only [Option.map_some, beq_self_eq_true, if_true, Bool.false_eq_true, if_false] at this ⊢
    exact ⟨by omega, fun _ => hl⟩
  · have hkj : (some k == some j) = false := by simpa using fun e : k = j => hj e.symm
    simp only [Option.map_some, hkj, Bool.false_eq_true, if_false] at this
    rw [if_neg hj]
    exact ⟨by omega, used⟩

theorem State.acceptedSession_tokensFit {s : State} {n : Conn} {a : Acceptance} (h : ∀ t, a.token = some t → t.fits) :
    (s.acceptedSession n a).TokensFit := ⟨h, fun _ _ e => by cases e⟩

/-- An acceptance up to the test of the close condition (R68, R83). -/
def State.startSession (n : Conn) (a : Acceptance) (s : State) : State :=
  ((s.updPlan a.plan fun p => { p with useCount := p.useCount + 1 }).decide n (.accepted a.source)).setSess n
    (s.acceptedSession n a)

theorem State.accept_eq (n : Conn) (a : Acceptance) (s : State) : s.accept n a = (s.startSession n a).testClose n := rfl

theorem State.startSession_sess (n m : Conn) (a : Acceptance) (s : State) :
    (s.startSession n a).sess m = if m = n then s.acceptedSession n a else s.sess m := by
  rw [State.startSession, State.setSess_sess]
  rfl

@[simp] theorem State.startSession_sequencer (n : Conn) (a : Acceptance) (s : State) :
    (s.startSession n a).sequencer = s.sequencer := by simp [State.startSession]

@[simp] theorem State.startSession_waiting (n : Conn) (a : Acceptance) (s : State) :
    (s.startSession n a).sessions.waiting = s.sessions.waiting := by simp [State.startSession]

@[simp] theorem State.startSession_settlement (n : Conn) (a : Acceptance) (s : State) :
    (s.startSession n a).settlement = s.settlement := by simp [State.startSession]

@[simp] theorem State.startSession_held (n : Conn) (a : Acceptance) (s : State) :
    (s.startSession n a).auth.held = s.auth.held := by simp [State.startSession, State.decide]

theorem State.startSession_plan (n : Conn) (a : Acceptance) (s : State) (k : PlanSlot) :
    (s.startSession n a).plan k =
      if k = a.plan then { s.plan a.plan with useCount := (s.plan a.plan).useCount + 1 } else s.plan k := by
  have : (s.startSession n a).plan k = (s.updPlan a.plan fun p => { p with useCount := p.useCount + 1 }).plan k := by
    simp [State.startSession, State.plan]
  rw [this, State.updPlan_plan]

theorem Keeps.startSession {n : Conn} (a : Acceptance) (s : State) (hT : Touches M n)
    (hl : (s.plan a.plan).loaded = true)
    (hw : .queries ∉ M → s.Undecided n) (ht : .tokenForm ∉ M → ∀ t, a.token = some t → t.fits) :
    Keeps M s (s.startSession n a) := by
  have hT' : Touches (insert .queries M) n := hT.mono (Set.subset_insert _ _)
  have used : Keeps (insert .queries M) s
      ((s.updPlan a.plan fun p => { p with useCount := p.useCount + 1 }).decide n (.accepted a.source)) :=
    Keeps.trans (Keeps.updPlanUse (k := a.plan) (f := fun p => { p with useCount := p.useCount + 1 }) s (by simp)
      fun _ => ⟨rfl, rfl, rfl⟩) (.decide _ _ hT'.1)
  have raw : Keeps (insert .queries M) s (s.startSession n a) :=
    used.trans <| .setSessRaw (e := s.acceptedSession n a) _ (by simp) hT' rfl fun x _ =>
      State.acceptedSession_tokensFit (ht fun h => x (Set.mem_insert_of_mem _ h))
  have own : (s.startSession n a).sess n = s.acceptedSession n a := by rw [State.startSession_sess, if_pos rfl]
  have other (m : Conn) (hm : m ≠ n) : (s.startSession n a).sess m = s.sess m := by rw [State.startSession_sess,
    if_neg hm]
  refine raw.inStep (fun x h => ?held) (fun x _ ⟨nodup, mem, closed, full⟩ => ?waiting)
    (fun x => useCountsRight_of_accept (hw x).not_metered (by rw [own]; rfl) (by rw [own]; rfl) hl other
      (State.startSession_plan n a s))
  case held =>
    have free := (hw x).not_held h
    refine ⟨by simpa using h.1, fun y hy => ?_⟩
    rw [State.startSession_held] at hy
    rw [other _ (free y hy)]
    exact h.2 y hy
  case waiting =>
    refine ⟨by simpa using nodup, fun m => ?_, fun m hm => ?_, by simpa using full⟩
    · rw [State.startSession_waiting, mem m]
      by_cases e : m = n
      · subst e
        rw [own]
        rcases (hw x).not_metered with h | h <;> simp [h, State.acceptedSession]
      · rw [other m e]
    · by_cases e : m = n
      · subst e
        rw [own] at hm
        cases hm
      · rw [other m e] at hm ⊢
        exact closed m hm

theorem Keeps.accept {n : Conn} (a : Acceptance) (s : State) (hT : Touches M n) (hl : (s.plan a.plan).loaded = true)
    (hw : .queries ∉ M → s.Undecided n) (ht : .tokenForm ∉ M → ∀ t, a.token = some t → t.fits) :
    Keeps M s (s.accept n a) :=
  (Keeps.startSession a s hT hl hw ht).trans (.testClose _ hT)

theorem Keeps.offerDisplay {n : Conn} (k : DisplayKind) (s : State) (hT : Touches M n) :
    Keeps M s (s.offerDisplay n k) :=
  .ite (fun h => .enqueueTaken _ s hT h) fun _ => .refl s

theorem Keeps.refuse {n : Conn} (why : RefuseReason) (held : Bool) (s : State) (hT : Touches M n)
    (hw : .queries ∉ M → s.Undecided n ∨ held = false) : Keeps M s (s.refuse n why held) := by
  refine Keeps.trans (.ite (fun h => .setSessInitial s hT.1 fun x => ?_) fun _ => .refl s)
    ((Keeps.decide _ _ hT.1).trans (.offerDisplay _ _ hT))
  exact (hw x).resolve_right fun e => by rw [h] at e; cases e

theorem Keeps.acceptOrRefuse {n : Conn} (a : Acceptance) (held : Bool) (s : State) (hT : Touches M n)
    (hw : .queries ∉ M → s.Undecided n) (ht : .tokenForm ∉ M → ∀ t, a.token = some t → t.fits) :
    Keeps M s (s.acceptOrRefuse n a held) :=
  .ite (fun h => .accept a s hT h hw ht) fun _ => .refuse _ held s hT fun x => .inl (hw x)

theorem Keeps.offlineRule {n : Conn} (t : Token) (late : Option Byte) (s : State) (hT : Touches M n)
    (hw : .queries ∉ M → s.Undecided n) (ht : .tokenForm ∉ M → t.fits) : Keeps M s (s.offlineRule n t late) := by
  have token : .tokenForm ∉ M → ∀ u, some t = some u → u.fits := fun x u e => by cases e; exact ht x
  have refused (why : RefuseReason) (held : Bool) : Keeps M s (s.refuse n why held) :=
    .refuse why held s hT fun x => .inl (hw x)
  unfold State.offlineRule
  dsimp only
  split
  · exact .ite (fun _ => refused _ _) fun _ => .acceptOrRefuse _ _ s hT hw token
  · split
    · exact .ite (fun _ => .acceptOrRefuse _ _ s hT hw token) fun _ => refused _ _
    · exact refused _ _

theorem State.openQuery_leaves (n : Conn) (t : Token) (why : QueryReason) (s : State) :
    (∀ m, (s.openQuery n t why).sess m = if m = n then
      { Session.initial with state := .awaitingAuth, token := some t, plugSeen := s.plugSeenNow n } else s.sess m) ∧
    (s.openQuery n t why).auth.held = s.auth.held ++
      [⟨n, s.auth.nextTag, t, why, s.sec + s.auth.queryTimeout, false⟩] ∧
    (s.openQuery n t why).sessions.waiting = s.sessions.waiting :=
  ⟨fun m => by rw [State.openQuery, State.setSess_sess]; rfl, by simp [State.openQuery, State.decide],
    by simp [State.openQuery]⟩

theorem Keeps.openQuery {n : Conn} (t : Token) (why : QueryReason) (s : State) (hT : Touches M n)
    (hl : s.auth.held.length < 8) (he : (s.sess n).state = .empty) (ht : .tokenForm ∉ M → t.fits) :
    Keeps M s (s.openQuery n t why) := by
  have hT' : Touches (insert .queries M) n := hT.mono (Set.subset_insert _ _)
  have hx {x : Privilege} (h : x ∉ insert .queries M) : x ∉ M := fun e => h (Set.mem_insert_of_mem _ e)
  obtain ⟨sess, held, waiting⟩ := s.openQuery_leaves n t why
  have raw : Keeps (insert .queries M) s (s.openQuery n t why) := by
    refine Keeps.trans ?_ ((Keeps.decide _ _ hT'.1).trans <| .setSessRaw _ (by simp) hT' Session.initial_energyAddsUp
      fun x _ => ⟨fun u e => by cases e; exact ht (hx x), fun _ _ e => by cases e⟩)
    exact { Keeps.refl s with
      auth := ⟨fun _ => by simp; omega, id, fun _ => rfl, fun _ => rfl, fun _ _ => rfl⟩
      held := fun x => absurd (Set.mem_insert _ _) x
      waiting := fun x => absurd (Set.mem_insert _ _) x
      uses := fun x => absurd (Set.mem_insert _ _) x
      tokens := fun x a => by
        have := (State.tokensFit_iff s).1 a
        refine (State.tokensFit_iff _).2 ⟨this.1, fun y hy => ?_, this.2.2⟩
        rcases List.mem_append.1 hy with hy | hy
        · exact this.2.1 y hy
        · rw [List.mem_singleton] at hy
          subst hy
          exact ht (hx x) }
  have free (a : s.HeldSound) : ∀ h ∈ s.auth.held, h.conn ≠ n := State.Undecided.not_held (.inl he) a
  refine raw.inStep (fun _ a => ⟨?_, fun h hh => ?_⟩) (fun _ _ ⟨nodup, mem, closed, full⟩ => ?waiting)
    (fun _ a k => ?uses)
  · rw [held, List.map_append]
    exact a.1.append (List.nodup_singleton n) (by simpa using fun x hx => (free a x hx))
  · rw [held] at hh
    rcases List.mem_append.1 hh with hh | hh
    · rw [sess, if_neg (free a h hh)]
      exact a.2 h hh
    · rw [List.mem_singleton] at hh
      subst hh
      rw [sess, if_pos rfl]
  case waiting =>
    refine ⟨waiting ▸ nodup, fun m => ?_, fun m hm => ?_, by rw [waiting]; simpa using full⟩
    · rw [waiting, mem m, sess]
      split
      · next e => subst e; simp [he]
      · rfl
    · rw [sess] at hm ⊢
      split at hm
      · cases hm
      · next e => rw [if_neg e]; exact closed m hm
  case uses =>
    have count := countP_pricedOn k n s (s.openQuery n t why) fun m hm => by rw [sess, if_neg hm]
    rw [Session.pricedOn_of_not_metered (.inl he), Session.pricedOn_of_not_metered (.inr (by rw [sess, if_pos rfl]))]
      at count
    have plan : (s.openQuery n t why).plan k = s.plan k := by simp [State.plan]
    rw [plan, Nat.add_right_cancel count]
    exact a k

theorem Keeps.askHost {n : Conn} (t : Token) (why : QueryReason) (s : State) (hT : Touches M n)
    (he : (s.sess n).state = .empty) (ht : .tokenForm ∉ M → t.fits) : Keeps M s (s.askHost n t why) := by
  unfold State.askHost
  split
  · exact .offlineRule t none s hT (fun _ => .inl he) ht
  · exact .ite (fun h => .openQuery t why s hT h he ht) fun _ => .refuse _ _ s hT fun _ => .inl (.inl he)

theorem Keeps.decideByTable {n : Conn} (t : Token) (s : State) (hT : Touches M n) (he : (s.sess n).state = .empty)
    (ht : .tokenForm ∉ M → t.fits) : Keeps M s (s.decideByTable n t) := by
  have token : .tokenForm ∉ M → ∀ u, some t = some u → u.fits := fun x u e => by cases e; exact ht x
  have ask (why : QueryReason) : Keeps M s (s.askHost n t why) := .askHost t why s hT he ht
  unfold State.decideByTable
  split
  · refine .ite (fun _ => .refuse _ _ s hT fun _ => .inl (.inl he)) fun _ => ?_
    split
    · exact ask _
    · exact .ite (fun _ => ask _) fun _ => .acceptOrRefuse _ _ s hT (fun _ => .inl he) token
  · split <;> exact ask _

theorem Keeps.decideToken {n : Conn} (t : Token) (s : State) (hT : Touches M n) (ht : .tokenForm ∉ M → t.fits) :
    Keeps M s (s.decideToken n t) := by
  have refused (why : RefuseReason) : Keeps M s (s.refuse n why false) := .refuse why false s hT fun _ => .inr rfl
  exact .ite (fun _ => (Keeps.decide _ s hT.1).trans (.stopCause _ _ hT)) fun _ => .ite (fun _ => refused _) fun he =>
    .ite (fun _ => refused _) fun _ => .ite (fun _ => refused _) fun _ => .ite (fun _ => refused _) fun _ =>
      .decideByTable t s hT (not_not.1 he) ht

theorem Keeps.lateAccept (a : Answer) (s : State) (hT : Touches M a.conn) : Keeps M s (s.lateAccept a) :=
  (Keeps.updSess s hT.1 id ⟨rfl, rfl, .inl rfl⟩ rfl).trans <| (Keeps.decide _ _ hT.1).trans (.budgetCheck _ hT)

theorem Keeps.lateReject (a : Answer) (s : State) (hT : Touches M a.conn) : Keeps M s (s.lateReject a) :=
  (Keeps.updSess s hT.1 id ⟨rfl, rfl, .inl rfl⟩ rfl).trans <| (Keeps.decide _ _ hT.1).trans (.stopCause _ _ hT)

/-- A connector whose held entry is dropped is undecided. -/
theorem undecided_of_held {s : State} {h : HeldEntry} (hh : h ∈ s.auth.held) (a : s.HeldSound) :
    (s.dropHeld h.conn).Undecided h.conn := .inr ⟨a.2 h hh, dropHeld_held h.conn s⟩

theorem State.matchHeld_mem {s : State} {a : Answer} {h : HeldEntry} (e : s.matchHeld a = some h) :
    h ∈ s.auth.held ∧ h.conn = a.conn ∧ h.tag = a.tag := by
  refine ⟨List.mem_of_find?_eq_some e, ?_⟩
  simpa using List.find?_some e

theorem State.heldOf_mem {s : State} {n : Conn} {h : HeldEntry} (e : s.heldOf n = some h) :
    h ∈ s.auth.held ∧ h.conn = n :=
  ⟨List.mem_of_find?_eq_some e, by simpa using List.find?_some e⟩

theorem Keeps.takeAnswer (a : Answer) (s : State) (hT : Touches M a.conn) (hq : .queries ∉ M → s.HeldSound)
    (ht : .tokenForm ∉ M → s.TokensFit) : Keeps M s (s.takeAnswer a).1 := by
  unfold State.takeAnswer
  split
  · next h e =>
    obtain ⟨hm, hc, -⟩ := State.matchHeld_mem e
    have hw : .queries ∉ M → (s.dropHeld a.conn).Undecided a.conn := fun x => hc ▸ undecided_of_held hm (hq x)
    unfold State.answerOnTime
    dsimp only
    split
    · exact (Keeps.dropHeld _ s).trans (.acceptOrRefuse _ _ _ hT hw fun x u e => by cases e; exact (ht x).2.1 h hm)
    · exact (Keeps.dropHeld _ s).trans (.refuse _ _ _ hT fun x => .inl (hw x))
  · split
    · split
      · exact .lateAccept a s hT
      · exact .lateReject a s hT
    · exact .raise _ s

/-! ### Offered messages (R12, R27 to R32) -/

theorem makeToken_fits {kind len : Byte} {id : Frame} {t : Token} (hid : id.length = 10)
    (h : makeToken kind len id = some t) : t.fits := by
  unfold makeToken at h
  split at h
  · cases h
  · split at h
    · next hk =>
      cases h
      simp only [idLengthOk, Bool.and_eq_true, Bool.or_eq_true, beq_iff_eq] at hk
      simp only [Token.fits, List.length_take, hid]
      omega
    · cases h

theorem tokenPayload_fits {payload : Frame} {t : Token} (h : tokenPayload payload = some t) : t.fits := by
  unfold tokenPayload at h
  split at h
  · split at h
    · split at h
      · next hk =>
        cases h
        simp only [idLengthOk, Bool.and_eq_true, Bool.or_eq_true, beq_iff_eq] at hk
        simp only [Token.fits]
        omega
      · cases h
    · cases h
  · cases h

theorem localMessage_token {m : Message} {l : Letter} {t : Token} (h : localMessage m = some (.token l t)) :
    m.code = 1 ∧ m.letter = some l ∧ tokenPayload m.payload = some t := by
  unfold localMessage at h
  split at h
  · next hc =>
    split at h
    · next h₁ h₂ => cases h; exact ⟨hc, h₁, h₂⟩
    · cases h
  · split at h
    · split at h <;> cases h
    · split at h
      · split at h <;> cases h
      · split at h
        · split at h
          · obtain ⟨x, -, e⟩ := Option.map_eq_some_iff.1 h; cases e
          · cases h
        · cases h

theorem Keeps.switchLock {n : Conn} (on : Bool) (s : State) (hT : Touches M n) : Keeps M s (s.switchLock n on) :=
  .ite (fun _ => .addLock _ s hT) fun _ => .removeLock _ s hT

/-- A pedestal with both its connectors may be touched, and its whole entry. -/
structure Serves (M : Set Privilege) (p : Ped) : Prop where
  ped : .ped p ∈ M
  entry : .entry p ∈ M
  conn : ∀ l, .conn (connOf p l) ∈ M

@[simp] theorem pedOf_connOf (p : Ped) (l : Letter) : pedOf (connOf p l) = p := by
  cases l <;> ext <;> simp only [pedOf, connOf] <;> omega

theorem Serves.touches {p : Ped} (h : Serves M p) (l : Letter) : Touches M (connOf p l) :=
  ⟨h.conn l, by rw [pedOf_connOf]; exact h.ped⟩

theorem Keeps.handLocal {p : Ped} (m : Message) (s : State) (hP : Serves M p) : Keeps M s (s.handLocal p m) := by
  unfold State.handLocal
  split
  · next x hx =>
    cases x with
    | token l t => exact .decideToken t s (hP.touches l) fun _ => tokenPayload_fits (localMessage_token hx).2.2
    | stopRequest l => exact .stopCause _ s (hP.touches l)
    | faultReport l code =>
      cases l with
      | some l => exact .enterFaulted _ s (hP.touches l)
      | none => exact (Keeps.enterFaulted _ s (hP.touches .a)).trans (.enterFaulted _ _ (hP.touches .b))
    | serviceSwitch on => exact (Keeps.switchLock on s (hP.touches .a)).trans (.switchLock on _ (hP.touches .b))
  · exact .refl s

theorem Keeps.appendPassUp (p : Ped) (m : Message) (s : State) (h : s.passUpRoom = true) :
    Keeps M s (s.appendPassUp p m) :=
  .of_classifier fun _ => by
    have : s.classifier.passUp.length < 16 := of_decide_eq_true h
    simp; omega

theorem Keeps.takeOffer {p : Ped} (m : Message) (s : State) (hP : Serves M p) : Keeps M s (s.takeOffer p m).1 := by
  have hold : Keeps M s (s.holdOffer p) := (Keeps.raise _ s).trans (.updCounts p _ _)
  unfold State.takeOffer
  split
  · exact .handLocal m s hP
  · split
    · exact .appendPassUp p m s ‹_›
    · exact hold
  · split
    · exact (Keeps.appendPassUp p m s ‹_›).trans (.handLocal m _ hP)
    · exact hold
  · exact .refl s

/-- An update of the entry of a pedestal that is served, about neither its standing nor its queue. -/
theorem Keeps.updPedRest {p : Ped} {f : Pedestal → Pedestal} (s : State) (hP : Serves M p)
    (h : ∀ e, (f e).queue = e.queue ∧ (f e).configured = e.configured ∧ (f e).slot = e.slot ∧ (f e).link = e.link ∧
      (f e).nextPoll = e.nextPoll ∧ (f e).resync = e.resync) : Keeps M s (s.updPed p f) := by
  obtain ⟨hq, hc, hk, hl, hn, hr⟩ := h (s.ped p)
  exact .updPed s hP.ped (.of_same hq hc hk hl (by rw [hn]) (by rw [hr]; exact id) hP.entry)

theorem Keeps.offerMessage {p : Ped} (m : Message) (s : State) (hP : Serves M p) : Keeps M s (s.offerMessage p m) := by
  have rest {f : Pedestal → Pedestal} (t : State) := Keeps.updPedRest (M := M) (f := f) t hP
  unfold State.offerMessage
  dsimp only
  exact .ite (fun _ => rest s fun _ => ⟨rfl, rfl, rfl, rfl, rfl, rfl⟩) fun _ =>
    .ite (fun _ => (Keeps.takeOffer m s hP).trans (rest _ fun _ => ⟨rfl, rfl, rfl, rfl, rfl, rfl⟩)) fun _ =>
      (Keeps.takeOffer m s hP).trans (rest _ fun _ => ⟨rfl, rfl, rfl, rfl, rfl, rfl⟩)

/-! ### The delivery of a STATUS reply (R11) -/

/-- Whether a session watches for an unplug (R85). -/
def SessionKind.watching : SessionKind → Bool
  | .awaitingAuth | .authorized | .charging | .complete => true
  | .empty | .stopping | .closed => false

/-- The plug state of a reply: it is seen, or an unplug stops the session (R85). -/
def State.replyPlug (n : Conn) (r : ConnReport) (s : State) : State :=
  if (s.sess n).state.watching && r.plugged then s.updSess n fun e => { e with plugSeen := true }
  else if (s.sess n).state.watching && (s.sess n).plugSeen then s.stopCause .unplugged n
  else s

/-- The grace of the plan an entry names. -/
def State.graceOf (s : State) (e : Session) : Nat :=
  match e.plan with
  | some (k, _) => (s.plan k).contents.grace
  | none => 0

/-- The complete state of a reply: between CHARGING and COMPLETE (R87). -/
def State.replyComplete (n : Conn) (r : ConnReport) (s : State) : State :=
  if (s.sess n).state = .charging ∧ r.complete then
    (s.setSess n { s.sess n with state := .complete, grace := s.graceOf (s.sess n) }).pass
  else if (s.sess n).state = .complete ∧ !r.complete ∧ 0 < r.demand then
    (s.setSess n { s.sess n with state := .charging }).pass
  else s

/-- The end test of a STOPPING session (R93). -/
def State.replyEnd (n : Conn) (s : State) : State :=
  if (s.sess n).state = .stopping then
    match (s.seq n).contactor with
    | .opened | .locked | .faulted => s.closeSession n
    | .closing | .verifying | .closed | .opening => s
  else s

theorem State.replySession_eq (n : Conn) (r : ConnReport) (s : State) :
    s.replySession n r = ((s.replyPlug n r).replyComplete n r).replyEnd n := by
  unfold State.replySession State.replyPlug State.replyComplete State.replyEnd State.graceOf SessionKind.watching
  rfl

theorem Keeps.replyPlug {n : Conn} (r : ConnReport) (s : State) (hT : Touches M n) : Keeps M s (s.replyPlug n r) :=
  .ite (fun _ => .updSess s hT.1 id ⟨rfl, rfl, .inl rfl⟩ rfl) fun _ => .ite (fun _ => .stopCause _ s hT) fun _ =>
    .refl s

theorem Keeps.replyComplete {n : Conn} (r : ConnReport) (s : State) (hT : Touches M n) :
    Keeps M s (s.replyComplete n r) := by
  refine .ite (fun h => Keeps.trans (.setSessOpen s hT.1 ?_ ?_ ?_ ?_ ?_ ?_ ?_) (.pass _)) fun _ => .ite (fun h =>
    Keeps.trans (.setSessOpen s hT.1 ?_ ?_ ?_ ?_ ?_ ?_ ?_) (.pass _)) fun _ => .refl s
  case refine_1 | refine_8 => rw [h.1]; rfl
  all_goals rfl

theorem Keeps.replyEnd {n : Conn} (s : State) (hT : Touches M n) : Keeps M s (s.replyEnd n) := by
  refine .ite (fun h => ?_) fun _ => .refl s
  have closed : Keeps M s (s.closeSession n) := .closeSession s hT.1 (by rw [h]; rfl)
  split
  iterate 3 exact closed
  all_goals exact .refl s

theorem Keeps.replySession {n : Conn} (r : ConnReport) (s : State) (hT : Touches M n) :
    Keeps M s (s.replySession n r) := by
  rw [State.replySession_eq]
  exact (Keeps.replyPlug r s hT).trans <| (Keeps.replyComplete r _ hT).trans (.replyEnd _ hT)

theorem Keeps.replyAllocation (p : Ped) (s : State) : Keeps M s (s.replyAllocation p) :=
  .ite (fun _ => .pass s) fun _ => .refl s

theorem Keeps.afterDelivery {p : Ped} (r : StatusReply) (s : State) (hP : Serves M p)
    (hr : (s.ped p).resync = false) : Keeps M s (s.afterDelivery p r) := by
  refine .ite (fun h => .ite (fun _ => ?_) fun _ => ?_) fun _ => .refl s
  · refine .updPed s hP.ped
      ⟨id, fun _ a => ⟨?_, by simp, by simp [hr]⟩, fun x => absurd hP.entry x, fun c => ⟨c, rfl⟩⟩
    rw [a.1, h]; simp
  · exact .updPed s hP.ped
      ⟨id, fun _ a => ⟨a.1, by simp [h], a.2.2⟩, fun x => absurd hP.entry x, fun c => ⟨c, rfl⟩⟩

end Sys2Proof.Machine
end

section
/-! SUPPORT and PROOF. What the Line Controller's operations keep: the delivery of a reply, the loss of a pedestal, the
outcomes of a transaction, the roll call and the starts of the arbiter. -/

namespace Sys2Proof.Machine

variable {M : Set Privilege}

/-! ### The delivery of a STATUS reply (R11) -/

/-- A pedestal with its connectors, and nothing else, may be touched. -/
def atPed (p : Ped) : Set Privilege := {x | x = .ped p ∨ ∃ l, x = .conn (connOf p l)}

theorem atPed_touches (p : Ped) (l : Letter) : Touches (atPed p) (connOf p l) :=
  ⟨.inr ⟨l, rfl⟩, .inl (by rw [pedOf_connOf])⟩

/-- The delivery of a stored reply up to its message. -/
def State.deliverParts (p : Ped) (r : StatusReply) (s : State) : State :=
  let a := connOf p .a
  let b := connOf p .b
  let s := (s.deliverReading a r.a).deliverReading b r.b
  let s := (s.replyContact a r.a).replyContact b r.b
  let s := (s.replySession a r.a).replySession b r.b
  s.replyAllocation p

/-- The offer of a reply's message, when it has one. -/
def State.deliverMessage (p : Ped) (r : StatusReply) (s : State) : State :=
  match r.message with
  | some m => s.offerMessage p m
  | none => s

theorem State.deliver_eq (p : Ped) (r : StatusReply) (s : State) :
    s.deliver p r = (((s.storeReply p r).deliverParts p r).deliverMessage p r).afterDelivery p r := rfl

theorem Keeps.deliverParts {p : Ped} (r : StatusReply) (s : State) (hT : ∀ l, Touches M (connOf p l)) :
    Keeps M s (s.deliverParts p r) :=
  (Keeps.deliverReading _ s (hT .a)).trans <| (Keeps.deliverReading _ _ (hT .b)).trans <|
    (Keeps.replyContact _ _ (hT .a)).trans <| (Keeps.replyContact _ _ (hT .b)).trans <|
    (Keeps.replySession _ _ (hT .a)).trans <| (Keeps.replySession _ _ (hT .b)).trans (.replyAllocation p _)

theorem Keeps.deliverMessage {p : Ped} (r : StatusReply) (s : State) (hP : Serves M p) :
    Keeps M s (s.deliverMessage p r) := by
  unfold State.deliverMessage
  split
  · exact .offerMessage _ s hP
  · exact .refl s

/-- What the operations at a pedestal's connectors leave of its entry. -/
theorem Keeps.stirs {p : Ped} {s t : State} (h : Keeps (atPed p) s t) : (s.ped p).Stirred (t.ped p) :=
  h.line.stirred p (by simp [atPed])

theorem Pedestal.Stirred.resync {e e' : Pedestal} (h : e.Stirred e') : e'.resync = e.resync := by rw [h.1]

/-- The handing over of an offer changes of its pedestal's entry what the operations at a connector may change, besides
the disposition and the last number. -/
theorem Keeps.takeOfferStirs {p : Ped} (m : Message) (s : State) :
    (s.ped p).Stirred ((s.takeOffer p m).1.ped p) := by
  have hT := atPed_touches p
  have handed (t : State) : Keeps (atPed p) t (t.handLocal p m) := by
    unfold State.handLocal
    split
    · next x hx =>
      cases x with
      | token l t' => exact .decideToken t' t (hT l) fun _ => tokenPayload_fits (localMessage_token hx).2.2
      | stopRequest l => exact .stopCause _ t (hT l)
      | faultReport l code =>
        cases l with
        | some l => exact .enterFaulted _ t (hT l)
        | none => exact (Keeps.enterFaulted _ t (hT .a)).trans (.enterFaulted _ _ (hT .b))
      | serviceSwitch on => exact (Keeps.switchLock on t (hT .a)).trans (.switchLock on _ (hT .b))
    · exact .refl t
  have hold : (s.holdOffer p).ped p = s.ped p := by simp [State.holdOffer, State.ped]
  unfold State.takeOffer
  split
  · exact (handed s).stirs
  · split
    · exact .refl _
    · rw [hold]; exact .refl _
  · split
    · exact (handed (s.appendPassUp p m)).stirs
    · rw [hold]; exact .refl _
  · exact .refl _

theorem State.deliverMessage_resync (p : Ped) (r : StatusReply) (s : State) :
    ((s.deliverMessage p r).ped p).resync = (s.ped p).resync := by
  unfold State.deliverMessage
  split
  · next m _ =>
    unfold State.offerMessage
    dsimp only
    split
    · rw [State.updPed_ped_same]
    · split <;> rw [State.updPed_ped_same] <;> exact (Keeps.takeOfferStirs m s).resync
  · rfl

theorem Keeps.deliver {p : Ped} (r : StatusReply) (s : State) (hP : Serves M p) (hr : (s.ped p).resync = false) :
    Keeps M s (s.deliver p r) := by
  have stored : Keeps M s (s.storeReply p r) := .updPedRest s hP fun _ => ⟨rfl, rfl, rfl, rfl, rfl, rfl⟩
  have parts := Keeps.deliverParts (M := atPed p) r (s.storeReply p r) (atPed_touches p)
  rw [State.deliver_eq]
  refine stored.trans <| (Keeps.deliverParts r _ hP.touches).trans <| (Keeps.deliverMessage r _ hP).trans <|
    .afterDelivery r _ hP ?_
  rw [State.deliverMessage_resync, parts.stirs.resync]
  simpa [State.storeReply] using hr

/-! ### The end of a transaction -/

theorem Keeps.freeLine {x : Txn} (s : State) (hx : s.line.inflight = some x) (ht : x.target ≠ none) :
    Keeps M s (s.setInflight none) :=
  .setInflight s (fun h => by rw [hx] at h; exact h.free ht) (.inr fun _ => rfl)

theorem Keeps.goodReply {p : Ped} {x : Txn} (s : State) (hP : Serves M p) (hx : s.line.inflight = some x)
    (ht : x.target = some p) : Keeps M s (s.goodReply p) :=
  (Keeps.freeLine s hx (by simp [ht])).trans (.updPedRest _ hP fun _ => ⟨rfl, rfl, rfl, rfl, rfl, rfl⟩)

theorem Keeps.statusReceived {p : Ped} {x : Txn} (r : StatusReply) (s : State) (hP : Serves M p)
    (hx : s.line.inflight = some x) (ht : x.target = some p) : Keeps M s (s.statusReceived p r) :=
  (Keeps.goodReply s hP hx ht).trans <| Keeps.trans
    (.updPed _ hP.ped (.of_same rfl rfl rfl rfl rfl (by simp) hP.entry))
    (.deliver r _ hP (by simp))

/-! ### The loss of a pedestal (R10) -/

/-- Every connector and every pedestal may be touched. -/
def everywhere : Set Privilege := {x | (∃ n, x = .conn n) ∨ ∃ p, x = .ped p}

theorem everywhere_touches (n : Conn) : Touches everywhere n := ⟨.inl ⟨n, rfl⟩, .inr ⟨_, rfl⟩⟩

/-- The loss between its two updates of the pedestal's entry: the CLOSE commands reported as NAK, and the
transaction. -/
def State.reportLost (closes : List Conn) (failed : Option TxnKind) (s : State) : State :=
  let s := closes.foldl (fun s n => s.closeNak n 3) s
  match failed with
  | some k => s.reportFailed k
  | none => s

/-- The CLOSE commands a loss reports: the failed transaction's and those of the queue (R10). -/
def closesLost (failed : Option TxnKind) (q : List QueueEntry) : List Conn :=
  (match failed with
    | some k => k.closeOf
    | none => []) ++ closesIn q

theorem State.enterUnreachable_eq (p : Ped) (failed : Option TxnKind) (s : State) :
    s.enterUnreachable p failed =
      ((((s.updPed p fun e => { e with link := .unreachable, resync := false, queue := [] }).reportLost
        (closesLost failed (s.ped p).queue) failed).updPed p fun e =>
          { e with nextPoll := none, disposition := .none }).raise .pedestalLost).pass := rfl

theorem Keeps.reportLost (closes : List Conn) (failed : Option TxnKind) (s : State)
    (hT : ∀ n ∈ closes, Touches M n) : Keeps M s (s.reportLost closes failed) := by
  refine (Keeps.foldl (fun t n => State.closeNak n 3 t) closes (fun t n hn => .closeNak 3 t (hT n hn)) s).trans ?_
  cases failed with
  | none => exact .refl _
  | some k => exact .reportFailed k _

theorem Keeps.enterUnreachable {p : Ped} (failed : Option TxnKind) (s : State)
    (hp : .ped p ∈ M) (he : .entry p ∈ M) (hT : ∀ n ∈ closesLost failed (s.ped p).queue, Touches M n)
    (hl : (s.ped p).link ≠ .unconfigured) : Keeps M s (s.enterUnreachable p failed) := by
  rw [State.enterUnreachable_eq]
  set first : State := s.updPed p fun e => { e with link := .unreachable, resync := false, queue := [] } with hfirst
  set mid := first.reportLost (closesLost failed (s.ped p).queue) failed with hmid
  have sub : M ⊆ insert (.lossAt p) M := Set.subset_insert _ _
  have lost : Keeps M s (mid.updPed p fun e => { e with nextPoll := none, disposition := .none }) := by
    have away := (Keeps.reportLost (M := everywhere) (closesLost failed (s.ped p).queue) failed first
      fun n _ => everywhere_touches n).line.stirred p (by simp [everywhere])
    obtain ⟨same, link⟩ : (first.ped p).Stirred (mid.ped p) := away
    have hfp : first.ped p = { s.ped p with link := .unreachable, resync := false, queue := [] } := by
      rw [hfirst, State.updPed_ped_same]
    rw [hfp] at same link
    have hml : (mid.ped p).link = .unreachable := (by simpa using link : _ ∧ _).1
    refine Keeps.giveBack (x := .lossAt p) (Keeps.trans (t := first) ?begin_ <| Keeps.trans (t := mid)
      (.reportLost _ _ _ fun n hn => (hT n hn).mono sub) ?end_) trivial (fun _ e => by cases e) (fun q e a => ?sound)
      (fun e => by cases e) fun e => by cases e
    case begin_ =>
      exact .updPed s (sub hp) ⟨fun _ => by simp, fun x => absurd (Set.mem_insert _ _) x,
        fun x => absurd (sub he) x, fun c => ⟨c, rfl⟩⟩
    case end_ =>
      exact .updPed mid (sub hp) ⟨id, fun x => absurd (Set.mem_insert _ _) x, fun x => absurd (sub he) x,
        fun c => ⟨c, rfl⟩⟩
    case sound =>
      cases e
      rw [State.updPed_ped_same]
      refine ⟨?_, by simp [hml], ?_⟩
      · have hc : (mid.ped p).configured = (s.ped p).configured := by rw [same]
        show (mid.ped p).configured = false ↔ (mid.ped p).link = .unconfigured
        rw [hc, hml, a.1]
        simp [hl]
      · show (mid.ped p).resync = true → _
        rw [same]
        simp
  exact lost.trans <| (Keeps.raise _ _).trans (.pass _)

theorem Keeps.lose {p : Ped} (failed : Option TxnKind) (s : State) (hp : .ped p ∈ M) (he : .entry p ∈ M)
    (hT : ∀ n ∈ closesLost failed (s.ped p).queue, Touches M n) : Keeps M s (s.lose p failed) :=
  .ite (fun _ => .refl s) fun h => .enterUnreachable failed s hp he hT h

/-! ### Failed attempts (R9) -/

/-- A kind that is sent again is of its own sort: a decrease again for a decrease, and any other as it is. -/
theorem State.resendKind_cases (s : State) (k : TxnKind) :
    s.resendKind k = k ∨ (∃ n v h, k = .decrease n v h) ∧ ∃ n v h, s.resendKind k = .decrease n v h := by
  cases k with
  | decrease n v h => exact .inr ⟨⟨n, v, h, rfl⟩, ⟨_, _, _, rfl⟩⟩
  | poll | openSlot | increase | renewal | queued | latch | rollCall => exact .inl rfl

theorem Keeps.resend {x : Txn} (s : State) (hx : s.line.inflight = some x) (ht : x.target ≠ none) :
    Keeps M s (s.resend x) := by
  refine .setInflight s (fun h => ?_) (.inr (by simp [hx]))
  rw [hx] at h
  refine FlightSound.replace (x := x) rfl ?_ h
  rcases s.resendKind_cases x.kind with e | ⟨-, n, v, w, e⟩
  · exact .inl e
  · exact .inr ⟨ht, by simp [e]⟩

/-- Everything that a failed attempt with pedestal p may touch. -/
structure Fails (M : Set Privilege) (p : Ped) : Prop where
  serves : Serves M p
  touches : ∀ n, Touches M n

theorem Keeps.attemptFailed {p : Ped} {x : Txn} (s : State) (hF : Fails M p) (hx : s.line.inflight = some x)
    (ht : x.target = some p) : Keeps M s (s.attemptFailed p x) := by
  have first : Keeps M s (s.updPed p fun e => { e with failCount := failCountAfter s.clock.ms p e.failCount }) :=
    .updPedRest s hF.serves fun _ => ⟨rfl, rfl, rfl, rfl, rfl, rfl⟩
  refine first.trans ?_
  generalize hu : (s.updPed p fun e => { e with failCount := failCountAfter s.clock.ms p e.failCount }) = u
  have hux : u.line.inflight = some x := by rw [← hu]; exact hx
  unfold State.attemptFailed
  dsimp only
  rw [hu]
  refine .ite (fun _ => .resend u hux (by simp [ht])) fun _ => (Keeps.freeLine u hux (by simp [ht])).trans ?_
  exact .lose _ _ hF.serves.ped hF.serves.entry fun n _ => hF.touches n

theorem Keeps.checkFailed {p : Ped} (s : State) (hP : Serves M p) : Keeps M s (s.checkFailed p) := by
  have first : Keeps M s (s.updPed p fun e => { e with checkFails := satInc e.checkFails }) :=
    .updPedRest s hP fun _ => ⟨rfl, rfl, rfl, rfl, rfl, rfl⟩
  exact first.trans (.raise _ _)

/-! ### ACK and NAK (R13) -/

theorem Keeps.queuedAcked {p : Ped} (o : Originator) (c : QueueCmd) (s : State) (hF : Fails M p) :
    Keeps M s (s.queuedAcked p o c) := by
  cases c with
  | close n => exact .closeAck s (hF.touches n)
  | display | passDown => exact .ite (fun _ => .updCounts p _ s) fun _ => .refl s
  | clear =>
    have forgot : Keeps M s (s.updPed p fun e => { e with lastMessage := none }) :=
      .updPedRest s hF.serves fun _ => ⟨rfl, rfl, rfl, rfl, rfl, rfl⟩
    exact forgot

theorem Keeps.queuedRefused {p : Ped} (o : Originator) (c : QueueCmd) (s : State) (hF : Fails M p) :
    Keeps M s (s.queuedRefused p o c) := by
  cases c with
  | close n => exact .closeNak 3 s (hF.touches n)
  | display | passDown => exact .ite (fun _ => .updCounts p _ s) fun _ => .refl s
  | clear => exact .refl s

theorem Keeps.ackReceived {p : Ped} {x : Txn} (s : State) (hF : Fails M p) (hx : s.line.inflight = some x)
    (ht : x.target = some p) : Keeps M s (s.ackReceived p x) := by
  have ended : Keeps M s (s.goodReply p) := .goodReply s hF.serves hx ht
  unfold State.ackReceived
  dsimp only
  split
  · next n _ =>
    exact ended.trans <| Keeps.trans (.ite (fun _ => .refl _) fun _ => .updSlots _ (.inl (hF.touches n).1))
      (.openAcked _ (hF.touches n))
  · next n v h _ =>
    exact ended.trans <| Keeps.trans (.ite (fun _ => .clearDecSlot n _) fun _ => .refl _) (.decreaseAcked n v h _ _)
  · exact ended.trans (.increaseAcked _ _ _ _ _)
  · exact ended.trans (.renewalAcked _ _ _ _ _)
  · exact ended.trans (.queuedAcked _ _ _ hF)
  all_goals exact ended

theorem Keeps.nakReceived {p : Ped} {x : Txn} (s : State) (hF : Fails M p) (hx : s.line.inflight = some x)
    (ht : x.target = some p) : Keeps M s (s.nakReceived p x) := by
  have ended : Keeps M s (s.goodReply p) := .goodReply s hF.serves hx ht
  unfold State.nakReceived
  split
  iterate 2 exact .attemptFailed s hF hx ht
  · exact ended.trans (.increaseRefused _ _)
  · exact ended.trans (.renewalRefused _ _)
  · exact ended.trans (.queuedRefused _ _ _ hF)
  all_goals exact .refl s

/-! ### Reception (R9, R22) -/

theorem Keeps.receive (frame : Frame) (s : State) (hF : ∀ p, Fails M p) : Keeps M s (s.receive frame) := by
  unfold State.receive
  split
  · exact .refl s
  · next x hx =>
    split
    · exact .refl s
    · next p ht =>
      refine .ite (fun _ => .freeLine s hx (by simp [ht])) fun _ => ?_
      split
      · next bad _ =>
        have checked : Keeps M s (if bad then s.checkFailed p else s) :=
          .ite (fun _ => .checkFailed s (hF p).serves) fun _ => .refl s
        refine checked.trans (.attemptFailed _ (hF p) ?_ ht)
        split
        · simpa [State.checkFailed] using hx
        · exact hx
      · exact .statusReceived _ s (hF p).serves hx ht
      · exact .ackReceived s (hF p) hx ht
      · exact .nakReceived s (hF p) hx ht

theorem Keeps.replyDeadline (s : State) (hF : ∀ p, Fails M p) : Keeps M s s.replyDeadline := by
  unfold State.replyDeadline
  split
  · exact .refl s
  · next x hx =>
    split
    · exact .refl s
    · next p ht =>
      have passed : Keeps M s (s.advanceTo x.deadline) := .advanceTo _ s
      have still : (s.advanceTo x.deadline).line.inflight = some x := by simpa using hx
      exact .ite (fun _ => passed.trans (.freeLine _ still (by simp [ht]))) fun _ =>
        passed.trans (.attemptFailed _ (hF p) still ht)

/-! ### Roll call (R6, R7) -/

theorem Keeps.found {p : Ped} (s : State) (hP : Serves M p) (hl : (s.ped p).link = .unreachable) :
    Keeps M s (s.found p) := by
  have first : Keeps M s (s.updPed p fun e => { e with
      link := .active, nextPoll := some s.clock.ms, failCount := 0, absentCount := 0, resync := true }) := by
    have sound (a : (s.ped p).Sound) : (s.ped p).configured = false ↔ LinkState.active = .unconfigured := by
      simp [a.1, hl]
    exact .updPed s hP.ped ⟨id, fun _ a => ⟨sound a, by simp, by simp⟩, fun x => absurd hP.entry x, fun c => ⟨c, rfl⟩⟩
  unfold State.found
  exact (first.trans (Keeps.raise .pedestalFound _)).trans (.pass _)

theorem Keeps.slotPresent {p : Ped} (attention : Bool) (s : State) (hP : Serves M p) :
    Keeps M s (s.slotPresent p attention) := by
  have heard : Keeps M s (s.updPed p fun e => { e with absentCount := 0 }) :=
    .updPedRest s hP fun _ => ⟨rfl, rfl, rfl, rfl, rfl, rfl⟩
  have idle (t : State) (hl : (t.ped p).link = .probing ∨ (t.ped p).link = .quiet) : Keeps M t
      (if attention then t.updPed p fun e => { e with link := .active, nextPoll := some t.clock.ms }
        else t.updPed p fun e => { e with link := .quiet }) := by
    refine .ite (fun _ => .updPed t hP.ped ⟨id, fun _ a => ⟨?_, by simp, by simp⟩, fun x => absurd hP.entry x,
      fun c => ⟨c, rfl⟩⟩) fun _ => .updPed t hP.ped ⟨id, fun _ a => ⟨?_, ?_, fun h => ?_⟩, fun x => absurd hP.entry x,
      fun c => ⟨c, rfl⟩⟩
    · rw [a.1]; rcases hl with h | h <;> simp [h]
    · rw [a.1]; rcases hl with h | h <;> simp [h]
    · rw [a.2.1]; rcases hl with h | h <;> simp [h]
    · have := a.2.2 h; rcases hl with h | h <;> simp [h] at this
  unfold State.slotPresent
  dsimp only
  split
  · exact heard
  · next h => exact heard.trans (idle _ (.inl h))
  · next h => exact heard.trans (idle _ (.inr h))
  · exact .ite (fun _ => heard.trans <| .updPed _ hP.ped (.of_same rfl rfl rfl rfl (by simp) id hP.entry)) fun _ =>
      heard
  · next h => exact heard.trans (.found _ hP h)

theorem Keeps.slotAbsent {p : Ped} (s : State) (hF : Fails M p) : Keeps M s (s.slotAbsent p) := by
  have absent : Keeps M s (s.updPed p fun e => { e with absentCount := min (e.absentCount + 1) 3 }) :=
    .updPedRest s hF.serves fun _ => ⟨rfl, rfl, rfl, rfl, rfl, rfl⟩
  have lost := absent.trans (.lose none _ hF.serves.ped hF.serves.entry fun n _ => hF.touches n)
  unfold State.slotAbsent
  split
  iterate 2 exact .ite (fun _ => lost) fun _ => absent
  all_goals exact .refl s

theorem Keeps.slotAnswer {p : Ped} (a : SlotAnswer) (s : State) (hF : Fails M p) : Keeps M s (s.slotAnswer p a) := by
  cases a with
  | quiet => exact .slotPresent _ s hF.serves
  | attention => exact .slotPresent _ s hF.serves
  | absent bad => exact Keeps.trans (.ite (fun _ => .checkFailed s hF.serves) fun _ => .refl s) (.slotAbsent _ hF)

/-- A slot of the window up to the passing to the next one (R6). -/
def State.endSlotAnswer (w : RollWindow) (bytes : Frame) (s : State) : State :=
  let s := s.advanceTo (w.start + 2 * (w.slot + 1))
  match s.slotHolder w.slot with
  | some p => s.slotAnswer p (classifySlot bytes)
  | none => s

/-- The window after one of its slots has ended (R6). -/
def State.nextSlot (w : RollWindow) (s : State) : State :=
  if w.last ≤ w.slot then { s with line := { s.line with window := none, inflight := none } }
  else { s with line := { s.line with window := some { w with slot := w.slot + 1 } } }

theorem State.endSlot_eq {s : State} {w : RollWindow} (bytes : Frame) (h : s.line.window = some w) :
    s.endSlot bytes = (s.endSlotAnswer w bytes).nextSlot w := by
  unfold State.endSlot
  rw [h]
  rfl

theorem Keeps.endSlotAnswer (w : RollWindow) (bytes : Frame) (s : State) (hF : ∀ p, Fails M p) :
    Keeps M s (s.endSlotAnswer w bytes) := by
  have passed : Keeps M s (s.advanceTo (w.start + 2 * (w.slot + 1))) := .advanceTo _ s
  unfold State.endSlotAnswer
  dsimp only
  split
  · exact passed.trans (.slotAnswer _ _ (hF _))
  · exact passed

/-- Everything but the arbiter's own may be touched. -/
def anyPedestal : Set Privilege := {x | (∃ n, x = .conn n) ∨ ∃ p, x = .ped p ∨ x = .entry p}

theorem anyPedestal_fails (p : Ped) : Fails anyPedestal p :=
  ⟨⟨.inr ⟨p, .inl rfl⟩, .inr ⟨p, .inr rfl⟩, fun _ => .inl ⟨_, rfl⟩⟩, fun _ => ⟨.inl ⟨_, rfl⟩, .inr ⟨_, .inl rfl⟩⟩⟩

theorem Keeps.endSlot (bytes : Frame) (s : State) (ha : .arbiter ∈ M) (hF : ∀ p, Fails M p) :
    Keeps M s (s.endSlot bytes) := by
  cases hw : s.line.window with
  | none => simp only [State.endSlot, hw]; exact .refl s
  | some w =>
    rw [State.endSlot_eq bytes hw]
    have answered := Keeps.endSlotAnswer (M := M) w bytes s hF
    have window : (s.endSlotAnswer w bytes).line.window = some w := by
      rw [((Keeps.endSlotAnswer w bytes s anyPedestal_fails).line.rest (by simp [anyPedestal])).1, hw]
    refine answered.trans (.ite (fun _ => .lineTimers _ ha rfl rfl id fun _ => ?_) fun _ =>
      .lineTimers _ ha rfl rfl id fun h => ?_)
    · exact ⟨fun _ e => absurd e (by simp), fun _ e => absurd e (by simp)⟩
    · exact ⟨h.1, fun _ _ => h.2 w window⟩

theorem Keeps.openWindow {x : Txn} (s : State) (ha : .arbiter ∈ M) (hx : s.line.inflight = some x)
    (hk : x.kind = .rollCall) (hw : s.line.window = none) : Keeps M s s.openWindow := by
  unfold State.openWindow
  split
  · refine .setInflight s (fun _ => ⟨fun _ e => absurd e (by simp), fun v e => ?_⟩) (.inl ha)
    rw [hw] at e
    cases e
  · exact .lineTimers s ha rfl rfl id fun h => ⟨h.1, fun _ _ => ⟨x, hx, h.1 x hx (.inl hk), hk⟩⟩

/-! ### The arbiter's starts (R8, R14) -/

theorem State.nextWork_free {s : State} {w : Work} (h : s.nextWork = some w) :
    s.line.inflight = none ∧ s.line.window = none := by
  unfold State.nextWork at h
  split at h
  · next hf => simpa [State.lineFree] using hf
  · cases h

/-- A transaction starts on a line without a window; a broadcast has no target. -/
theorem Keeps.startTxn {target : Option Ped} {k : TxnKind} (o : Originator) (s : State) (ha : .arbiter ∈ M)
    (hw : s.line.window = none) (hk : target ≠ none → ¬ (k = .rollCall ∨ ∃ e, k = .latch e)) :
    Keeps M s (s.startTxn target k o) := by
  refine .setInflight s (fun _ => ⟨fun x e hb => ?_, fun v e => ?_⟩) (.inl ha)
  · cases e
    by_contra hn
    exact hk hn hb
  · rw [hw] at e
    cases e

theorem Keeps.startHead {p : Ped} (e : QueueEntry) (s : State) (ha : .arbiter ∈ M) (hp : .ped p ∈ M)
    (hw : s.line.window = none) : Keeps M s (s.startHead p e) := by
  have popped : Keeps M s (s.updPed p fun x => { x with queue := x.queue.tail }) :=
    .updPed s hp (.of_queue fun h => by simp; omega)
  have served (t : State) : Keeps M t (t.served3 p) := .lineTimers t ha rfl rfl id id
  exact popped.trans ((served _).trans (.startTxn _ _ ha hw (by simp)))

end Sys2Proof.Machine
end

section
/-! SUPPORT and PROOF. What the steps of the arbiter, of the uplink's transmitter and of the moments of time keep. -/

namespace Sys2Proof.Machine

variable {M : Set Privilege}

/-- The outcome of a command keeps everything: a fault and a refusal leave no state. -/
def KeepsResult (M : Set Privilege) (s : State) (r : Result) : Prop := ∀ t, r = .next t → Keeps M s t

theorem KeepsResult.next {s t : State} (h : Keeps M s t) : KeepsResult M s (.next t) := by
  rintro _ ⟨⟩
  exact h

theorem KeepsResult.same (s : State) : KeepsResult M s (.next s) := .next (.refl s)

/-! ### The arbiter (R8, R14) -/

theorem keeps_sendLatch (s : State) (ha : .arbiter ∈ M) : KeepsResult M s (execSendLatch s) := by
  unfold execSendLatch
  split
  · next h =>
    have cleared : Keeps M s { s with line := { s.line with pendingLatch := none } } := .lineTimers s ha rfl rfl id id
    exact .next (cleared.trans (.startTxn _ _ ha (State.nextWork_free h).2 (by simp)))
  · exact .same s

theorem keeps_sendRollCall (s : State) (ha : .arbiter ∈ M) : KeepsResult M s (execSendRollCall s) := by
  unfold execSendRollCall
  split
  · next h =>
    have timed : Keeps M s { s with line := { s.line with rollTimer := some s.clock.ms } } :=
      .lineTimers s ha rfl rfl id id
    exact .next (timed.trans (.startTxn _ _ ha (State.nextWork_free h).2 (by simp)))
  · exact .same s

theorem keeps_sendPoll (s : State) (ha : .arbiter ∈ M) : KeepsResult M s (execSendPoll s) := by
  have poll {p : Ped} (t : State) (h : t.line.window = none) :
      Keeps M t (t.startTxn (some p) .poll .lineController) := .startTxn _ t ha h (by simp)
  unfold execSendPoll
  split
  · next h => exact .next (poll s (State.nextWork_free h).2)
  · next p h =>
    have served : Keeps M s (s.served3 p) := .lineTimers s ha rfl rfl id id
    exact .next (served.trans (poll _ (State.nextWork_free h).2))
  · next p h =>
    have served : Keeps M s (s.served5 p) := .lineTimers s ha rfl rfl id id
    exact .next (served.trans (poll _ (State.nextWork_free h).2))
  · exact .same s

theorem keeps_sendOpen (s : State) (ha : .arbiter ∈ M) : KeepsResult M s (execSendOpen s) := by
  unfold execSendOpen
  split
  · next h => exact .next (.startTxn _ s ha (State.nextWork_free h).2 (by simp))
  · exact .same s

theorem keeps_sendDecrease (s : State) (ha : .arbiter ∈ M) : KeepsResult M s (execSendDecrease s) := by
  unfold execSendDecrease
  split
  · next h => exact .next (.startTxn _ s ha (State.nextWork_free h).2 (by simp))
  · exact .same s

section
variable (s : State) (ha : .arbiter ∈ M) (hp : ∀ p, .ped p ∈ M)
include ha hp

theorem keeps_head {p : Ped} {e : QueueEntry} (h : s.nextWork = some (.head p e)) :
    KeepsResult M s (.next (s.startHead p e)) :=
  .next (.startHead e s ha (hp p) (State.nextWork_free h).2)

theorem keeps_sendClose : KeepsResult M s (execSendClose s) := by
  unfold execSendClose
  split
  · next h => exact keeps_head s ha hp h
  · exact .same s

theorem keeps_sendDisplay : KeepsResult M s (execSendDisplay s) := by
  unfold execSendDisplay
  split
  · next h => exact keeps_head s ha hp h
  · exact .same s

theorem keeps_sendPassDown : KeepsResult M s (execSendPassDown s) := by
  unfold execSendPassDown
  split
  · next h => exact keeps_head s ha hp h
  · exact .same s

theorem keeps_sendClear : KeepsResult M s (execSendClear s) := by
  unfold execSendClear
  split
  · next h => exact keeps_head s ha hp h
  · exact .same s

end

theorem keeps_sendSetpoint (s : State) (ha : .arbiter ∈ M) : KeepsResult M s (execSendSetpoint s) := by
  unfold execSendSetpoint
  split
  · next w h =>
    refine .next ((Keeps.updSetpoint w.conn _ s).trans (.startTxn _ _ ha (State.nextWork_free h).2 fun _ => ?_))
    unfold State.setpointTxn
    split <;> simp
  · exact .same s

theorem keeps_broadcastSent (s : State) (ha : .arbiter ∈ M) : KeepsResult M s (execBroadcastSent s) := by
  unfold execBroadcastSent
  split
  · next x hx =>
    split
    · next e w hk =>
      refine .next (.setInflight s (fun h => ⟨fun _ e => absurd e (by simp), fun v hv => ?_⟩) (.inl ha))
      obtain ⟨y, hy, -, hky⟩ := h.2 v hv
      rw [hx] at hy
      cases hy
      rw [hk] at hky
      cases hky
    · next hk hw => exact .next (.openWindow s ha hx hk hw)
    · exact .same s
  · exact .same s

/-! ### The transmitter (R174) -/

/-- The transmitter takes or ends a frame; at its start a notice ends, or the oldest response leaves. -/
theorem Keeps.transmit {f : Option OutFrame} (s : State) :
    Keeps M s (s.updUplink fun u => { u with sending := f }) :=
  .of_uplink { UplinkKept.refl s.uplink with }

theorem Keeps.noticeTaken (s : State) (he : .events ∈ M) :
    Keeps M s (s.updUplink fun u => { u with noticePending := false }) :=
  .of_uplink
    { UplinkKept.refl (M := M) s.uplink with
      notice := fun _ _ h => absurd h (by simp)
      events := fun x => absurd he x }

theorem Keeps.responseTaken (s : State) (hp : .port ∈ M) :
    Keeps M s (s.updUplink fun u => { u with responses := u.responses.tail }) :=
  .of_uplink
    { UplinkKept.refl s.uplink with
      responses := fun h => by simp; omega
      port := fun x => absurd hp x }

theorem keeps_noticeAttention (s : State) (he : .events ∈ M) : KeepsResult M s (execNoticeAttention s) := by
  unfold execNoticeAttention
  split
  · exact .next ((Keeps.transmit s).trans (.noticeTaken _ he))
  · exact .same s

theorem keeps_responseStart (s : State) (hp : .port ∈ M) : KeepsResult M s (execResponseStart s) := by
  unfold execResponseStart
  split
  · exact .next ((Keeps.transmit s).trans (.responseTaken _ hp))
  · exact .same s

theorem keeps_authQuery (s : State) : KeepsResult M s (execAuthQuery s) := by
  unfold execAuthQuery
  split
  · exact .next (.transmit s)
  · exact .same s

theorem Keeps.markSent (h : HeldEntry) (s : State) : Keeps M s (s.markSent h) := by
  have same : (s.auth.held.map fun x => if x.conn == h.conn && x.tag == h.tag then { x with sent := true } else x).map
      (fun x => (x.conn, x.token)) = s.auth.held.map fun x => (x.conn, x.token) := by
    rw [List.map_map]
    refine List.map_congr_left fun x _ => ?_
    simp only [Function.comp]
    split <;> rfl
  exact .heldShrinks s (same ▸ List.Sublist.refl _)

theorem keeps_authQuerySent (s : State) : KeepsResult M s (execAuthQuerySent s) := by
  unfold execAuthQuerySent
  split
  · exact .next ((Keeps.transmit s).trans (.markSent _ _))
  · exact .same s

theorem keeps_passUp (s : State) : KeepsResult M s (execPassUp s) := by
  unfold execPassUp
  split
  · exact .next (.transmit s)
  · exact .same s

theorem Keeps.dropPassUp (s : State) : Keeps M s s.dropPassUp := .of_classifier fun h => by simp; omega

theorem keeps_passUpSent (s : State) : KeepsResult M s (execPassUpSent s) := by
  unfold execPassUpSent
  split
  · exact .next (.ite (fun _ => (Keeps.transmit s).trans (.dropPassUp _)) fun _ => .transmit s)
  · exact .same s

theorem keeps_uplinkFrameSent (s : State) : KeepsResult M s (execUplinkFrameSent s) := by
  unfold execUplinkFrameSent
  split
  · exact .next (.transmit s)
  · exact .next (.transmit s)
  · exact .same s

/-! ### The band clock (R113 to R116) -/

theorem Keeps.nextEpoch (s : State) (ha : .arbiter ∈ M) (he : .epoch ∈ M) : Keeps M s s.nextEpoch := by
  have advanced : Keeps M s { s with clock :=
      { s.clock with
        epoch := s.clock.epoch + 1
        ring := tset s.clock.ring (ringPlace (s.clock.epoch + 1)) s.clock.band } } :=
    .of_clock ⟨id, fun x => absurd he x⟩
  exact advanced.trans (.requestLatch _ _ ha)

theorem Keeps.takeBand (b : Band) (s : State) (ha : .arbiter ∈ M) (he : .epoch ∈ M) : Keeps M s (s.takeBand b) := by
  have banded : Keeps M s { s with clock := { s.clock with band := b } } := .of_clock ⟨id, fun x => absurd he x⟩
  exact .ite (fun _ => .refl s) fun _ => (banded.trans (.nextEpoch _ ha he)).trans (.raise _ _)

theorem Keeps.testDueMinute (s : State) (ha : .arbiter ∈ M) (he : .epoch ∈ M) : Keeps M s s.testDueMinute := by
  unfold State.testDueMinute
  split
  · next k _ _ =>
    have counted : Keeps M s { s with clock := { s.clock with minutesDue := k } } :=
      .of_clock ⟨id, fun _ => ⟨rfl, rfl, rfl⟩⟩
    exact counted.trans (.takeBand _ _ ha he)
  · exact .refl s
  · exact .refl s

theorem Keeps.testDueMinutes (k : Nat) (s : State) (ha : .arbiter ∈ M) (he : .epoch ∈ M) :
    Keeps M s (s.testDueMinutes k) := by
  induction k generalizing s with
  | zero => exact .refl s
  | succ k ih => exact (Keeps.testDueMinute s ha he).trans (ih _)

/-! ### Moments (R108) -/

theorem State.sess_congr {s t : State} (h : t.sessions = s.sessions) (n : Conn) : t.sess n = s.sess n := by
  unfold State.sess
  rw [h]

theorem keeps_rollCallDue (s : State) : KeepsResult M s (execRollCallDue s) := by
  unfold execRollCallDue
  split
  · exact .next (.advanceTo _ s)
  · exact .same s

theorem keeps_pollDue (p : Ped) (s : State) : KeepsResult M s (execPollDue p s) := by
  unfold execPollDue
  split
  · exact .next (.advanceTo _ s)
  · exact .same s

theorem keeps_pollAged (p : Ped) (s : State) : KeepsResult M s (execPollAged p s) := by
  unfold execPollAged
  split
  · exact .next (.advanceTo _ s)
  · exact .same s

theorem keeps_settleDeadline (n : Conn) (s : State) : KeepsResult M s (execSettleDeadline n s) := by
  unfold execSettleDeadline
  split
  · exact .next (.advanceTo _ s)
  · exact .same s

theorem keeps_renewalDue (n : Conn) (s : State) : KeepsResult M s (execRenewalDue n s) := by
  unfold execRenewalDue
  split
  · exact .next (.advanceToSec _ s)
  · exact .same s

theorem keeps_queryDeadline (n : Conn) (s : State) (hT : Touches M n) (hq : .queries ∉ M → s.HeldSound)
    (hx : .tokenForm ∉ M → s.TokensFit) : KeepsResult M s (execQueryDeadline n s) := by
  unfold execQueryDeadline
  split
  · next h hh =>
    obtain ⟨mem, conn⟩ := State.heldOf_mem hh
    refine .next ((Keeps.trans (.advanceToSec h.deadline s) <| (Keeps.dropHeld n _).trans (.raise _ _)).trans
      (.offlineRule _ _ _ hT (fun x => .inr ⟨?_, ?_⟩) fun x => (hx x).2.1 h mem))
    · have waits := (hq x).2 h mem
      rw [conn] at waits
      have kept : (((s.advanceToSec h.deadline).dropHeld n).raise .authTimeout).sessions = s.sessions := by simp
      exact (congrArg Session.state (State.sess_congr kept n)).trans waits
    · simpa using dropHeld_held n (s.advanceToSec h.deadline)
  · exact .same s

theorem keeps_readyDeadline (n : Conn) (s : State) (hT : Touches M n) : KeepsResult M s (execReadyDeadline n s) := by
  unfold execReadyDeadline
  split
  · exact .next ((Keeps.advanceToSec _ s).trans (.stopCause _ _ hT))
  · exact .same s

theorem keeps_maxDuration (n : Conn) (s : State) (hT : Touches M n) : KeepsResult M s (execMaxDuration n s) := by
  unfold execMaxDuration
  split
  · exact .next ((Keeps.advanceToSec _ s).trans (.stopCause _ _ hT))
  · exact .same s

theorem keeps_stopDeadline (n : Conn) (s : State) (hT : Touches M n) : KeepsResult M s (execStopDeadline n s) := by
  unfold execStopDeadline
  split
  · next d hk _ =>
    have flagged : Keeps M (s.advanceToSec d)
        ((s.advanceToSec d).updSess n fun e => { e with flags := addFlag .linkLost e.flags }) :=
      .updSess _ hT.1 id ⟨rfl, rfl, .inl rfl⟩ rfl
    refine .next (((Keeps.advanceToSec d s).trans flagged).trans (.closeSession _ hT.1 ?_))
    rw [State.updSess_sess, if_pos rfl, State.sess_congr (State.advanceToSec_sessions d s) n]
    simp [hk, SessionKind.metered]
  · exact .same s

theorem keeps_minuteTick (s : State) (hT : ∀ n, Touches M n) : KeepsResult M s (execMinuteTick s) := by
  have counted (k : Nat) (t : State) : Keeps M t { t with clock := { t.clock with ticksTaken := k } } :=
    .of_clock ⟨id, fun _ => ⟨rfl, rfl, rfl⟩⟩
  exact .next (((Keeps.advanceToSec _ s).trans (counted _ _)).trans
    (.foldl _ _ (fun t n _ => .idleMinute t (hT n)) _))

theorem keeps_wallClockMinute (s : State) (ha : .arbiter ∈ M) (he : .epoch ∈ M) :
    KeepsResult M s (execWallClockMinute s) := by
  unfold execWallClockMinute
  split
  · exact .same s
  · exact .next (.ite (fun _ => .testDueMinute s ha he) fun _ => (Keeps.advanceToSec _ s).trans
      (.testDueMinute _ ha he))

theorem keeps_holdExpiry (n : Conn) (s : State) : KeepsResult M s (execHoldExpiry n s) := by
  unfold execHoldExpiry
  split
  · exact .next ((Keeps.advanceToSec _ s).trans (.fallBack _ _))
  · exact .same s

theorem keeps_curtailExpiry (s : State) : KeepsResult M s (execCurtailExpiry s) := by
  unfold execCurtailExpiry
  split
  · next c _ =>
    have ended : Keeps M (s.advanceToSec c.deadline)
        { s.advanceToSec c.deadline with alloc := { (s.advanceToSec c.deadline).alloc with curtailment := none } } :=
      .of_alloc id
    exact .next ((((Keeps.advanceToSec _ s).trans ended).trans (Keeps.raise .curtailExpired _)).trans (.pass _))
  · exact .same s

theorem keeps_silenceDeadline (s : State) (hp : .port ∈ M) : KeepsResult M s (execSilenceDeadline s) := by
  unfold execSilenceDeadline
  split
  · exact .next ((Keeps.advanceToSec _ s).trans
      (.of_uplink { UplinkKept.refl (s.advanceToSec _).uplink with port := fun x => absurd hp x }))
  · exact .same s

end Sys2Proof.Machine
end

section
/-! SUPPORT and PROOF. What the owners of the requests keep, in the order of the catalogue (10.6). -/

namespace Sys2Proof.Machine

variable {M : Set Privilege}

/-! ### Operands -/

theorem num_append_singleton (l : Frame) (b : Byte) : num (l ++ [b]) = num l * 256 + b.toNat := by
  simp [num]

/-- A run of bytes holds a number below 256 to its length. -/
theorem num_lt (l : Frame) : num l < 256 ^ l.length := by
  induction l using List.reverseRecOn with
  | nil => simp [num]
  | append_singleton l b ih =>
    rw [num_append_singleton, List.length_append, List.length_singleton, Nat.pow_succ]
    have := b.isLt
    omega

theorem num_two_le (b1 b0 : Byte) : num [b1, b0] ≤ 65535 := by
  have := num_lt [b1, b0]
  simp only [List.length_cons, List.length_nil] at this
  omega

theorem num_four_le (b3 b2 b1 b0 : Byte) : num [b3, b2, b1, b0] ≤ 4294967295 := by
  have := num_lt [b3, b2, b1, b0]
  simp only [List.length_cons, List.length_nil] at this
  omega

theorem clamp_inRange {lo hi : Nat} (x : Nat) (h : lo ≤ hi) : lo ≤ clamp lo hi x ∧ clamp lo hi x ≤ hi := by
  rw [clamp_eq_max_min lo hi x h]
  omega

section
variable {s : State}

theorem keeps_noOperands (payload : Frame) {f : State → State × Reply} (h : Keeps M s (f s).1) :
    Keeps M s (noOperands payload f s).1 := by
  unfold noOperands
  split
  · exact h
  · exact .refl s

theorem keeps_connOperand (payload : Frame) {f : Conn → State → State × Reply} (h : ∀ n, Keeps M s (f n s).1) :
    Keeps M s (connOperand payload f s).1 := by
  unfold connOperand
  split
  · split
    · exact h _
    · exact .refl s
  · exact .refl s

theorem keeps_pedOperand (payload : Frame) {f : Ped → State → State × Reply} (h : ∀ p, Keeps M s (f p s).1) :
    Keeps M s (pedOperand payload f s).1 := by
  unfold pedOperand
  split
  · split
    · exact h _
    · exact .refl s
  · exact .refl s

theorem keeps_slotOperand (payload : Frame) {f : PlanSlot → State → State × Reply} (h : ∀ k, Keeps M s (f k s).1) :
    Keeps M s (slotOperand payload f s).1 := by
  unfold slotOperand
  split
  · split
    · exact h _
    · exact .refl s
  · exact .refl s

end

variable (payload : Frame) (s : State)

/-! ### SET_PEDESTAL (R3, R141) -/

/-- A slot that no other configured pedestal holds stays a pedestal's own (R3). -/
theorem State.slotTaken_eq_false {s : State} {p : Ped} {k : Fin 24} (h : s.slotTaken p k = false) :
    ∀ q, q ≠ p → (s.ped q).configured = true → (s.ped q).slot ≠ some k := by
  intro q hq hc hk
  have := List.any_eq_false.1 h q (List.mem_finRange q)
  simp [hq, hc, hk] at this

theorem slotsDistinct_configure {s : State} {p : Ped} {k : Fin 24} (h : s.slotTaken p k = false)
    (d : SlotsDistinct s.line.peds) : SlotsDistinct (s.updPed p (Pedestal.configure k)).line.peds := by
  have free := State.slotTaken_eq_false h
  have own : (Pedestal.configure k (s.ped p)).slot = some k := by
    unfold Pedestal.configure
    split <;> rfl
  intro q r j cq cr kq kr
  rw [State.updPed_peds] at cq cr kq kr
  by_cases eq : q = p <;> by_cases er : r = p
  · rw [eq, er]
  · rw [if_pos eq, own] at kq
    rw [if_neg er] at kr cr
    exact absurd (kq ▸ kr) (free r er cr)
  · rw [if_pos er, own] at kr
    rw [if_neg eq] at kq cq
    exact absurd (kr ▸ kq) (free q eq cq)
  · rw [if_neg eq] at kq cq
    rw [if_neg er] at kr cr
    exact d q r j cq cr kq kr

theorem Pedestal.configure_sound (k : Fin 24) {e : Pedestal} (h : e.Sound) : (Pedestal.configure k e).Sound := by
  obtain ⟨link, poll, resync⟩ := h
  unfold Pedestal.configure
  split
  · exact ⟨link, poll, resync⟩
  · next hc =>
    have unconfigured := link.1 (by simpa using hc)
    exact ⟨by simp, by simpa [unconfigured] using poll, by simp⟩

theorem Keeps.setPresent {p : Ped} {k : Fin 24} (f : PedestalFields) (s : State) (hP : Serves M p)
    (h : s.slotTaken p k = false) : Keeps M s (s.setPresent p k f) := by
  have configured : Keeps M s (s.updPed p (Pedestal.configure k)) :=
    .updPedSlot s hP.ped (by unfold Pedestal.configure; split <;> exact id) (fun _ => Pedestal.configure_sound k)
      (fun x => absurd hP.entry x) (slotsDistinct_configure h)
  have powered (t : State) : Keeps M t (t.updConfig p f.config) :=
    .updConfig t fun _ => ⟨Nat.min_le_right .., Nat.min_le_right .., Nat.min_le_right .., Nat.min_le_right ..,
      Nat.min_le_right ..⟩
  have both := configured.trans (powered _)
  exact .ite (fun _ => both.trans (.pass _)) fun _ => both

theorem Pedestal.initial_sound : Pedestal.initial.Sound := ⟨by decide, by decide, by decide⟩

theorem Keeps.emptySlots (p : Ped) (s : State) (hT : ∀ n, Touches M n) : Keeps M s (s.emptySlots p) :=
  (Keeps.updSlots s (.inl (hT _).1)).trans (.updSlots _ (.inl (hT _).1))

theorem PedConfig.initial_inRange : PedConfig.initial.InRange := by
  unfold PedConfig.InRange
  decide

theorem Keeps.setAbsent {p : Ped} (s : State) (hF : Fails M p) : Keeps M s (s.setAbsent p) := by
  have emptied (t : State) : Keeps M t (t.updPed p fun _ => Pedestal.initial) :=
    .updPed t hF.serves.ped ⟨fun _ => by decide, fun _ _ => Pedestal.initial_sound, fun x => absurd hF.serves.entry x,
      fun h => absurd h (by decide)⟩
  exact (Keeps.discardInflight _ s).trans <| (emptied _).trans <| (Keeps.emptySlots p _ hF.touches).trans <|
    (Keeps.updCounts p _ _).trans <| (Keeps.updConfig _ fun _ => PedConfig.initial_inRange).trans <|
    .foldl _ _ (fun t n _ => .updSetpoint n _ t) _

theorem keeps_setPedestal (hF : ∀ p, Fails M p) : Keeps M s (ownSetPedestal payload s).1 := by
  have present (b : Byte) (f : PedestalFields) : Keeps M s (ownPresent b f s).1 := by
    unfold ownPresent
    split
    · next p k _ _ =>
      split
      · exact .refl s
      · next h => exact .setPresent f s (hF p).serves (by simpa using h)
    · exact .refl s
  have absent (b : Byte) : Keeps M s (ownAbsent b s).1 := by
    unfold ownAbsent
    split
    · next p _ =>
      split
      · exact .refl s
      · exact .ite (fun _ => .setAbsent s (hF p)) fun _ => .refl s
    · exact .refl s
  unfold ownSetPedestal
  split
  · split
    · exact absent _
    · exact .refl s
  · split
    · exact present _ _
    · exact .refl s
  · exact .refl s

theorem keeps_setLineTiming (ha : .arbiter ∈ M) : Keeps M s (ownSetLineTiming payload s).1 := by
  unfold ownSetLineTiming
  split
  · exact .lineTimers s ha rfl rfl
      (fun _ => ⟨clamp_inRange _ (by decide), clamp_inRange _ (by decide), clamp_inRange _ (by decide)⟩) id
  · exact .refl s

/-! ### CLEAR_PEDESTAL (R21, R57, R102, R160) -/

theorem Keeps.closeAtOnce {n : Conn} (why : EndReason) (lost : Bool) (s : State) (hn : .conn n ∈ M) :
    Keeps M s (s.closeAtOnce why lost n) := by
  have close (f : Session → Session) (hf : (s.sess n).SameStanding (f (s.sess n)))
      (he : (s.sess n).EnergyAddsUp → (f (s.sess n)).EnergyAddsUp) (ht : (f (s.sess n)).token = (s.sess n).token)
      (ho : (f (s.sess n)).state.metered = true) : Keeps M s ((s.updSess n f).closeSession n) :=
    (Keeps.updSess s hn he hf ht).trans (.closeSession _ hn (by rw [State.updSess_sess, if_pos rfl]; exact ho))
  unfold State.closeAtOnce
  split
  · next h => exact close _ ⟨rfl, rfl, .inl rfl⟩ id rfl (by simp [h, SessionKind.metered])
  · next h => exact close _ ⟨rfl, rfl, .inl rfl⟩ id rfl (by simp [h, SessionKind.metered])
  · next h => exact close _ ⟨rfl, rfl, .inl rfl⟩ id rfl (by simp [h, SessionKind.metered])
  · next h => exact close _ ⟨rfl, rfl, .inl rfl⟩ id rfl (by simp [h, SessionKind.metered])
  all_goals exact .refl s

theorem Keeps.clearLine {p : Ped} (s : State) (hF : Fails M p) : Keeps M s (s.clearLine p) := by
  have emptied (t : State) :
      Keeps M t (t.updPed p fun e => { e with queue := [], checkFails := 0, disposition := .none }) :=
    .updPed t hF.serves.ped ⟨fun _ => by simp, fun _ a => a, fun x => absurd hF.serves.entry x, fun c => ⟨c, rfl⟩⟩
  refine (Keeps.discardInflight _ s).trans <| (emptied _).trans <| (Keeps.emptySlots p _ hF.touches).trans <|
    .enqueue _ _ hF.serves.ped ?_
  simp [State.emptySlots]

theorem Keeps.clearConnector {n : Conn} (s : State) (hT : Touches M n) : Keeps M s (s.clearConnector n) := by
  have cleared : Keeps M s (s.updSeq n fun r =>
      { r with
        fault := none
        attempt := 1
        openPending := false
        openAcked := false
        released := false
        settleDeadline := none
        idleCount := 0
        restCount := 0
        repliesSinceOpen := 0 }) := .updSeqRest s hT.1 rfl rfl
  exact .ite (fun _ => cleared) fun _ => .ite (fun h => cleared.trans (.setContactor _ hT fun _ => h)) fun _ =>
    cleared.trans ((Keeps.setOpenSlot _ hT).trans (.enterOpening _ hT))

theorem Keeps.clearSession {n : Conn} (s : State) (hT : Touches M n) : Keeps M s (s.clearSession n) :=
  .ite (fun h => .withdraw s hT.1 fun _ => .inl h) fun _ => .closeAtOnce _ _ s hT.1

theorem Keeps.clearPed {p : Ped} (s : State) (hF : Fails M p) : Keeps M s (s.clearPed p) :=
  (Keeps.clearLine s hF).trans <| (Keeps.updCounts p _ _).trans <| (Keeps.clearConnector _ (hF.touches _)).trans <|
    (Keeps.clearConnector _ (hF.touches _)).trans <| (Keeps.updSetpoint _ _ _).trans <|
    (Keeps.updSetpoint _ _ _).trans <| (Keeps.clearSession _ (hF.touches _)).trans (.clearSession _ (hF.touches _))

theorem keeps_clearPedestal (p : Ped) (hF : Fails M p) : Keeps M s (ownClearPedestal p s).1 := by
  unfold ownClearPedestal
  split
  · exact .refl s
  · dsimp only
    exact .clearPed s hF

/-! ### Classes, host commands and sequencing -/

theorem keeps_setClass : Keeps M s (ownSetClass payload s).1 := by
  unfold ownSetClass
  split
  · split
    · exact .refl s
    · exact .refl s
    · split
      · exact .refl s
      · exact .of_classifier id
  · exact .refl s

theorem keeps_offerDown (p : Ped) (c : QueueCmd) (hp : .ped p ∈ M) : Keeps M s (offerDown p c s).1 := by
  unfold offerDown
  split
  · exact .refl s
  · split
    · next h => exact .enqueue _ s hp (queueTakes_length h)
    · exact .refl s

theorem keeps_passDown (hp : ∀ p, .ped p ∈ M) : Keeps M s (ownPassDown payload s).1 := by
  unfold ownPassDown
  split
  · split
    · split
      · split
        · exact .refl s
        · exact keeps_offerDown s _ _ (hp _)
      · exact .refl s
    · exact .refl s
  · exact .refl s

theorem keeps_display (hp : ∀ p, .ped p ∈ M) : Keeps M s (ownDisplay payload s).1 := by
  unfold ownDisplay
  split
  · split
    · split
      · split
        · exact .refl s
        · exact keeps_offerDown s _ _ (hp _)
      · exact .refl s
    · exact .refl s
  · exact .refl s

theorem keeps_setSequencing : Keeps M s (ownSetSequencing payload s).1 := by
  unfold ownSetSequencing
  split
  · exact .of_sequencer ⟨fun _ _ h => h,
      fun _ => ⟨clamp_inRange _ (by decide), clamp_inRange _ (by decide)⟩, fun _ _ => rfl⟩
  · exact .refl s

theorem keeps_lockout (n : Conn) (hT : Touches M n) : Keeps M s (ownLockout n s).1 := by
  unfold ownLockout
  split
  · exact .refl s
  · exact .addLock _ s hT

theorem keeps_unlock (n : Conn) (hT : Touches M n) : Keeps M s (ownUnlock n s).1  := .removeLock _ s hT

theorem Keeps.clearFaultAt {n : Conn} (s : State) (hT : Touches M n) : Keeps M s (s.clearFaultAt n) := by
  have cleared : Keeps M s (s.updSeq n fun r => { r with fault := none }) := .updSeqRest s hT.1 rfl rfl
  unfold State.clearFaultAt
  dsimp only
  split
  · next h => exact cleared.trans (.enterOpen _ hT h)
  · exact cleared.trans ((Keeps.setOpenSlot _ hT).trans (.enterOpening _ hT))

theorem keeps_clearFault (n : Conn) (hT : Touches M n) : Keeps M s (ownClearFault n s).1 := by
  unfold ownClearFault
  split
  · exact .clearFaultAt s hT
  · exact .refl s

/-! ### PARK_STOP and PARK_RESUME (R54) -/

/-- A fold keeps everything when its steps do, each in a state that the steps before it keep to. -/
theorem Keeps.foldl_of {α : Type} (I : State → Prop) (f : State → α → State) (l : List α)
    (h : ∀ s, ∀ x ∈ l, I s → Keeps M s (f s x) ∧ I (f s x)) (s : State) (hs : I s) : Keeps M s (l.foldl f s) := by
  induction l generalizing s with
  | nil => exact .refl s
  | cons x l ih =>
    obtain ⟨first, still⟩ := h s x (List.mem_cons_self ..) hs
    exact first.trans (ih (fun t y hy => h t y (List.mem_cons_of_mem _ hy)) _ still)

/-- The connectors of a list wait for an answer, or have no session any more. -/
def State.Withdrawable (l : List Conn) (s : State) : Prop :=
  ∀ n ∈ l, (s.sess n).state = .awaitingAuth ∨ (s.sess n).state = .empty

theorem Keeps.withdrawAll (l : List Conn) (s : State) (hT : ∀ n, Touches M n) (h : .queries ∉ M → s.Withdrawable l) :
    Keeps M s (l.foldl (fun s n => s.withdraw n) s) := by
  refine .foldl_of (fun t => .queries ∉ M → t.Withdrawable l) _ _ (fun t n hn ht => ⟨?_, fun x m hm => ?_⟩) s h
  · exact .withdraw t (hT n).1 fun x => ht x n hn
  · rw [State.withdraw_sess]
    split
    · exact .inr rfl
    · exact ht x m hm

theorem Keeps.parkStop (v : Bool) (s : State) : Keeps M s { s with sequencer := { s.sequencer with parkStop := v } } :=
  .of_sequencer ⟨fun _ _ h => h, id, fun _ _ => rfl⟩

theorem Keeps.beginParkStop (hT : ∀ n, Touches M n) (hq : .queries ∉ M → s.HeldSound) : Keeps M s s.beginParkStop := by
  have opened (t : State) : Keeps M t (allConns.foldl State.parkOpen t) :=
    .foldl _ _ (fun t n _ => .ite (fun _ => .openCause t (hT n)) fun _ => .refl t) t
  have stopped (t : State) : Keeps M t (allConns.foldl (fun s n => s.stopCause .parkStop n) t) :=
    .foldl _ _ (fun t n _ => .stopCause _ t (hT n)) t
  have before := (Keeps.parkStop true s).trans ((opened _).trans (stopped _))
  refine before.trans (.withdrawAll _ _ hT fun x n hn => ?_)
  obtain ⟨h, hh, rfl⟩ := List.mem_map.1 hn
  exact .inl ((before.held x (hq x)).2 h hh)

theorem keeps_parkStop (hT : ∀ n, Touches M n) (hq : .queries ∉ M → s.HeldSound) : Keeps M s (ownParkStop s).1 :=
  .ite (fun _ => .refl s) fun _ => .beginParkStop s hT hq

theorem keeps_parkResume (hT : ∀ n, Touches M n) : Keeps M s (ownParkResume s).1 :=
  .ite (fun _ => (Keeps.parkStop false s).trans (.foldl _ _ (fun t n _ => .testClose t (hT n)) _)) fun _ => .refl s

end Sys2Proof.Machine
end

section
/-! SUPPORT and PROOF. What the owners of the requests keep, continued: tokens, sessions, plans, the clock, power and
the
settlement queue. -/

namespace Sys2Proof.Machine

variable {M : Set Privilege} (payload : Frame) (s : State)

/-! ### Tokens (R76, R77) -/

theorem Keeps.of_auth {s : State} {a : AuthState} (h : AuthKept M s.auth a) (held : a.held = s.auth.held)
    (ht : .tokenForm ∉ M → ∀ i e, tget a.tokens i = some e → tget s.auth.tokens i = some e ∨ e.token.fits) :
    Keeps M s { s with auth := a } :=
  { Keeps.refl s with
    auth := h
    held := fun _ a => by unfold State.HeldSound; rw [held]; exact a
    tokens := fun x a => by
      obtain ⟨table, queries, rest⟩ := (State.tokensFit_iff s).1 a
      refine (State.tokensFit_iff _).2 ⟨fun i e he => ?_, by rw [held]; exact queries, rest⟩
      exact (ht x i e he).elim (table i e) id }

theorem keeps_setAuthPolicy : Keeps M s (ownSetAuthPolicy payload s).1 := by
  unfold ownSetAuthPolicy
  split
  · next l3 l2 l1 l0 =>
    split
    · exact .refl s
    · exact .of_auth ⟨id, fun _ => ⟨clamp_inRange _ (by decide), num_four_le ..⟩, fun _ => rfl, fun _ => rfl,
        fun _ _ => rfl⟩ rfl fun _ _ _ => .inl
  · exact .refl s

/-- What a write of entries leaves in the table: an entry of before, or one of those written. -/
theorem writeEntries_mem (es : List (Option TokenEntry)) (i : Nat) (t : Table (Option TokenEntry) 512) (j : Fin 512)
    {e : TokenEntry} (h : tget (writeEntries es i t).1 j = some e) : tget t j = some e ∨ some e ∈ es := by
  induction es generalizing i t with
  | nil => exact .inl h
  | cons x es ih =>
    rw [writeEntries] at h
    split at h
    · rcases ih _ _ h with h | h
      · rw [tget_tset] at h
        split at h
        · exact .inr (by simp [h])
        · exact .inl h
      · exact .inr (List.mem_cons_of_mem _ h)
    · exact .inl h

theorem parseEntry_fits {bytes : Frame} {e : TokenEntry} (hl : bytes.length = 20)
    (h : parseEntry bytes = some (some e)) : e.token.fits := by
  unfold parseEntry at h
  split at h
  · next rest =>
    split at h
    · simp at h
    · split at h
      · split at h
        · next hm _ =>
          split at h
          · cases h
            exact makeToken_fits (by simp at hl ⊢; omega) hm
          · cases h
        · cases h
      · cases h
  · cases h

theorem chunks_length {k count : Nat} {bs : Frame} (h : bs.length = k * count) : ∀ c ∈ chunks k count bs,
    c.length = k := by
  induction count generalizing bs with
  | zero => simp [chunks]
  | succ count ih =>
    rw [Nat.mul_succ] at h
    simp only [chunks, List.mem_cons, forall_eq_or_imp]
    exact ⟨by simp; omega, ih (by simp; omega)⟩

/-- What a parse of every member of a list gives, one for one. -/
theorem mapM_forall₂ {α β : Type} {f : α → Option β} {l : List α} {r : List β} (h : l.mapM f = some r) :
    List.Forall₂ (fun x y => f x = some y) l r := by
  induction l generalizing r with
  | nil =>
    cases h
    exact .nil
  | cons x l ih =>
    rw [List.mapM_cons] at h
    simp only [Option.bind_eq_bind, Option.bind_eq_some_iff, Option.pure_def, Option.some.injEq] at h
    obtain ⟨y, hy, r', hr', rfl⟩ := h
    exact .cons hy (ih hr')

theorem mapM_some_mem {α β : Type} {f : α → Option β} {l : List α} {r : List β} (h : l.mapM f = some r) :
    ∀ y ∈ r, ∃ x ∈ l, f x = some y := by
  have both := mapM_forall₂ h
  clear h
  induction both with
  | nil => simp
  | cons hxy _ ih =>
    simp only [List.mem_cons, forall_eq_or_imp, exists_eq_or_imp]
    exact ⟨.inl hxy, fun y hy => .inr (ih y hy)⟩

theorem keeps_loadTokens (hw : .tokenTable ∈ M) : Keeps M s (ownLoadTokens payload s).1 := by
  unfold ownLoadTokens
  split
  · split
    · next count rest form =>
      split
      · next es hes =>
        refine .of_auth ⟨id, id, fun x => absurd hw x, fun _ => rfl, fun _ _ => rfl⟩ rfl fun _ i e he => ?_
        refine (writeEntries_mem es _ _ i he).imp_right fun hm => ?_
        obtain ⟨c, hc, hp⟩ := mapM_some_mem hes _ hm
        exact parseEntry_fits (chunks_length form.2.2 c hc) hp
      · exact .refl s
    · exact .refl s
  · exact .refl s

theorem keeps_loadWatch (hw : .watchMap ∈ M) : Keeps M s (ownLoadWatch payload s).1 := by
  unfold ownLoadWatch
  split
  · split
    · split
      · exact .of_auth ⟨id, id, fun _ => rfl, fun x => absurd hw x, fun _ _ => rfl⟩ rfl fun _ _ _ => .inl
      · exact .refl s
    · exact .refl s
  · exact .refl s

theorem keeps_clearTokens (hw : .tokenTable ∈ M) : Keeps M s (ownClearTokens s).1 :=
  .of_auth ⟨id, id, fun x => absurd hw x, fun _ => rfl, fun _ _ => rfl⟩ rfl fun _ i e he => by
    rw [tget_replicate] at he
    cases he

theorem keeps_readToken : Keeps M s (ownReadToken payload s).1 := by
  unfold ownReadToken
  split
  · split <;> exact .refl s
  · exact .refl s

theorem keeps_authAnswer (hT : ∀ n, Touches M n) (hq : .queries ∉ M → s.HeldSound)
    (ht : .tokenForm ∉ M → s.TokensFit) : Keeps M s (ownAuthAnswer payload s).1 := by
  unfold ownAuthAnswer
  split
  · split
    · split
      · exact .takeAnswer _ s (hT _) hq ht
      · exact .refl s
    · exact .refl s
  · exact .refl s

theorem tokenOperand_fits {bytes : Frame} {t : Option Token} (hl : bytes.length = 12)
    (h : tokenOperand bytes = some t) : ∀ u, t = some u → u.fits := by
  unfold tokenOperand at h
  split at h
  · split at h
    · cases h; simp
    · intro u hu
      obtain ⟨v, hv, e⟩ := Option.map_eq_some_iff.1 h
      subst hu
      cases e
      exact makeToken_fits (by simp at hl; omega) hv
  · cases h

theorem keeps_remoteStart (hT : ∀ n, Touches M n) : Keeps M s (ownRemoteStart payload s).1 := by
  unfold ownRemoteStart
  split
  · split
    · next token hl =>
      split
      · split
        · next ht =>
          unfold State.remoteStart
          split
          · exact .refl s
          · split
            · exact .refl s
            · next he =>
              split
              · exact .refl s
              · dsimp only
                split
                · next loaded =>
                  exact .accept _ s (hT _) loaded (fun _ => .inl (not_not.1 he)) fun _ => tokenOperand_fits hl ht
                · exact .decide _ s (hT _).1
        · exact .refl s
      · exact .refl s
    · exact .refl s
  · exact .refl s

/-! ### Sessions and plans -/

theorem keeps_remoteStop (n : Conn) (hT : Touches M n) : Keeps M s (ownRemoteStop n s).1 := by
  unfold ownRemoteStop
  split
  iterate 2 exact .refl s
  all_goals exact .stopCause _ s hT

theorem Keeps.sessionTimes {x : SessionTable} (he : x.entries = s.sessions.entries)
    (hw : x.waiting = s.sessions.waiting)
    (hr : s.sessions.InRange → x.InRange) : Keeps M s { s with sessions := x } :=
  have same (n : Conn) : ({ s with sessions := x } : State).sess n = s.sess n := by unfold State.sess; rw [he]
  { Keeps.refl s with
    entries := ⟨fun n => by rw [he]; exact id, hr, fun n _ => by rw [he]⟩
    held := fun _ a => by simpa only [State.HeldSound, same] using a
    waiting := fun _ _ a => by simpa only [State.WaitingSound, same, hw] using a
    uses := fun _ a k => by
      have plan : ({ s with sessions := x } : State).plan k = s.plan k := rfl
      simpa only [same, plan] using a k
    tokens := fun _ a => by simpa only [State.TokensFit, same] using a }

theorem keeps_setSessionTiming : Keeps M s (ownSetSessionTiming payload s).1 := by
  unfold ownSetSessionTiming
  split
  · exact .sessionTimes s rfl rfl
      fun _ => ⟨clamp_inRange _ (by decide), clamp_inRange _ (by decide), clamp_inRange _ (by decide)⟩
  · exact .refl s

/-- An unused plan slot is written; its use count stays. -/
theorem Keeps.updPlan {k : PlanSlot} {f : Plan → Plan} (hw : .planSlots ∈ M) (hu : ¬ 0 < (s.plan k).useCount)
    (hf : (f (s.plan k)).useCount = (s.plan k).useCount) : Keeps M s (s.updPlan k f) :=
  { Keeps.refl s with
    tariff := fun x => absurd hw x
    uses := fun _ a j => by
      obtain ⟨count, loaded⟩ := a j
      show ((s.updPlan k f).plan j).useCount = _ ∧ (0 < ((s.updPlan k f).plan j).useCount →
        ((s.updPlan k f).plan j).loaded = true)
      rw [State.updPlan_plan]
      split
      · next e =>
        subst e
        exact ⟨hf.trans count, fun h => absurd (hf ▸ h) hu⟩
      · exact ⟨count, loaded⟩ }

theorem keeps_loadPlan (hw : .planSlots ∈ M) : Keeps M s (ownLoadPlan payload s).1 := by
  unfold ownLoadPlan
  split
  · split
    · exact .refl s
    · split
      · exact .refl s
      · split
        · exact .refl s
        · next k _ _ c _ _ h => exact .updPlan (f := Plan.load c) s hw h rfl
  · exact .refl s

theorem keeps_clearPlan (k : PlanSlot) (hw : .planSlots ∈ M) : Keeps M s (ownClearPlan k s).1 := by
  unfold ownClearPlan
  split
  · exact .refl s
  · next h =>
    exact .updPlan (f := fun p => { p with loaded := false, contents := PlanContents.initial }) s hw h rfl

/-! ### The clock (R111, R112, R116) -/

theorem Keeps.settleMinutes (ha : .arbiter ∈ M) (he : .epoch ∈ M) : Keeps M s s.settleMinutes :=
  .testDueMinutes _ s ha he

theorem keeps_setTime (ha : .arbiter ∈ M) (he : .epoch ∈ M) : Keeps M s (ownSetTime payload s).1 := by
  unfold ownSetTime
  split
  · next d1 d0 t3 t2 t1 t0 =>
    split
    · next hs =>
      have set : Keeps M s.settleMinutes { s.settleMinutes with clock :=
          { s.settleMinutes.clock with wall := some ⟨num [d1, d0], num [t3, t2, t1, t0]⟩, minutesDue := 0 } } := by
        refine .of_clock ⟨fun ⟨ms, _, rest⟩ => ⟨ms, fun w hw => ?_, rest⟩, fun _ => ⟨rfl, rfl, rfl⟩⟩
        cases hw
        exact ⟨num_two_le .., Nat.le_of_lt_succ hs⟩
      exact ((Keeps.settleMinutes s ha he).trans set).trans (.takeBand _ _ ha he)
    · exact .refl s
  · exact .refl s

theorem parseBoundary_minute {bytes : Frame} {b : Boundary} (h : parseBoundary bytes = some b) : b.minute < 1440 := by
  unfold parseBoundary at h
  split at h
  · split at h
    · next hm =>
      obtain ⟨band, -, rfl⟩ := Option.map_eq_some_iff.1 h
      exact hm
    · cases h
  · cases h

theorem scheduleSound_of_ascending : ∀ {l : List Boundary}, ascending l = true → (∀ b ∈ l, b.minute < 1440) →
    scheduleSound l
  | [], _, _ => trivial
  | [b], _, h => h b (by simp)
  | a :: b :: l, ha, h => by
    simp only [ascending, Bool.and_eq_true, decide_eq_true_eq] at ha
    exact ⟨ha.1, scheduleSound_of_ascending ha.2 fun x hx => h x (List.mem_cons_of_mem _ hx)⟩

theorem chunks_count (k count : Nat) (bs : Frame) : (chunks k count bs).length = count := by
  induction count generalizing bs with
  | zero => rfl
  | succ count ih => simp [chunks, ih]

theorem scheduleOperand_sound {payload : Frame} {bs : List Boundary} (h : scheduleOperand payload = some bs) :
    scheduleSound bs ∧ bs.length ≤ 8 := by
  unfold scheduleOperand at h
  split at h
  · next count rest =>
    split at h
    · next form =>
      split at h
      · next parsed hp =>
        split at h
        · next asc =>
          cases h
          refine ⟨scheduleSound_of_ascending asc fun b hb => ?_, ?_⟩
          · obtain ⟨c, -, hc⟩ := mapM_some_mem hp b hb
            exact parseBoundary_minute hc
          · have := (mapM_forall₂ hp).length_eq
            rw [chunks_count] at this
            omega
        · cases h
      · cases h
    · cases h
  · cases h

theorem keeps_setBands (ha : .arbiter ∈ M) (he : .epoch ∈ M) : Keeps M s (ownSetBands payload s).1 := by
  unfold ownSetBands
  split
  · next bs hbs =>
    have set : Keeps M s.settleMinutes { s.settleMinutes with clock :=
        { s.settleMinutes.clock with schedule := bs, minutesDue := 0 } } :=
      .of_clock ⟨fun ⟨ms, wall, _⟩ => ⟨ms, wall, scheduleOperand_sound hbs⟩, fun _ => ⟨rfl, rfl, rfl⟩⟩
    exact ((Keeps.settleMinutes s ha he).trans set).trans (.takeBand _ _ ha he)
  · exact .refl s

/-! ### Power (R121, R142 to R145) -/

theorem keeps_setHeadroom : Keeps M s (ownSetHeadroom payload s).1 := by
  unfold ownSetHeadroom
  split
  · exact .of_metering fun _ => Nat.min_le_right ..
  · exact .refl s

theorem keeps_setSiteLimit : Keeps M s (ownSetSiteLimit payload s).1 := by
  unfold ownSetSiteLimit
  split
  · next l1 l0 =>
    have limited : Keeps M s { s with alloc := { s.alloc with baseLimit := min (num [l1, l0]) 4000 } } :=
      .of_alloc fun ⟨_, rest⟩ => ⟨Nat.min_le_right .., rest⟩
    dsimp only
    split
    · exact limited
    · exact limited.trans (.pass _)
  · exact .refl s

theorem Keeps.setCurtailment (limit hold : Nat) : Keeps M s (s.setCurtailment limit hold) := by
  have curtailed : Keeps M s { s with alloc := { s.alloc with curtailment := some ⟨limit, s.sec + hold⟩ } } :=
    .of_alloc id
  unfold State.setCurtailment
  dsimp only
  split
  · exact curtailed
  · exact curtailed.trans (.pass _)

theorem keeps_curtail : Keeps M s (ownCurtail payload s).1 := by
  unfold ownCurtail
  split
  · exact .setCurtailment s _ _
  · exact .refl s

theorem keeps_setSetpointTiming : Keeps M s (ownSetSetpointTiming payload s).1 := by
  unfold ownSetSetpointTiming
  split
  · next y h r =>
    refine .of_alloc fun ⟨base, _, _, _, configs⟩ => ⟨base, clamp_inRange _ (by decide), clamp_inRange _ (by decide),
      ?_,
      configs⟩
    have hold := clamp_inRange h.toNat (show 5 ≤ 120 by decide)
    have renew := clamp_inRange r.toNat (show 1 ≤ 60 by decide)
    dsimp only
    omega
  · exact .refl s

/-! ### The settlement queue (R165 to R167) -/

theorem keeps_readSettlement : Keeps M s (ownReadSettlement s).1 := by
  unfold ownReadSettlement
  split
  · exact .refl s
  · next r l h =>
    exact { Keeps.refl s with
      settlement := ⟨id, fun ⟨range, next, _⟩ => ⟨range, next, fun e => absurd (h.symm.trans e) (by simp)⟩⟩ }

theorem consecutive_tail {a : Nat} {l : List Nat} (h : consecutive (a :: l)) : consecutive l := by
  cases l with
  | nil => trivial
  | cons b l => exact h.2

/-- The head of the settlement queue leaves it (R164). -/
theorem SettlementKept.dropHead (x : SettlementState) :
    SettlementKept x { x with records := x.records.tail, readMark := false } := by
  refine ⟨fun h => by simp; omega, fun ⟨range, next, _⟩ => ?_⟩
  cases hx : x.records with
  | nil => rw [hx] at range next; exact ⟨range, next, fun _ => rfl⟩
  | cons r l =>
    rw [hx] at range next
    exact ⟨fun q hq => range q (List.mem_cons_of_mem _ hq), consecutive_tail next, fun _ => rfl⟩

theorem Keeps.dropHeadRaw (hq : .queries ∈ M) : Keeps M s s.dropHead :=
  .settlementRaw s hq (.dropHead _) fun _ a r hr => a.2.2.2.2 r (List.mem_of_mem_tail hr)

/-- A queue from which no record waits loses its head. -/
theorem Keeps.dropHead (h : .queries ∉ M → s.WaitingSound → s.sessions.waiting = []) : Keeps M s s.dropHead :=
  .inStep (.dropHeadRaw s (by simp)) (fun _ => id)
    (fun x _ a => ⟨a.1, a.2.1, a.2.2.1, fun e => absurd (h x a) e⟩) fun _ => id

end Sys2Proof.Machine
end

section
/-! SUPPORT and PROOF. What DISCARD_SETTLEMENT, the event requests and RESTART keep, and what every command keeps. -/

namespace Sys2Proof.Machine

variable {M : Set Privilege} (payload : Frame) (s : State)

/-! ### A waiting record takes the free place (R97, R167) -/

theorem Keeps.waitingRaw (l : List Conn) (hq : .queries ∈ M) :
    Keeps M s { s with sessions := { s.sessions with waiting := l } } :=
  { Keeps.refl s with
    entries := ⟨fun _ => id, id, fun _ _ => rfl⟩
    held := fun x => absurd hq x
    waiting := fun x => absurd hq x
    uses := fun x => absurd hq x }

theorem State.transfer_sess (n m : Conn) (rest : List Conn) (r : BuiltRecord) (s : State) :
    (s.transfer n rest r).sess m = if m = n then Session.initial else s.sess m := by
  unfold State.transfer
  rw [State.setSess_to_empty _ _ _ rfl, State.updSess_sess]
  simp [State.sess]

theorem Keeps.transferHead {n : Conn} {rest : List Conn} (r : BuiltRecord) (hn : .conn n ∈ M)
    (hl : s.sessions.waiting = n :: rest) (hr : (s.sess n).record = some r) (hw : .queries ∉ M → s.WaitingSound) :
    Keeps M s (s.dropHead.transfer n rest r) := by
  have sess (m : Conn) : (s.dropHead.transfer n rest r).sess m = if m = n then Session.initial else s.sess m :=
    State.transfer_sess n m rest r s.dropHead
  have waits (x : .queries ∉ M) : (s.sess n).state = .closed := ((hw x).2.1 n).1 (by simp [hl])
  have held : (s.dropHead.transfer n rest r).auth = s.auth := by simp [State.transfer, State.dropHead]
  have list : (s.dropHead.transfer n rest r).sessions.waiting = rest := by
    simp [State.transfer, State.setSess_to_empty, Session.initial, State.updSess]
  have records : (s.dropHead.transfer n rest r).settlement.records =
      s.settlement.records.tail ++ [⟨s.settlement.nextSequence, r⟩] := by
    simp [State.transfer, State.dropHead, State.appendRecord_settlement]
  have plans (k : PlanSlot) : (s.dropHead.transfer n rest r).plan k = s.plan k := by
    simp [State.plan, State.transfer, State.dropHead]
  have raw : Keeps (insert .queries M) s (s.dropHead.transfer n rest r) := by
    have moved : Keeps (insert .queries M) s (s.dropHead.appendRecord r) := by
      refine .appendTo r s (by simp) (.dropHead _) (fun _ => List.mem_of_mem_tail) (fun h => ?_) fun _ a t ht =>
        a.2.2.2.1 n r t hr ht
      simp
      omega
    unfold State.transfer
    dsimp only
    rw [State.setSess_to_empty _ _ _ rfl]
    exact (moved.trans (.waitingRaw _ rest (by simp))).trans
      (.updSessRaw _ (by simp) (by simp [hn]) (fun _ => Session.initial_energyAddsUp) fun _ _ =>
        Session.initial_tokensFit)
  refine raw.inStep (fun x a => ?held) (fun x len a => ?waiting) fun x a k => ?uses
  case held =>
    refine heldSound_of_not_awaiting (n := n) (by simp [waits x]) (fun m hm => by rw [sess, if_neg hm]) (by rw [held]) a
  case waiting =>
    obtain ⟨nodup, mem, closed, full⟩ := a
    rw [hl, List.nodup_cons] at nodup
    have was := full (by simp [hl])
    refine ⟨by rw [list]; exact nodup.2, fun m => ?_, fun m hm => ?_, fun _ => by rw [records]; simp [was]⟩
    · rw [list, sess]
      split
      · next e => subst e; simp [nodup.1, Session.initial]
      · next e => rw [← mem m, hl]; simp [e]
    · rw [sess] at hm ⊢
      split at hm
      · cases hm
      · next e => rw [if_neg e]; exact closed m hm
  case uses =>
    have := countP_pricedOn k n s (s.dropHead.transfer n rest r) fun m hm => by rw [sess, if_neg hm]
    have was : (s.sess n).pricedOn k = false := by
      simp [Session.pricedOn, ((hw x).2.2.1 n (waits x)).2]
    have is : ((s.dropHead.transfer n rest r).sess n).pricedOn k = false := by
      rw [sess, if_pos rfl]
      simp [Session.pricedOn, Session.initial]
    rw [was, is] at this
    simp only [Bool.false_eq_true, if_false, Nat.add_zero] at this
    rw [plans, this]
    exact a k

theorem keeps_discardSettlement (hn : ∀ n, .conn n ∈ M) (hw : .queries ∉ M → s.WaitingSound) :
    Keeps M s (ownDiscardSettlement s).1 := by
  unfold ownDiscardSettlement
  split
  · exact .refl s
  · split
    · dsimp only
      unfold State.discardHead
      split
      · next h => exact .dropHead s fun _ _ => h
      · next n rest h =>
        split
        · next r hr => exact .transferHead s r (hn n) h hr hw
        · next hr =>
          refine .dropHead s fun _ a => absurd (a.2.2.1 n ((a.2.1 n).1 (by simp [h]))).1 ?_
          have : (s.sess n).record = none := hr
          simp [this]
    · exact .refl s

/-! ### Events (R176, R177) -/

theorem keeps_testAttention {e p : EventSet} (he : .events ∈ M) :
    Keeps M s ((s.updUplink fun u => { u with pendingSet := e, enableSet := p }).testAttention s.attention) := by
  have only : ((s.updUplink fun u => { u with pendingSet := e, enableSet := p }).testAttention s.attention) =
      { s with uplink :=
        ((s.updUplink fun u => { u with pendingSet := e, enableSet := p }).testAttention s.attention).uplink } := by
    unfold State.testAttention
    split <;> rfl
  rw [only]
  exact .of_uplink (.testAttention rfl fun x => absurd he x)

theorem keeps_readEvents (he : .events ∈ M) : Keeps M s (ownReadEvents s).1 :=
  keeps_testAttention (e := 0) (p := s.uplink.enableSet) s he

theorem keeps_setEventEnable (he : .events ∈ M) : Keeps M s (ownSetEventEnable payload s).1 := by
  unfold ownSetEventEnable
  split
  · split
    · exact keeps_testAttention (e := s.uplink.pendingSet) s he
    · exact .refl s
  · exact .refl s

theorem keeps_setUplinkTiming (hp : .port ∈ M) : Keeps M s (ownSetUplinkTiming payload s).1 := by
  unfold ownSetUplinkTiming
  split
  · exact .of_uplink
      { UplinkKept.refl (M := M) s.uplink with
        range := fun _ => clamp_inRange _ (by decide)
        port := fun x => absurd hp x }
  · exact .refl s

/-! ### RESTART (R179) -/

theorem Keeps.restartConnector {n : Conn} (hT : Touches M n) : Keeps M s (s.restartConnector n) := by
  have rested : Keeps M s (s.updSeq n fun r => { r with idleCount := 0, restCount := 0, released := false }) :=
    .updSeqRest s hT.1 rfl rfl
  have opening (t : State) : Keeps M t (((t.enterOpening n).updSeq n fun r =>
      { r with attempt := 1, openPending := false, settleDeadline := none }).setOpenSlot n) :=
    (Keeps.enterOpening t hT).trans ((Keeps.updSeqRest _ hT.1 rfl rfl).trans (.setOpenSlot _ hT))
  unfold State.restartConnector
  dsimp only
  split
  iterate 4 exact rested.trans (opening _)
  all_goals exact rested

theorem Keeps.restartSequencer (hT : ∀ n, Touches M n) : Keeps M s s.restartSequencer :=
  (Keeps.parkStop false s).trans (.foldl _ _ (fun t n _ => .restartConnector t (hT n)) _)

theorem Pedestal.restart_sound {e : Pedestal} (h : e.Sound) : e.restart.Sound := by
  obtain ⟨link, poll, -⟩ := h
  refine ⟨?_, ?_, by simp [Pedestal.restart]⟩
  · cases hc : e.configured <;> simp [Pedestal.restart, hc]
    exact link.1 hc
  · cases hc : e.configured <;> simp [Pedestal.restart, hc]
    rw [link.1 hc]
    simp

theorem tget_map {α β : Type} {k : Nat} (f : α → β) (t : Table α k) (i : Fin k) : tget (t.map f) i = f (tget t i) := by
  simp [tget]

theorem Keeps.restartLine (ha : .arbiter ∈ M) (hF : ∀ p, Fails M p) : Keeps M s s.restartLine := by
  refine (Keeps.discardInflight (fun _ => true) s).trans (.of_line
    { queue := fun p _ => ?_
      sound := fun p _ h => ?_
      stirred := fun p x => absurd (hF p).serves.entry x
      distinct := fun d p q k cp cq kp kq => ?_
      flight := id
      range := id
      ped := fun p x => absurd (hF p).serves.ped x
      openSet := fun _ _ => rfl
      rest := fun x => absurd ha x })
  · rw [tget_map]; simp [Pedestal.restart]
  · rw [tget_map]; exact Pedestal.restart_sound h
  · rw [tget_map] at cp cq kp kq
    exact d p q k cp cq kp kq

theorem Keeps.restartClassifier : Keeps M s s.restartClassifier :=
  (Keeps.of_classifier (s := s) (c := { s.classifier with passUp := [] }) fun _ => by simp).trans (.transmit _)

theorem Keeps.restartAuth : Keeps M s s.restartAuth := .heldShrinks s (List.nil_sublist _)

theorem Keeps.restartSession {n : Conn} (lost : Conn → Bool) (hn : .conn n ∈ M) (hh : s.auth.held = []) :
    Keeps M s (s.restartSession lost n) :=
  .ite (fun h => .setSessInitial s hn fun _ => .inr ⟨h, by simp [hh]⟩) fun _ => .closeAtOnce _ _ s hn

@[simp] theorem State.closeAtOnce_auth (why : EndReason) (lost : Bool) (n : Conn) (s : State) :
    (s.closeAtOnce why lost n).auth = s.auth := by
  unfold State.closeAtOnce
  split <;> simp

@[simp] theorem State.restartSession_auth (lost : Conn → Bool) (n : Conn) (s : State) :
    (s.restartSession lost n).auth = s.auth := by
  unfold State.restartSession
  split <;> simp

theorem Keeps.restartSetpoint (n : Conn) : Keeps M s (s.restartSetpoint n) :=
  (Keeps.updSetpoint n _ s).trans (.place n _)

theorem Keeps.restartActivity (p : Ped) (hp : .ped p ∈ M) : Keeps M s (s.restartActivity p) :=
  .ite (fun _ => .localActivity p s hp) fun _ => .refl s

theorem Keeps.restartBlocks (ha : .arbiter ∈ M) (hF : ∀ p, Fails M p) : Keeps M s s.restartBlocks := by
  have hT := (hF 0).touches
  have line := (Keeps.restartSequencer s hT).trans (.restartLine _ ha hF)
  have auth := line.trans ((Keeps.restartClassifier _).trans (.restartAuth _))
  have sessions (t : State) (h : t.auth.held = []) :
      Keeps M t (allConns.foldl (State.restartSession s.linkLost) t) :=
    .foldl_of (fun u => u.auth.held = []) _ _
      (fun u n _ hu => ⟨.restartSession u _ (hT n).1 hu, by rw [State.restartSession_auth]; exact hu⟩) t h
  have setpoints (t : State) : Keeps M t (allConns.foldl State.restartSetpoint t) :=
    .foldl _ _ (fun t n _ => .restartSetpoint t n) t
  have activity (t : State) : Keeps M t (allPeds.foldl State.restartActivity t) :=
    .foldl _ _ (fun t p _ => .restartActivity t p (hF p).serves.ped) t
  exact (auth.trans (sessions _ rfl)).trans ((setpoints _).trans (activity _))

end Sys2Proof.Machine
end

section
/-! SUPPORT and PROOF. What every command keeps: RESTART, the frames from the host, and the whole catalogue. -/

namespace Sys2Proof.Machine

variable {M : Set Privilege} (payload : Frame) (s : State)

/-! ### RESTART's events (R179) -/

theorem Keeps.setNotice (b : Bool) (he : .events ∈ M) (hn : .notice ∈ M) :
    Keeps M s (s.updUplink fun u => { u with noticePending := b }) :=
  .of_uplink { UplinkKept.refl (M := M) s.uplink with
    notice := fun x => absurd hn x
    events := fun x => absurd he x }

theorem Keeps.testNotice (before : Bool) (he : .events ∈ M) (hn : .notice ∈ M) :
    Keeps M s (s.testAttention before) :=
  .ite (fun _ => .refl s) fun _ => .setNotice s _ he hn

/-- RESTART's effects on the blocks take no event out of the pending set. -/
theorem State.restartBlocks_events : UplinkKept {x | x ≠ .events} s.uplink s.restartBlocks.uplink := by
  refine (Keeps.restartBlocks (M := {x | x ≠ .events}) s ?_ fun p => ⟨⟨?_, ?_, fun l => ?_⟩,
    fun n => ⟨?_, ?_⟩⟩).uplink <;>
    simp

theorem keeps_restart (ha : .arbiter ∈ M) (he : .events ∈ M) (hF : ∀ p, Fails M p) : Keeps M s (ownRestart s).1 := by
  have sub : M ⊆ insert .notice M := Set.subset_insert _ _
  have cleared : Keeps (insert .notice M) s (s.updUplink fun u => { u with pendingSet := EventKind.restarted.only }) :=
    .of_uplink { UplinkKept.refl (M := insert .notice M) s.uplink with
      notice := fun x => absurd (Set.mem_insert _ _) x
      events := fun x => absurd (sub he) x }
  have blocks := (Keeps.restartBlocks (M := M)
    (s.updUplink fun u => { u with pendingSet := EventKind.restarted.only }) ha hF).mono sub
  obtain ⟨-, -, quiet⟩ := (State.restartBlocks_events
    (s.updUplink fun u => { u with pendingSet := EventKind.restarted.only })).events (by simp)
  refine Keeps.giveBack (x := .notice) ?_ trivial (fun _ e => absurd e (by simp)) (fun _ e => absurd e (by simp))
    (fun _ sound => ?_) fun e => absurd e (by simp)
  · have before := (cleared.trans blocks).trans (.testNotice _ s.attention (sub he) (Set.mem_insert _ _))
    unfold ownRestart
    dsimp only
    split
    · exact before.trans (.setNotice _ true (sub he) (Set.mem_insert _ _))
    · exact before
  · unfold ownRestart
    dsimp only
    generalize hu : (s.updUplink fun u => { u with pendingSet := EventKind.restarted.only }).restartBlocks =
      t at quiet ⊢
    have attention : (t.testAttention s.attention).attention = t.attention := by
      simp only [State.testAttention]
      split <;> rfl
    split
    · next h =>
      exact fun _ => (UplinkState.shares_iff_attention (t.testAttention s.attention)).2 h
    · next h =>
      rw [attention, Bool.not_eq_true] at h
      intro pending
      exfalso
      unfold State.testAttention at pending
      split at pending
      · next same =>
        have none_ : ¬ t.uplink.shares := by rw [UplinkState.shares_iff_attention, h]; simp
        have := (UplinkState.shares_iff_attention s).1 (sound ((quiet none_).symm.trans pending))
        rw [same, h] at this
        cases this
      · simp [h] at pending

/-! ### Frames from the host (R170 to R172) -/

section
variable (hp : .port ∈ M)
include hp

theorem Keeps.framingError : Keeps M s s.framingError := by
  have counted : Keeps M s (s.updUplink fun u => { u with framingErrors := satInc u.framingErrors }) :=
    .of_uplink { UplinkKept.refl (M := M) s.uplink with port := fun x => absurd hp x }
  exact counted.trans (.raise _ _)

theorem Keeps.uplinkCheckFailed : Keeps M s s.uplinkCheckFailed := by
  have counted : Keeps M s (s.updUplink fun u => { u with checkFails := satInc u.checkFails }) :=
    .of_uplink { UplinkKept.refl (M := M) s.uplink with port := fun x => absurd hp x }
  exact counted.trans (.raise _ _)

theorem Keeps.overrun : Keeps M s s.overrun := by
  have counted : Keeps M s (s.updUplink fun u => { u with overruns := satInc u.overruns }) :=
    .of_uplink { UplinkKept.refl (M := M) s.uplink with port := fun x => absurd hp x }
  exact counted.trans (.raise _ _)

theorem Keeps.goodFrame : Keeps M s s.goodFrame :=
  .of_uplink { UplinkKept.refl (M := M) s.uplink with port := fun x => absurd hp x }

theorem Keeps.countRequest : Keeps M s s.countRequest :=
  .of_uplink { UplinkKept.refl (M := M) s.uplink with port := fun x => absurd hp x }

/-- An answer, in a state whose response queue the owner left as it found it. -/
theorem Keeps.answer {t : State} (kind tag : Byte) (r : Reply) (h : Keeps M s t)
    (same : t.uplink.responses = s.uplink.responses) (room : s.responseRoom = true) :
    Keeps M s (t.respond kind tag r) := by
  refine h.trans (.of_uplink { UplinkKept.refl (M := M) t.uplink with
    responses := fun _ => ?_
    port := fun x => absurd hp x })
  have room : s.uplink.responses.length < 8 := of_decide_eq_true room
  simp only [same, List.length_append, List.length_singleton]
  omega

theorem Keeps.takeFrame {owner : State → State × Reply} (kind tag : Byte)
    (h : Keeps M s.goodFrame.countRequest (owner s.goodFrame.countRequest).1)
    (same : (owner s.goodFrame.countRequest).1.uplink.responses = s.uplink.responses) :
    Keeps M s (s.takeFrame kind tag payload owner) :=
  .ite (fun _ => .framingError s hp) fun _ => .ite
    (fun room => .answer s hp kind tag _ (((Keeps.goodFrame s hp).trans (.countRequest _ hp)).trans h) same room)
    fun _ => (Keeps.goodFrame s hp).trans (.overrun _ hp)

end

theorem keeps_unknownRequest (kind tag : Byte) (hp : .port ∈ M) : KeepsResult M s
    (execUnknownRequest kind tag payload s) := by
  unfold execUnknownRequest
  split
  · exact .same s
  · exact .next (.takeFrame payload s hp _ _ (.refl _) rfl)

theorem keeps_requestOverrun (kind tag : Byte) (hp : .port ∈ M) :
    KeepsResult M s (execRequestOverrun kind tag payload s) := by
  unfold execRequestOverrun
  split
  · exact .same s
  · exact .next ((Keeps.goodFrame s hp).trans (.overrun _ hp))

theorem keeps_uplinkFramingError (declared : BitVec 16) (hp : .port ∈ M) :
    KeepsResult M s (execUplinkFramingError declared s) := by
  unfold execUplinkFramingError
  split
  · exact .next (.framingError s hp)
  · exact .same s

theorem keeps_uplinkTruncated (received : Frame) (hp : .port ∈ M) : KeepsResult M s
    (execUplinkTruncated received s) := by
  unfold execUplinkTruncated
  split
  · exact .next (.framingError s hp)
  · exact .same s

theorem keeps_uplinkCheckFailure (frame : Frame) (hp : .port ∈ M) :
    KeepsResult M s (execUplinkCheckFailure frame s) := by
  unfold execUplinkCheckFailure
  split
  · exact .next (.uplinkCheckFailed s hp)
  · exact .same s

/-! ### The owners of the catalogue (10.6) -/

/-- The owner of a request: what is done with it when it is taken. Of a command that is no request, none is called. -/
def ownerOf : Instr → State → State × Reply
  | .setPedestal _ payload => ownSetPedestal payload
  | .setLineTiming _ payload => ownSetLineTiming payload
  | .clearPedestal _ payload => pedOperand payload ownClearPedestal
  | .readPedestal _ payload => pedOperand payload fun p => readOwner fun s => s.pedestalPayload p
  | .setClass _ payload => ownSetClass payload
  | .passDown _ payload => ownPassDown payload
  | .display _ payload => ownDisplay payload
  | .readClasses _ payload => noOperands payload (readOwner State.classesPayload)
  | .readPassThrough _ payload => pedOperand payload fun p => readOwner fun s => s.passThroughPayload p
  | .setSequencing _ payload => ownSetSequencing payload
  | .lockout _ payload => connOperand payload ownLockout
  | .unlock _ payload => connOperand payload ownUnlock
  | .clearFault _ payload => connOperand payload ownClearFault
  | .parkStop _ payload => noOperands payload ownParkStop
  | .parkResume _ payload => noOperands payload ownParkResume
  | .readConnector _ payload => connOperand payload fun n => readOwner fun s => s.connectorPayload n
  | .setAuthPolicy _ payload => ownSetAuthPolicy payload
  | .loadTokens _ payload => ownLoadTokens payload
  | .loadWatch _ payload => ownLoadWatch payload
  | .clearTokens _ payload => noOperands payload ownClearTokens
  | .readToken _ payload => ownReadToken payload
  | .readAuth _ payload => noOperands payload (readOwner State.authPayload)
  | .authAnswer _ payload => ownAuthAnswer payload
  | .remoteStart _ payload => ownRemoteStart payload
  | .remoteStop _ payload => connOperand payload ownRemoteStop
  | .setSessionTiming _ payload => ownSetSessionTiming payload
  | .readSession _ payload => connOperand payload fun n => readOwner fun s => s.sessionPayload n
  | .loadPlan _ payload => ownLoadPlan payload
  | .clearPlan _ payload => slotOperand payload ownClearPlan
  | .readPlan _ payload => slotOperand payload fun k => readOwner fun s => s.planReadPayload k
  | .setTime _ payload => ownSetTime payload
  | .setBands _ payload => ownSetBands payload
  | .latchNow _ payload => noOperands payload fun s => (s.nextEpoch, Reply.bare .ok)
  | .readClock _ payload => noOperands payload (readOwner State.clockPayload)
  | .setHeadroom _ payload => ownSetHeadroom payload
  | .setSiteLimit _ payload => ownSetSiteLimit payload
  | .curtail _ payload => ownCurtail payload
  | .setSetpointTiming _ payload => ownSetSetpointTiming payload
  | .readAllocation _ payload => noOperands payload (readOwner State.allocationPayload)
  | .readSettlement _ payload => noOperands payload ownReadSettlement
  | .discardSettlement _ payload => noOperands payload ownDiscardSettlement
  | .readEvents _ payload => noOperands payload ownReadEvents
  | .setEventEnable _ payload => ownSetEventEnable payload
  | .setUplinkTiming _ payload => ownSetUplinkTiming payload
  | .readUplink _ payload => noOperands payload (readOwner State.uplinkPayload)
  | .restart _ payload => noOperands payload ownRestart
  | _ => refuseWith .badRequest

/-- A request of the catalogue is a frame taken for its owner. -/
theorem exec_request {c : Instr} {place : Nat} {tag : Byte} {payload : Frame} (s : State)
    (h : requestOf c = some (place, tag, payload)) :
    exec c s = .next (s.takeRequest place tag payload (ownerOf c)) := by
  cases c <;> cases h <;> rfl

/-! ### What each command may touch -/

/-- What a command may touch, in the state it finds: any connector and pedestal, and the line; the port when `port`
says so; the tables, the watch bitmap, the plan slots, the epoch and the event sets where it is one that writes them.
Lists and tokens that are out of form before the command are not asked to be in form after it. -/
def privileges (port : Prop) (c : Instr) (s : State) : Set Privilege := {x |
  match x with
  | .conn _ | .ped _ | .entry _ | .arbiter => True
  | .port => port
  | .openLocked _ | .lossAt _ | .notice => False
  | .queries => ¬ s.SessionsSound
  | .tokenForm => ¬ s.TokensFit
  | .tokenTable => ∃ tag body, c = .loadTokens tag body ∨ c = .clearTokens tag body
  | .watchMap => ∃ tag body, c = .loadWatch tag body
  | .planSlots => ∃ tag body, c = .loadPlan tag body ∨ c = .clearPlan tag body
  | .epoch => c = .wallClockMinute ∨ ∃ tag body, c = .setTime tag body ∨ c = .setBands tag body ∨ c = .latchNow tag body
  | .events => c = .noticeAttention ∨
      ∃ tag body, c = .readEvents tag body ∨ c = .setEventEnable tag body ∨ c = .restart tag body}

theorem privileges_fails (port : Prop) (c : Instr) (s : State) (p : Ped) : Fails (privileges port c s) p :=
  ⟨⟨trivial, trivial, fun _ => trivial⟩, fun _ => ⟨trivial, trivial⟩⟩

theorem privileges_touches (port : Prop) (c : Instr) (s : State) (n : Conn) : Touches (privileges port c s) n :=
    ⟨trivial, trivial⟩

theorem keeps_ownerOf (port : Prop) (c : Instr) (s t : State)
    (hp : ∀ tag body, c = .setUplinkTiming tag body → port) (hs : t.SessionsSound ↔ s.SessionsSound)
    (hx : t.TokensFit ↔ s.TokensFit) :
    Keeps (privileges port c s) t (ownerOf c t).1 := by
  have hF := privileges_fails port c s
  have hT := privileges_touches port c s
  have sound : .queries ∉ privileges port c s → t.SessionsSound := fun x => hs.2 (not_not.1 x)
  have hq : .queries ∉ privileges port c s → t.HeldSound := fun x => (sound x).1
  have hw : .queries ∉ privileges port c s → t.WaitingSound := fun x => (sound x).2.1
  have ht : .tokenForm ∉ privileges port c s → t.TokensFit := fun x => hx.2 (not_not.1 x)
  have ha : .arbiter ∈ privileges port c s := trivial
  cases c with
  | setPedestal _ payload => exact keeps_setPedestal payload t hF
  | setLineTiming _ payload => exact keeps_setLineTiming payload t ha
  | clearPedestal _ payload => exact keeps_pedOperand payload fun p => keeps_clearPedestal t p (hF p)
  | readPedestal _ payload => exact keeps_pedOperand payload fun p => .refl t
  | setClass _ payload => exact keeps_setClass payload t
  | passDown _ payload => exact keeps_passDown payload t fun p => (hF p).serves.ped
  | display _ payload => exact keeps_display payload t fun p => (hF p).serves.ped
  | readClasses _ payload => exact keeps_noOperands payload (.refl t)
  | readPassThrough _ payload => exact keeps_pedOperand payload fun p => .refl t
  | setSequencing _ payload => exact keeps_setSequencing payload t
  | lockout _ payload => exact keeps_connOperand payload fun n => keeps_lockout t n (hT n)
  | unlock _ payload => exact keeps_connOperand payload fun n => keeps_unlock t n (hT n)
  | clearFault _ payload => exact keeps_connOperand payload fun n => keeps_clearFault t n (hT n)
  | parkStop _ payload => exact keeps_noOperands payload (keeps_parkStop t hT hq)
  | parkResume _ payload => exact keeps_noOperands payload (keeps_parkResume t hT)
  | readConnector _ payload => exact keeps_connOperand payload fun n => .refl t
  | setAuthPolicy _ payload => exact keeps_setAuthPolicy payload t
  | loadTokens tag payload => exact keeps_loadTokens payload t ⟨tag, payload, .inl rfl⟩
  | loadWatch tag payload => exact keeps_loadWatch payload t ⟨tag, payload, rfl⟩
  | clearTokens tag payload => exact keeps_noOperands payload (keeps_clearTokens t ⟨tag, payload, .inr rfl⟩)
  | readToken _ payload => exact keeps_readToken payload t
  | readAuth _ payload => exact keeps_noOperands payload (.refl t)
  | authAnswer _ payload => exact keeps_authAnswer payload t hT hq ht
  | remoteStart _ payload => exact keeps_remoteStart payload t hT
  | remoteStop _ payload => exact keeps_connOperand payload fun n => keeps_remoteStop t n (hT n)
  | setSessionTiming _ payload => exact keeps_setSessionTiming payload t
  | readSession _ payload => exact keeps_connOperand payload fun n => .refl t
  | loadPlan tag payload => exact keeps_loadPlan payload t ⟨tag, payload, .inl rfl⟩
  | clearPlan tag payload => exact keeps_slotOperand payload fun k => keeps_clearPlan t k ⟨tag, payload, .inr rfl⟩
  | readPlan _ payload => exact keeps_slotOperand payload fun k => .refl t
  | setTime tag payload => exact keeps_setTime payload t ha (.inr ⟨tag, payload, .inl rfl⟩)
  | setBands tag payload => exact keeps_setBands payload t ha (.inr ⟨tag, payload, .inr (.inl rfl)⟩)
  | latchNow tag payload =>
    exact keeps_noOperands payload (.nextEpoch t ha (.inr ⟨tag, payload, .inr (.inr rfl)⟩))
  | readClock _ payload => exact keeps_noOperands payload (.refl t)
  | setHeadroom _ payload => exact keeps_setHeadroom payload t
  | setSiteLimit _ payload => exact keeps_setSiteLimit payload t
  | curtail _ payload => exact keeps_curtail payload t
  | setSetpointTiming _ payload => exact keeps_setSetpointTiming payload t
  | readAllocation _ payload => exact keeps_noOperands payload (.refl t)
  | readSettlement _ payload => exact keeps_noOperands payload (keeps_readSettlement t)
  | discardSettlement _ payload =>
    exact keeps_noOperands payload (keeps_discardSettlement t (fun n => (hT n).1) hw)
  | readEvents tag payload => exact keeps_noOperands payload (keeps_readEvents t (.inr ⟨tag, payload, .inl rfl⟩))
  | setEventEnable tag payload => exact keeps_setEventEnable payload t (.inr ⟨tag, payload, .inr (.inl rfl)⟩)
  | setUplinkTiming tag payload => exact keeps_setUplinkTiming payload t (hp tag payload rfl)
  | readUplink _ payload => exact keeps_noOperands payload (.refl t)
  | restart tag payload => exact keeps_noOperands payload (keeps_restart t ha (.inr ⟨tag, payload, .inr (.inr rfl)⟩) hF)
  | _ => exact .refl t

theorem ownerOf_responses (c : Instr) (s : State) : (ownerOf c s).1.uplink.responses = s.uplink.responses := by
  by_cases h : ∃ tag body, c = .setUplinkTiming tag body
  · obtain ⟨tag, body, rfl⟩ := h
    simp only [ownerOf, ownSetUplinkTiming]
    split <;> rfl
  · exact ((keeps_ownerOf False c s s (fun tag body e => h ⟨tag, body, e⟩) Iff.rfl Iff.rfl).uplink.port id).1

/-- Every command but power-on and the reset input keeps everything but what it may touch. -/
theorem exec_keeps (c : Instr) (s : State) (hr : c ≠ .powerOn) (hi : c ≠ .resetInput) :
    KeepsResult (privileges True c s) s (exec c s) := by
  have hF := privileges_fails True c s
  have hT := privileges_touches True c s
  have hp : .port ∈ privileges True c s := trivial
  have ha : .arbiter ∈ privileges True c s := trivial
  have request {place : Nat} {tag : Byte} {payload : Frame} (h : requestOf c = some (place, tag, payload)) :
      KeepsResult (privileges True c s) s (exec c s) := by
    rw [exec_request s h]
    exact .next (.takeFrame payload s hp _ tag (keeps_ownerOf True c s _ (fun _ _ _ => trivial) Iff.rfl Iff.rfl)
      (ownerOf_responses c _))
  cases c with
  | powerOn => exact absurd rfl hr
  | resetInput => exact absurd rfl hi
  | unknownRequest kind tag payload => exact keeps_unknownRequest payload s kind tag hp
  | requestOverrun kind tag payload => exact keeps_requestOverrun payload s kind tag hp
  | uplinkFramingError declared => exact keeps_uplinkFramingError s declared hp
  | uplinkTruncated received => exact keeps_uplinkTruncated s received hp
  | uplinkCheckFailure frame => exact keeps_uplinkCheckFailure s frame hp
  | silenceDeadline => exact keeps_silenceDeadline s hp
  | noticeAttention => exact keeps_noticeAttention s (.inl rfl)
  | responseStart => exact keeps_responseStart s hp
  | authQuery => exact keeps_authQuery s
  | authQuerySent => exact keeps_authQuerySent s
  | passUp => exact keeps_passUp s
  | passUpSent => exact keeps_passUpSent s
  | sendLatch => exact keeps_sendLatch s ha
  | sendRollCall => exact keeps_sendRollCall s ha
  | sendPoll => exact keeps_sendPoll s ha
  | sendOpen => exact keeps_sendOpen s ha
  | sendDecrease => exact keeps_sendDecrease s ha
  | sendClose => exact keeps_sendClose s ha fun p => (hF p).serves.ped
  | sendDisplay => exact keeps_sendDisplay s ha fun p => (hF p).serves.ped
  | sendPassDown => exact keeps_sendPassDown s ha fun p => (hF p).serves.ped
  | sendClear => exact keeps_sendClear s ha fun p => (hF p).serves.ped
  | sendSetpoint => exact keeps_sendSetpoint s ha
  | statusReply frame => exact .next (.receive frame s hF)
  | ackReply frame => exact .next (.receive frame s hF)
  | nakReply frame => exact .next (.receive frame s hF)
  | badReply frame => exact .next (.receive frame s hF)
  | strayFrame frame => exact .next (.receive frame s hF)
  | replyTimeout => exact .next (.replyDeadline s hF)
  | rollCallSlot answer => exact .next (.endSlot answer s ha hF)
  | rollCallDue => exact keeps_rollCallDue s
  | pollDue p => exact keeps_pollDue p s
  | pollAged p => exact keeps_pollAged p s
  | queryDeadline n =>
    exact keeps_queryDeadline n s (hT n) (fun x => (not_not.1 x).1) fun x => not_not.1 x
  | settleDeadline n => exact keeps_settleDeadline n s
  | readyDeadline n => exact keeps_readyDeadline n s (hT n)
  | maxDuration n => exact keeps_maxDuration n s (hT n)
  | stopDeadline n => exact keeps_stopDeadline n s (hT n)
  | minuteTick => exact keeps_minuteTick s hT
  | wallClockMinute => exact keeps_wallClockMinute s ha (.inl rfl)
  | renewalDue n => exact keeps_renewalDue n s
  | holdExpiry n => exact keeps_holdExpiry n s
  | curtailExpiry => exact keeps_curtailExpiry s
  | broadcastSent => exact keeps_broadcastSent s ha
  | uplinkFrameSent => exact keeps_uplinkFrameSent s
  | _ => exact request rfl

end Sys2Proof.Machine
end

section
/-! SUPPORT and PROOF. The state after reset, and the statements about every step: each invariant holds after power-on
and
is one of the things every other command keeps. -/

namespace Sys2Proof.Machine

/-! ### The queue of commands, power-on and the state after reset -/

/-- Settles O1. -/
theorem queueFrontCommandRuns : Obligations.QueueFrontCommandRuns := fun _ _ => rfl

/-- The actions at reset: the four codes that have an owner go to it (R26, R27). -/
theorem tget_initialActions (c : Code) :
    tget initialActions c = if 1 ≤ c.val ∧ c.val ≤ 4 then .toOwner else .up := by
  decide +revert

section
variable (s : State)

@[simp] theorem State.reset_ped (p : Ped) : State.reset.ped p = Pedestal.initial := tget_replicate _ p
@[simp] theorem State.reset_slots (n : Conn) : State.reset.slots n = SafetySlots.initial := tget_replicate _ n
@[simp] theorem State.reset_counts (p : Ped) : State.reset.counts p = ⟨0, 0, 0⟩ := tget_replicate _ p
@[simp] theorem State.reset_seq (n : Conn) : State.reset.seq n = SeqRecord.initial := tget_replicate _ n
@[simp] theorem State.reset_sess (n : Conn) : State.reset.sess n = Session.initial := tget_replicate _ n
@[simp] theorem State.reset_decision (n : Conn) : State.reset.decision n = none := tget_replicate _ n
@[simp] theorem State.reset_plan (k : PlanSlot) : State.reset.plan k = Plan.initial := tget_replicate _ k
@[simp] theorem State.reset_config (p : Ped) : State.reset.config p = PedConfig.initial := tget_replicate _ p
@[simp] theorem State.reset_setpoint (n : Conn) : State.reset.setpoint n = Setpoint.initial := tget_replicate _ n

@[simp] theorem State.powerOn_ped (p : Ped) : s.powerOn.ped p = Pedestal.initial := tget_replicate _ p

end

/-- Settles O2. -/
theorem powerOnGivesTheInitialValues : Obligations.PowerOnGivesTheInitialValues := by
  intro s
  exact ⟨s.powerOn, rfl, rfl, rfl, fun p => ⟨State.reset_ped p, State.reset_counts p, State.reset_config p⟩,
    fun n => ⟨State.reset_seq n, State.reset_sess n, State.reset_slots n, State.reset_setpoint n,
      State.reset_decision n⟩,
    State.reset_plan, tget_replicate _, tget_replicate _, tget_initialActions, rfl, rfl, rfl, rfl, rfl, rfl, rfl, rfl,
    rfl, rfl, rfl, rfl, rfl, rfl, rfl, rfl, rfl, rfl, rfl, rfl, rfl, rfl, rfl, rfl, rfl, rfl, rfl, tget_replicate _,
      rfl,
    rfl, rfl, rfl, rfl, rfl, rfl, rfl, rfl⟩

/-! ### The invariants as conditions on the blocks -/

theorem State.parametersInRange_iff (s : State) :
    s.ParametersInRange ↔ s.line.InRange ∧ s.sequencer.InRange ∧ s.auth.InRange ∧ s.sessions.InRange ∧
      s.metering.headroom ≤ 10000 ∧ s.alloc.InRange ∧ (5 ≤ s.uplink.silenceTime ∧ s.uplink.silenceTime ≤ 300) ∧
      s.clock.InRange := by
  simp only [State.ParametersInRange, LineState.InRange, SequencerState.InRange, AuthState.InRange,
    SessionTable.InRange, AllocState.InRange, ClockState.InRange, PedConfig.InRange, State.config]
  constructor
  · rintro ⟨h₁, h₂, h₃, h₄, h₅, h₆, h₇, h₈, h₉, h₁₀, h₁₁, h₁₂, h₁₃, h₁₄, h₁₅, h₁₆, h₁₇, h₁₈⟩
    exact ⟨⟨h₁, h₂, h₃⟩, ⟨h₄, h₅⟩, ⟨h₆, h₇⟩, ⟨h₈, h₉, h₁₀⟩, h₁₁, ⟨h₁₂, h₁₃, h₁₄, h₁₅, h₁₇⟩, h₁₆, h₁₈⟩
  · rintro ⟨⟨h₁, h₂, h₃⟩, ⟨h₄, h₅⟩, ⟨h₆, h₇⟩, ⟨h₈, h₉, h₁₀⟩, h₁₁, ⟨h₁₂, h₁₃, h₁₄, h₁₅, h₁₇⟩, h₁₆, h₁₈⟩
    exact ⟨h₁, h₂, h₃, h₄, h₅, h₆, h₇, h₈, h₉, h₁₀, h₁₁, h₁₂, h₁₃, h₁₄, h₁₅, h₁₆, h₁₇, h₁₈⟩

theorem State.pedestalsSound_iff (s : State) :
    s.PedestalsSound ↔ (∀ p, (s.ped p).Sound) ∧ SlotsDistinct s.line.peds ∧
      FlightSound s.line.inflight s.line.window := by
  constructor
  · rintro ⟨link, poll, resync, slots, broadcast, window⟩
    exact ⟨fun p => ⟨link p, poll p, resync p⟩, slots, broadcast, window⟩
  · rintro ⟨sound, slots, broadcast, window⟩
    exact ⟨fun p => (sound p).1, fun p => (sound p).2.1, fun p => (sound p).2.2, slots, broadcast, window⟩

/-! ### The state after reset

Power-on leaves every invariant that is not about the line as the state after reset has it. -/

theorem State.reset_queuesBounded : State.reset.QueuesBounded :=
  ⟨fun p => by simp [Pedestal.initial], by decide, by decide, by decide, by decide⟩

theorem State.reset_settlementsNumbered : State.reset.SettlementsNumbered :=
  ⟨fun q hq => by
    have : q = 1 := by simpa [State.powerOn, State.reset] using hq
    omega, trivial, fun _ => rfl⟩

theorem State.reset_energyAddsUp : State.reset.EnergyAddsUp := fun n => by
  rw [show State.reset.sess n = Session.initial from State.reset_sess n]
  exact Session.initial_energyAddsUp

theorem State.reset_openUnlocked : State.reset.OpenUnlocked := fun n _ => by
  rw [show State.reset.seq n = SeqRecord.initial from State.reset_seq n]
  rfl

theorem State.reset_noticeSound : State.reset.NoticeSound := fun h => absurd h (by decide)

theorem State.reset_sessionsSound : State.reset.SessionsSound := by
  have sess (n : Conn) : State.reset.sess n = Session.initial := State.reset_sess n
  have plan (k : PlanSlot) : State.reset.plan k = Plan.initial := State.reset_plan k
  refine ⟨⟨List.nodup_nil, fun h hh => absurd hh List.not_mem_nil⟩, ⟨List.nodup_nil, fun n => ?_, fun n hn => ?_,
    fun h => absurd rfl h⟩, fun k => ?_⟩
  · rw [sess]
    exact ⟨fun h => absurd h List.not_mem_nil, fun h => absurd h (by decide)⟩
  · rw [sess] at hn
    exact absurd hn (by decide)
  · rw [plan]
    simp only [sess]
    exact ⟨(List.countP_eq_zero.2 fun n _ => by simp [Session.pricedOn, Session.initial]).symm, fun h =>
      absurd h (by decide)⟩

theorem State.reset_tokensFit : State.reset.TokensFit := by
  refine (State.tokensFit_iff _).2 ⟨fun i e he => ?_, fun h hh => absurd hh List.not_mem_nil, fun n => ?_,
    fun r hr => absurd hr List.not_mem_nil⟩
  · rw [show tget State.reset.auth.tokens i = none from tget_replicate _ i] at he
    cases he
  · rw [show State.reset.sess n = Session.initial from State.reset_sess n]
    exact Session.initial_tokensFit

theorem State.reset_parametersInRange : State.reset.ParametersInRange := by
  refine (State.parametersInRange_iff _).2 ⟨?_, ?_, ?_, ?_, by decide, ⟨by decide, by decide, by decide, by decide,
    fun p => ?_⟩, by decide, by decide, fun w hw => absurd hw (by decide +revert), trivial, by decide⟩
  · exact ⟨by decide, by decide, by decide⟩
  · exact ⟨by decide, by decide⟩
  · exact ⟨by decide, by decide⟩
  · exact ⟨by decide, by decide, by decide⟩
  · rw [show tget State.reset.alloc.configs p = PedConfig.initial from State.reset_config p]
    exact PedConfig.initial_inRange

theorem State.pedestalsSound_of_initial {s : State} (hp : ∀ p, s.ped p = Pedestal.initial)
    (hf : FlightSound s.line.inflight s.line.window) : s.PedestalsSound := by
  refine (State.pedestalsSound_iff _).2 ⟨fun p => ?_, fun p q k h => ?_, hf⟩
  · rw [hp]
    exact Pedestal.initial_sound
  · rw [show tget s.line.peds p = Pedestal.initial from hp p] at h
    exact absurd h (by decide)

/-- Settles O3. -/
theorem resetMeetsEveryInvariant : Obligations.ResetMeetsEveryInvariant :=
  ⟨State.reset_queuesBounded, State.reset_energyAddsUp, State.reset_openUnlocked, State.reset_settlementsNumbered,
    State.reset_sessionsSound, State.reset_noticeSound, State.reset_tokensFit, State.reset_parametersInRange,
    State.pedestalsSound_of_initial State.reset_ped ⟨fun _ h => absurd h (by simp [State.reset]),
      fun _ h => absurd h (by simp [State.reset])⟩⟩

/-! ### Every step -/

/-- A step lets a millisecond pass, or runs a command on the state with the rest of the queue. -/
theorem step_cases {s t : State} (h : step s = .next t) :
    t = s.advanceTo (s.clock.ms + 1) ∨ ∃ c rest, exec c { s with pending := rest } = .next t := by
  unfold step at h
  split at h
  · cases h
    exact .inl rfl
  · next c rest _ => exact .inr ⟨c, rest, h⟩

/-- An invariant that does not name the commands that wait, that power-on leaves and every other command keeps, is kept
by
every step. -/
theorem step_preserves {I : State → Prop} (hpending : ∀ s l, I s → I { s with pending := l })
    (hpower : ∀ s, I s → I s.powerOn) (hkept : ∀ c s t, Keeps (privileges True c s) s t → I s → I t) {s t : State}
    (hs : I s) (h : step s = .next t) : I t := by
  rcases step_cases h with rfl | ⟨c, rest, h⟩
  · exact hkept .minuteTick s _ (.advanceTo _ s) hs
  · have hs := hpending s rest hs
    by_cases hp : c = .powerOn
    · subst hp; cases h; exact hpower _ hs
    · by_cases hi : c = .resetInput
      · subst hi; cases h; exact hpower _ hs
      · exact hkept c _ t (exec_keeps c _ hp hi t h) hs

/-- Settles O4. -/
theorem stepKeepsQueuesBoundedAndNumbered : Obligations.StepKeepsQueuesBoundedAndNumbered := by
  refine ⟨fun s t => step_preserves (fun _ _ => id) (fun _ _ => State.reset_queuesBounded) fun c s t k h => ?_,
    fun s t => step_preserves (fun _ _ => id) (fun _ _ => State.reset_settlementsNumbered)
      fun c s t k => k.settlement.numbered⟩
  obtain ⟨queues, passUp, held, responses, records⟩ := h
  exact ⟨fun p => k.line.queue p (queues p), k.passUp passUp, k.auth.heldLength held, k.uplink.responses responses,
    k.settlement.length records⟩

/-- Settles O5. -/
theorem stepKeepsEnergyLocksAndNotice : Obligations.StepKeepsEnergyLocksAndNotice :=
  ⟨fun _ _ => step_preserves (fun _ _ => id) (fun _ _ => State.reset_energyAddsUp)
      fun _ _ _ k h n => k.entries.energy n (h n),
    fun _ _ => step_preserves (fun _ _ => id) (fun _ _ => State.reset_openUnlocked)
      fun _ _ _ k h n => k.sequencer.unlocked n id (h n),
    fun _ _ => step_preserves (fun _ _ => id) (fun _ _ => State.reset_noticeSound) fun _ _ _ k => k.uplink.notice id⟩

/-- Settles O6. -/
theorem stepKeepsSessionsSound : Obligations.StepKeepsSessionsSound := by
  intro s t bounded sound h
  refine (step_preserves (I := fun s => s.settlement.records.length ≤ 96 ∧ s.SessionsSound) (fun _ _ => id)
    (fun _ _ => ⟨Nat.zero_le _, State.reset_sessionsSound⟩) (fun c s t k ⟨len, a⟩ => ?_) ⟨bounded.2.2.2.2, sound⟩ h).2
  have x : .queries ∉ privileges True c s := not_not.2 a
  exact ⟨k.settlement.length len, k.held x a.1, k.waiting x len a.2.1, k.uses x a.2.2⟩

/-- Settles O7. -/
theorem stepKeepsTokensAndParametersInRange : Obligations.StepKeepsTokensAndParametersInRange := by
  refine ⟨fun s t => step_preserves (fun _ _ => id) (fun _ _ => State.reset_tokensFit) fun c s t k h =>
      k.tokens (not_not.2 h) h,
    fun s t => step_preserves (fun _ _ => id) (fun _ _ => State.reset_parametersInRange) fun c s t k h => ?_⟩
  obtain ⟨line, seq, auth, sess, headroom, alloc, silence, clock⟩ := (State.parametersInRange_iff s).1 h
  exact (State.parametersInRange_iff t).2 ⟨k.line.range line, k.sequencer.range seq, k.auth.range auth,
    k.entries.range sess, k.metering headroom, k.alloc alloc, k.uplink.range silence, k.clock.range clock⟩

/-- Settles O8. -/
theorem stepKeepsPedestalsSound : Obligations.StepKeepsPedestalsSound := by
  intro s t
  refine step_preserves (fun _ _ => id)
    (fun s h => State.pedestalsSound_of_initial s.powerOn_ped ((State.pedestalsSound_iff s).1 h).2.2) fun c s t k h =>
    ?_
  obtain ⟨sound, slots, flight⟩ := (State.pedestalsSound_iff s).1 h
  exact (State.pedestalsSound_iff t).2 ⟨fun p => k.line.sound p id (sound p), k.line.distinct slots,
    k.line.flight flight⟩

/-! ### Rules over every command -/

/-- Settles O9. -/
theorem tablesHaveTheirWritersOnly : Obligations.TablesHaveTheirWritersOnly := by
  intro c s t h hp hi
  have k := exec_keeps c s hp hi t h
  refine ⟨fun hw => k.auth.table ?_, fun hw => k.auth.watch ?_, fun hw => k.tariff ?_⟩
  · rintro ⟨tag, body, e | e⟩
    · exact (hw tag body).1 e
    · exact (hw tag body).2 e
  · rintro ⟨tag, body, e⟩
    exact hw tag body e
  · rintro ⟨tag, body, e | e⟩
    · exact (hw tag body).1 e
    · exact (hw tag body).2 e

end Sys2Proof.Machine
end

section
/-! SUPPORT and PROOF. The uplink's port: a frame taken and answered or turned away (R170 to R172), and events raised,
read
and enabled (R175 to R178). -/

namespace Sys2Proof.Machine

/-! ### Numbers in bytes -/

theorem byte_toNat (n : Nat) : (byte n).toNat = n % 256 := BitVec.toNat_ofNat n 8

theorem byte_toNat_of_lt {n : Nat} (h : n < 256) : (byte n).toNat = n := by rw [byte_toNat, Nat.mod_eq_of_lt h]

@[simp] theorem be_length (n x : Nat) : (be n x).length = n := by
  induction n generalizing x with
  | zero => rfl
  | succ n ih => simp [be, ih]

theorem num_cons (b : Byte) (l : Frame) : num (b :: l) = b.toNat * 256 ^ l.length + num l := by
  induction l using List.reverseRecOn with
  | nil => simp [num]
  | append_singleton l c ih =>
    rw [← List.cons_append, num_append_singleton, num_append_singleton, ih, List.length_append, List.length_singleton,
      Nat.pow_succ]
    ring

/-- The bytes of a number hold it, up to what fits them. -/
theorem num_be (n x : Nat) : num (be n x) = x % 256 ^ n := by
  induction n with
  | zero => simp [be, num, Nat.mod_one]
  | succ n ih =>
    rw [be, num_cons, be_length, ih, byte_toNat, Nat.pow_succ, Nat.mod_mul, Nat.mul_comm, Nat.add_comm]

theorem num_be_of_lt {n x : Nat} (h : x < 256 ^ n) : num (be n x) = x := by rw [num_be, Nat.mod_eq_of_lt h]

/-! ### Events raised (R175, R178) -/

/-- A test of attention changes the notice alone. -/
theorem State.testAttention_eq (before : Bool) (s : State) : s.testAttention before = { s with uplink :=
    { s.uplink with noticePending := if before = s.attention then s.uplink.noticePending else s.attention } } := by
  unfold State.testAttention
  split
  · rfl
  · rfl

/-- A notice after attention, which can only have risen: one that was pending, or one of the rise (R178). -/
theorem notice_after_growth {before after notice : Bool} (h : before = true → after = true) :
    (if before = after then notice else after) = (notice || (!before && after)) := by
  revert before after notice
  decide

/-- Raising is a change of the event sets and the notice alone. -/
theorem State.raise_eq (k : EventKind) (s : State) : s.raise k = { s with uplink := s.uplink.withRaised k } := by
  have more : (s.uplink.pendingSet &&& s.uplink.enableSet) ≠ 0 →
      ((s.uplink.pendingSet ||| k.only) &&& s.uplink.enableSet) ≠ 0 :=
    UplinkState.shares_mono (u := s.uplink) (u' := { s.uplink with pendingSet := s.uplink.pendingSet ||| k.only }) rfl
      (by show s.uplink.pendingSet ||| (s.uplink.pendingSet ||| k.only) = _; rw [← BitVec.or_assoc, BitVec.or_self])
  have notice : (if s.attention = (((s.uplink.pendingSet ||| k.only) &&& s.uplink.enableSet) != 0) then
        s.uplink.noticePending else (((s.uplink.pendingSet ||| k.only) &&& s.uplink.enableSet) != 0)) =
      (s.uplink.withRaised k).noticePending := by
    have grown : s.attention = true → (((s.uplink.pendingSet ||| k.only) &&& s.uplink.enableSet) != 0) = true :=
      fun h => bne_iff_ne.2 (more (bne_iff_ne.1 h))
    rw [notice_after_growth grown, State.attention, bne, Bool.not_not]
    rfl
  rw [State.raise, State.testAttention_eq]
  exact congrArg (fun b => { s with uplink :=
    { s.uplink with pendingSet := s.uplink.pendingSet ||| k.only, noticePending := b } }) notice

theorem EventKind.bit_injective : Function.Injective EventKind.bit := by
  intro j k
  cases j <;> cases k <;> decide

theorem EventKind.bit_lt (k : EventKind) : k.bit < 15 := by cases k <;> decide

theorem hasEvent_or_only (j k : EventKind) (e : EventSet) :
    hasEvent j (e ||| k.only) = (decide (j = k) || hasEvent j e) := by
  have hb : (k.bit = j.bit) ↔ j = k := ⟨fun h => (EventKind.bit_injective h).symm, fun h => h ▸ rfl⟩
  simp only [hasEvent, EventKind.only, BitVec.getLsbD_or, BitVec.getLsbD_twoPow, EventKind.bit_lt, decide_true,
    Bool.true_and, hb]
  rw [Bool.or_comm]

theorem or_only_of_hasEvent {k : EventKind} {e : EventSet} (h : hasEvent k e = true) : e ||| k.only = e := by
  refine BitVec.eq_of_getLsbD_eq fun i hi => ?_
  simp only [EventKind.only, BitVec.getLsbD_or, BitVec.getLsbD_twoPow]
  by_cases hk : k.bit = i
  · subst hk
    simp [hasEvent] at h
    simp [h]
  · simp [hk]

theorem State.raise_of_pending {k : EventKind} {s : State} (h : hasEvent k s.uplink.pendingSet = true) :
    s.raise k = s := by
  rw [State.raise_eq, UplinkState.withRaised, or_only_of_hasEvent h]
  simp only [bne, Bool.and_not_self, Bool.or_false]

/-! ### A frame taken, or turned away (R171, R172) -/

/-- The state in which the owner of a request acts: the link is ONLINE and the request is counted. -/
def State.taken (s : State) : State := s.goodFrame.countRequest

theorem exec_taken {c : Instr} {place : Nat} {tag : Byte} {payload : Frame} (s : State)
    (h : requestOf c = some (place, tag, payload)) (hp : payload.length ≤ 250) (hr : s.hasRoom) :
    exec c s = .next ((ownerOf c s.taken).1.respond (byte (place + 128)) tag (ownerOf c s.taken).2) := by
  rw [exec_request s h, State.takeRequest, State.takeFrame_taken _ _ _ _ _ hp hr]
  rfl

/-- A request whose owner changes nothing adds its response to the uplink, and nothing else changes. -/
theorem exec_answered {c : Instr} {place : Nat} {tag : Byte} {payload : Frame} {s : State} (r : Reply)
    (h : requestOf c = some (place, tag, payload)) (hp : payload.length ≤ 250) (hr : s.hasRoom)
    (ho : ownerOf c s.taken = (s.taken, r)) :
    exec c s = .next { s with uplink := s.answered (byte (place + 128)) tag r.code r.payload } := by
  rw [exec_taken s h hp hr, ho]
  rfl

theorem exec_refused {c : Instr} {place : Nat} {tag : Byte} {payload : Frame} {s : State} (code : ResultCode)
    (h : requestOf c = some (place, tag, payload)) (hp : payload.length ≤ 250) (hr : s.hasRoom)
    (ho : ownerOf c s.taken = refuseWith code s.taken) :
    exec c s = .next { s with uplink := s.answered (byte (place + 128)) tag code [] } :=
  exec_answered (.bare code) h hp hr ho

theorem State.overrun_eq (s : State) : s.overrun = { s with uplink :=
    { s.uplink with overruns := min (s.uplink.overruns + 1) 65535 }.withRaised .linkErrors } := by
  rw [State.overrun, State.raise_eq]
  rfl

/-- Settles O14. -/
theorem fullResponseQueueTurnsFramesAway : Obligations.FullResponseQueueTurnsFramesAway := by
  intro s c payload hc hp hfull
  have turned : s.goodFrame.overrun = { s with uplink :=
      { s.uplink with
        link := .online
        silenceDeadline := some (s.sec + s.uplink.silenceTime)
        overruns := min (s.uplink.overruns + 1) 65535 }.withRaised .linkErrors } := by
    rw [State.overrun_eq]
    rfl
  rw [← turned]
  rcases hc with ⟨place, tag, h⟩ | ⟨kind, tag, rfl, hk⟩ | ⟨kind, tag, rfl⟩
  · rw [exec_request s h, State.takeRequest, State.takeFrame_full _ _ _ _ _ hp hfull]
  · show execUnknownRequest kind tag payload s = _
    rw [execUnknownRequest, hk, if_neg Bool.false_ne_true, State.takeFrame_full _ _ _ _ _ hp hfull]
  · have long : ¬ maxPayload < payload.length := by unfold maxPayload; omega
    have room : ¬ s.responseRoom = true := by
      rw [State.responseRoom, Config.responseSize, decide_eq_true_eq]; omega
    show execRequestOverrun kind tag payload s = _
    rw [execRequestOverrun, if_neg (by simp [long, room])]

/-- Settles O16. -/
theorem framesThatAreNoRequestReachNoBlock : Obligations.FramesThatAreNoRequestReachNoBlock := by
  have framing (s : State) : s.framingError = { s with uplink :=
      { s.uplink with framingErrors := min (s.uplink.framingErrors + 1) 65535 }.withRaised .linkErrors } := by
    rw [State.framingError, State.raise_eq]
    rfl
  have check (s : State) : s.uplinkCheckFailed = { s with uplink :=
      { s.uplink with checkFails := min (s.uplink.checkFails + 1) 65535 }.withRaised .linkErrors } := by
    rw [State.uplinkCheckFailed, State.raise_eq]
    rfl
  refine ⟨fun s kind tag payload hk hp hr => ?_, fun s => ⟨fun d hd => ?_, fun bytes hb => ?_, fun frame hw hg => ?_⟩⟩
  · have outside : catalogueKind kind = false := by simp [catalogueKind]; omega
    show execUnknownRequest kind tag payload s = _
    rw [execUnknownRequest, outside, if_neg Bool.false_ne_true]
    exact congrArg Host.Outcome.next (s.takeFrame_refused 255 tag payload _ .badRequest hp hr fun _ => rfl)
  · have bad : badLength d = true := by simp [badLength]; omega
    show execUplinkFramingError d s = _
    rw [execUplinkFramingError, if_pos bad, framing]
  · show execUplinkTruncated bytes s = _
    rw [execUplinkTruncated, if_pos hb, framing]
  · show execUplinkCheckFailure frame s = _
    rw [execUplinkCheckFailure, hw, hg, check]
    rfl

/-! ### READ_EVENTS and SET_EVENT_ENABLE (R176, R177) -/

/-- Settles O17. -/
theorem eventsAndTheirRequestsTestAttention : Obligations.EventsAndTheirRequestsTestAttention := by
  refine ⟨fun k s => ?raise, fun s tag hr => ⟨?read, fun e => ?enable, fun e1 e0 h => ?refuse⟩⟩
  case raise =>
    have quiet := (Keeps.raise (M := ∅) k s).uplink.events (by simp)
    rw [State.raise_eq] at quiet ⊢
    refine ⟨fun b hb => ?_, rfl, fun j => hasEvent_or_only j k _, fun h => ?_, fun h h' => ?_, fun h => ?_, quiet.2.2⟩
    · cases b with
      | uplink => exact absurd (List.mem_singleton_self _) hb
      | _ => rfl
    · rw [← State.raise_eq, State.raise_of_pending h]
    · simp only [UplinkState.shares, UplinkState.withRaised, not_not] at h h' ⊢
      simp only [beq_iff_eq.2 h, bne_iff_ne.2 h', Bool.and_true, Bool.or_true]
    · simp only [UplinkState.withRaised, beq_eq_false_iff_ne.2 h, Bool.false_and, Bool.or_false]
  case read =>
    rw [exec_taken s rfl (by simp) hr]
    show Host.Outcome.next (((s.taken.updUplink fun u => { u with pendingSet := 0 }).testAttention
      s.attention).respond _ tag _) = _
    have cleared : (s.taken.updUplink fun u => { u with pendingSet := 0 }).attention = false := by
      simp [State.attention, State.updUplink]
    have notice : (if s.attention = false then s.uplink.noticePending else false) =
        (s.uplink.noticePending && !s.attention) := by
      cases s.attention <;> simp
    rw [State.testAttention_eq, cleared, ← notice]
    rfl
  case enable =>
    have number : num (be 2 e.toNat) = e.toNat := num_be_of_lt (by have := e.isLt; omega)
    have small : num (be 2 e.toNat) < 32768 := by have := e.isLt; omega
    have set : ownerOf (.setEventEnable tag (be 2 e.toNat)) s.taken =
        ((s.taken.updUplink fun u => { u with enableSet := e }).testAttention s.attention, Reply.bare .ok) := by
      show ownSetEventEnable (be 2 e.toNat) s.taken = _
      unfold ownSetEventEnable be be be
      dsimp only
      rw [show num [byte (e.toNat / 256 ^ 1), byte (e.toNat / 256 ^ 0)] = e.toNat from number, if_pos (number ▸ small),
        BitVec.ofNat_toNat, BitVec.setWidth_eq]
      rfl
    have notice : (if s.attention = (s.taken.updUplink fun u => { u with enableSet := e }).attention then
          s.uplink.noticePending else (s.taken.updUplink fun u => { u with enableSet := e }).attention) =
        (if s.uplink.pendingSet &&& s.uplink.enableSet = 0 ↔ s.uplink.pendingSet &&& e = 0 then
          s.uplink.noticePending else decide (s.uplink.pendingSet &&& e ≠ 0)) := by
      show (if ((s.uplink.pendingSet &&& s.uplink.enableSet) != 0) = ((s.uplink.pendingSet &&& e) != 0) then _
        else ((s.uplink.pendingSet &&& e) != 0)) = _
      by_cases b : s.uplink.pendingSet &&& s.uplink.enableSet = 0 <;> by_cases a : s.uplink.pendingSet &&& e = 0 <;>
        simp only [a, b, bne_self_eq_false, bne_iff_ne.2, ne_eq, not_false_eq_true, not_true_eq_false, iff_true,
          iff_false,
          if_true, if_false, decide_true, decide_false, Bool.false_eq_true, reduceCtorEq]
    rw [exec_taken s rfl (by simp) hr, set]
    dsimp only
    rw [State.testAttention_eq]
    exact congrArg (fun b => Host.Outcome.next { s with uplink :=
      { s.answered 171 tag .ok [] with enableSet := e, noticePending := b } }) notice
  case refuse =>
    refine exec_refused .badRequest rfl (by simp) hr ?_
    have big : ¬ num [e1, e0] < 32768 := by rw [num_pair]; omega
    show ownSetEventEnable [e1, e0] s.taken = _
    rw [ownSetEventEnable, if_neg big]

end Sys2Proof.Machine
end

section
/-! SUPPORT and PROOF. Every request taken is answered once, and one of the wrong length is refused (R171, R184). -/

namespace Sys2Proof.Machine

/-! ### Owners refuse a payload of the wrong length -/

section
variable {payload : Frame} {s : State}

theorem noOperands_of_length (f : State → State × Reply) (h : payload.length ≠ 0) :
    noOperands payload f s = refuseWith .badRequest s := by
  cases payload with
  | nil => exact absurd rfl h
  | cons b l => rfl

theorem connOperand_of_length (f : Conn → State → State × Reply) (h : payload.length ≠ 1) :
    connOperand payload f s = refuseWith .badRequest s := by
  unfold connOperand
  split
  · exact absurd rfl h
  · rfl

theorem pedOperand_of_length (f : Ped → State → State × Reply) (h : payload.length ≠ 1) :
    pedOperand payload f s = refuseWith .badRequest s := by
  unfold pedOperand
  split
  · exact absurd rfl h
  · rfl

theorem slotOperand_of_length (f : PlanSlot → State → State × Reply) (h : payload.length ≠ 1) :
    slotOperand payload f s = refuseWith .badRequest s := by
  unfold slotOperand
  split
  · exact absurd rfl h
  · rfl

theorem ownSetPedestal_of_length (h₁ : payload.length ≠ 2) (h₂ : payload.length ≠ 12) :
    ownSetPedestal payload s = refuseWith .badRequest s := by
  unfold ownSetPedestal
  split
  · exact absurd rfl h₁
  · exact absurd rfl h₂
  · rfl

theorem ownSetLineTiming_of_length (h : payload.length ≠ 4) : ownSetLineTiming payload s =
    refuseWith .badRequest s := by
  unfold ownSetLineTiming
  split
  · exact absurd rfl h
  · rfl

theorem ownSetClass_of_length (h : payload.length ≠ 2) : ownSetClass payload s = refuseWith .badRequest s := by
  unfold ownSetClass
  split
  · exact absurd rfl h
  · rfl

theorem ownSetSequencing_of_length (h : payload.length ≠ 3) : ownSetSequencing payload s =
    refuseWith .badRequest s := by
  unfold ownSetSequencing
  split
  · exact absurd rfl h
  · rfl

theorem ownSetAuthPolicy_of_length (h : payload.length ≠ 6) : ownSetAuthPolicy payload s =
    refuseWith .badRequest s := by
  unfold ownSetAuthPolicy
  split
  · exact absurd rfl h
  · rfl

theorem ownLoadWatch_of_length (h : payload.length ≠ 17) : ownLoadWatch payload s = refuseWith .badRequest s := by
  cases payload with
  | nil => rfl
  | cons seg bits => exact if_neg fun e => h (by simp [e])

theorem ownReadToken_of_length (h : payload.length ≠ 2) : ownReadToken payload s = refuseWith .badRequest s := by
  unfold ownReadToken
  split
  · exact absurd rfl h
  · rfl

theorem ownAuthAnswer_of_length (h : payload.length ≠ 9) : ownAuthAnswer payload s = refuseWith .badRequest s := by
  unfold ownAuthAnswer
  split
  · exact absurd rfl h
  · rfl

theorem ownRemoteStart_of_length (h : payload.length ≠ 19) : ownRemoteStart payload s = refuseWith .badRequest s := by
  unfold ownRemoteStart
  split
  · exact if_neg fun e => h (by simp [e])
  · rfl

theorem ownSetSessionTiming_of_length (h : payload.length ≠ 5) :
    ownSetSessionTiming payload s = refuseWith .badRequest s := by
  unfold ownSetSessionTiming
  split
  · exact absurd rfl h
  · rfl

theorem planOperand_of_length {bytes : Frame} (h : bytes.length ≠ 32) : planOperand bytes = none := by
  unfold planOperand
  split
  · exact absurd rfl h
  · rfl

theorem indexByte_of_lt {k : Nat} {b : Byte} (h : b.toNat < k) : indexByte k b = some ⟨b.toNat, h⟩ := dif_pos h

theorem indexByte_of_le {k : Nat} {b : Byte} (h : k ≤ b.toNat) : indexByte k b = none := dif_neg (Nat.not_lt.2 h)

theorem ownLoadPlan_of_length (h : payload.length ≠ 33) (hk : payload = [] ∨ ∃ k rest, payload = k :: rest ∧
    k.toNat < 16) :
    ownLoadPlan payload s = refuseWith .badRequest s := by
  rcases hk with rfl | ⟨k, rest, rfl, hk⟩
  · rfl
  · have form : planOperand rest = none := planOperand_of_length fun e => h (by simp [e])
    simp only [ownLoadPlan, indexByte_of_lt hk, form]

theorem ownLoadPlan_of_slot {k : Byte} (rest : Frame) (hk : 16 ≤ k.toNat) :
    ownLoadPlan (k :: rest) s = refuseWith .badIndex s := by
  simp only [ownLoadPlan, indexByte_of_le hk]

theorem ownSetTime_of_length (h : payload.length ≠ 6) : ownSetTime payload s = refuseWith .badRequest s := by
  unfold ownSetTime
  split
  · exact absurd rfl h
  · rfl

theorem ownSetHeadroom_of_length (h : payload.length ≠ 2) : ownSetHeadroom payload s = refuseWith .badRequest s := by
  unfold ownSetHeadroom
  split
  · exact absurd rfl h
  · rfl

theorem ownSetSiteLimit_of_length (h : payload.length ≠ 2) : ownSetSiteLimit payload s = refuseWith .badRequest s := by
  unfold ownSetSiteLimit
  split
  · exact absurd rfl h
  · rfl

theorem ownCurtail_of_length (h : payload.length ≠ 4) : ownCurtail payload s = refuseWith .badRequest s := by
  unfold ownCurtail
  split
  · exact absurd rfl h
  · rfl

theorem ownSetSetpointTiming_of_length (h : payload.length ≠ 3) :
    ownSetSetpointTiming payload s = refuseWith .badRequest s := by
  unfold ownSetSetpointTiming
  split
  · exact absurd rfl h
  · rfl

theorem ownSetEventEnable_of_length (h : payload.length ≠ 2) :
    ownSetEventEnable payload s = refuseWith .badRequest s := by
  unfold ownSetEventEnable
  split
  · exact absurd rfl h
  · rfl

end

/-- The owner of a request of fixed layout refuses a payload of any other length (R184). -/
theorem ownerOf_of_length {c : Instr} {place : Nat} {tag : Byte} {payload : Frame} {lens : List Nat} (s : State)
    (h : requestOf c = some (place, tag, payload)) (hl : fixedLengths place = some lens) (hp : payload.length ∉ lens)
    (hk : place = 28 → payload = [] ∨ ∃ k rest, payload = k :: rest ∧ k.toNat < 16) :
    ownerOf c s = refuseWith .badRequest s := by
  cases c <;> cases h <;> cases hl
  case setPedestal => exact ownSetPedestal_of_length (fun e => hp (by simp [e])) fun e => hp (by simp [e])
  case loadPlan => exact ownLoadPlan_of_length (fun e => hp (by simp [e])) (hk rfl)
  case setUplinkTiming => exact ownSetUplinkTiming_of_length_ne _ _ fun e => hp (by simp [e])
  case setLineTiming => exact ownSetLineTiming_of_length fun e => hp (by simp [e])
  case setClass => exact ownSetClass_of_length fun e => hp (by simp [e])
  case setSequencing => exact ownSetSequencing_of_length fun e => hp (by simp [e])
  case setAuthPolicy => exact ownSetAuthPolicy_of_length fun e => hp (by simp [e])
  case loadWatch => exact ownLoadWatch_of_length fun e => hp (by simp [e])
  case readToken => exact ownReadToken_of_length fun e => hp (by simp [e])
  case authAnswer => exact ownAuthAnswer_of_length fun e => hp (by simp [e])
  case remoteStart => exact ownRemoteStart_of_length fun e => hp (by simp [e])
  case setSessionTiming => exact ownSetSessionTiming_of_length fun e => hp (by simp [e])
  case setTime => exact ownSetTime_of_length fun e => hp (by simp [e])
  case setHeadroom => exact ownSetHeadroom_of_length fun e => hp (by simp [e])
  case setSiteLimit => exact ownSetSiteLimit_of_length fun e => hp (by simp [e])
  case curtail => exact ownCurtail_of_length fun e => hp (by simp [e])
  case setSetpointTiming => exact ownSetSetpointTiming_of_length fun e => hp (by simp [e])
  case setEventEnable => exact ownSetEventEnable_of_length fun e => hp (by simp [e])
  case clearPedestal | readPedestal | readPassThrough => exact pedOperand_of_length _ fun e => hp (by simp [e])
  case lockout | unlock | clearFault | readConnector | remoteStop | readSession =>
    exact connOperand_of_length _ fun e => hp (by simp [e])
  case clearPlan | readPlan => exact slotOperand_of_length _ fun e => hp (by simp [e])
  case latchNow =>
    exact noOperands_of_length (fun s => (s.nextEpoch, Reply.bare .ok)) fun e => hp (by simp [e])
  all_goals exact noOperands_of_length _ fun e => hp (by simp [e])

/-! ### The four requests whose length varies -/

section
variable {payload : Frame} {s : State}

theorem ownPassDown_of_short (h : payload.length < 4) : ownPassDown payload s = refuseWith .badRequest s := by
  unfold ownPassDown
  split
  · simp at h
    omega
  · rfl

theorem ownDisplay_of_short (h : payload.length < 3) : ownDisplay payload s = refuseWith .badRequest s := by
  unfold ownDisplay
  split
  · simp at h
    omega
  · rfl

theorem ownLoadTokens_of_count
    (h : (payload.getD 2 0).toNat = 0 ∨ 8 < (payload.getD 2 0).toNat ∨
      payload.length ≠ 3 + 20 * (payload.getD 2 0).toNat) : ownLoadTokens payload s = refuseWith .badRequest s := by
  unfold ownLoadTokens
  split
  · rw [if_neg]
    simp at h
    omega
  · rfl

theorem scheduleOperand_of_count
    (h : (payload.getD 0 0).toNat = 0 ∨ 8 < (payload.getD 0 0).toNat ∨
      payload.length ≠ 1 + 3 * (payload.getD 0 0).toNat) : scheduleOperand payload = none := by
  unfold scheduleOperand
  split
  · rw [if_neg]
    simp at h
    omega
  · rfl

theorem pedByte_number (p : Ped) : pedByte (byte (p.val + 1)) = some p := by
  have : (byte (p.val + 1)).toNat = p.val + 1 := byte_toNat_of_lt (by omega)
  simp [pedByte, this]

theorem indexByte_byte {k : Nat} (i : Fin k) (hk : k ≤ 256) : indexByte k (byte i.val) = some i := by
  have : (byte i.val).toNat = i.val := byte_toNat_of_lt (by omega)
  rw [indexByte, dif_pos (by omega)]
  simp [this]

theorem letterByte_optByte (l : Option Letter) : letterByte (Letter.optByte l) = some l := by
  cases l with
  | none => rfl
  | some l => cases l <;> rfl

theorem ownPassDown_of_field (p : Ped) (l : Option Letter) (code : Code) (len : Byte) (body : Frame)
    (h : body.length ≠ len.toNat) :
    ownPassDown (byte (p.val + 1) :: Letter.optByte l :: byte code.val :: len :: body) s =
      refuseWith .badRequest s := by
  simp [ownPassDown, pedByte_number, indexByte_byte, letterByte_optByte, h]

theorem ownDisplay_of_field (p : Ped) (l : Option Letter) (len : Byte) (body : Frame) (h : body.length ≠ len.toNat) :
    ownDisplay (byte (p.val + 1) :: Letter.optByte l :: len :: body) s = refuseWith .badRequest s := by
  simp [ownDisplay, pedByte_number, letterByte_optByte, h]

end

/-! ### One response -/

/-- What an owner leaves of the uplink's port: all but the silence time, which is SET_UPLINK_TIMING's (R173). -/
theorem ownerOf_port {c : Instr} {place : Nat} {tag : Byte} {payload : Frame} (s : State)
    (h : requestOf c = some (place, tag, payload)) :
    let u := (ownerOf c s).1.uplink
    u.responses = s.uplink.responses ∧ u.link = s.uplink.link ∧ u.requestsTaken = s.uplink.requestsTaken ∧
      u.overruns = s.uplink.overruns ∧ u.framingErrors = s.uplink.framingErrors ∧ u.checkFails = s.uplink.checkFails ∧
      (place ≠ 44 → u.silenceTime = s.uplink.silenceTime ∧ u.silenceDeadline = s.uplink.silenceDeadline) := by
  by_cases timing : ∃ tag body, c = .setUplinkTiming tag body
  · obtain ⟨tag, body, rfl⟩ := timing
    cases h
    simp only [ownerOf, ownSetUplinkTiming]
    split <;> simp [State.updUplink, refuseWith]
  · obtain ⟨h₁, h₂, h₃, h₄, h₅, h₆, h₇, h₈⟩ :=
      (keeps_ownerOf False c s s (fun tag body e => timing ⟨tag, body, e⟩) Iff.rfl Iff.rfl).uplink.port id
    exact ⟨h₁, h₂, h₃, h₄, h₅, h₆, fun _ => ⟨h₇, h₈⟩⟩

/-- Settles O15. -/
theorem everyRequestTakenGetsOneResponse : Obligations.EveryRequestTakenGetsOneResponse := by
  refine ⟨fun s c place tag payload h hp hr => ?_, fun s c place tag payload lens h hl hlen hk hp hr =>
      exec_refused .badRequest h hp hr (ownerOf_of_length _ h hl hlen hk),
    fun s tag k rest hk hp hr => exec_refused .badIndex rfl (by simp; omega) hr (ownLoadPlan_of_slot rest hk),
    fun s tag payload hp hr => ⟨fun h => ?_, fun h => ?_, fun h => ?_, fun h => ?_⟩,
      fun s tag len p l code body hr hp h =>
      ⟨?_, ?_⟩⟩
  · obtain ⟨responses, link, requests, overruns, framing, check, silence⟩ := ownerOf_port s.taken h
    refine ⟨_, (ownerOf c s.taken).2.code, (ownerOf c s.taken).2.payload, exec_taken s h hp hr, ?_, link, requests,
      overruns, framing, check, ?_, silence⟩
    · exact congrArg (· ++ _) responses
    · exact (keeps_ownerOf True c s s.taken (fun _ _ _ => trivial) Iff.rfl Iff.rfl).pending
  · exact exec_refused .badRequest rfl hp hr (ownPassDown_of_short h)
  · exact exec_refused .badRequest rfl hp hr (ownDisplay_of_short h)
  · exact exec_refused .badRequest rfl hp hr (ownLoadTokens_of_count h)
  · refine exec_refused .badRequest rfl hp hr ?_
    show ownSetBands payload s.taken = _
    rw [ownSetBands, scheduleOperand_of_count h]
  · exact exec_refused .badRequest rfl (by simp; omega) hr (ownPassDown_of_field p l code len body h)
  · exact exec_refused .badRequest rfl (by simp; omega) hr (ownDisplay_of_field p l len body h)

end Sys2Proof.Machine
end

section
/-! SUPPORT and PROOF. The requests that set parameters force their operands (R4, R40, R76, R98, R121, R145). -/

namespace Sys2Proof.Machine

/-- The code of an owner that forces its operands, as the statements put it. -/
theorem forced_code {b : Bool} {p : Prop} [Decidable p] (h : b = true ↔ ¬ p) :
    (Reply.forced b) = Reply.bare (if p then .ok else .clamped) := by
  unfold Reply.forced
  by_cases hp : p
  · rw [if_pos hp, if_neg fun e => h.1 e hp]
  · rw [if_neg hp, if_pos (h.2 hp)]

section
variable (s : State)

theorem ownSetLineTiming_eq (r p1 p0 c : Byte) :
    let asked := 256 * p1.toNat + p0.toNat
    let reply := max 2 (min 100 r.toNat)
    let poll := max 200 (min 5000 asked)
    let roll := max 1 (min 30 c.toNat)
    ownSetLineTiming [r, p1, p0, c] s =
      ({ s with line := { s.line with replyTimeout := reply, pollPeriod := poll, rollPeriod := roll } },
        Reply.bare (if reply = r.toNat ∧ poll = asked ∧ roll = c.toNat then .ok else .clamped)) := by
  simp only [ownSetLineTiming, num_pair, clamp_eq_max_min 2 100 _ (by decide), clamp_eq_max_min 200 5000 _ (by decide),
    clamp_eq_max_min 1 30 _ (by decide)]
  refine congrArg (Prod.mk _) (forced_code ?_)
  simp only [Bool.or_eq_true, bne_iff_ne]
  tauto

theorem ownSetSequencing_eq (t1 t0 r : Byte) :
    let asked := 256 * t1.toNat + t0.toNat
    let settle := max 100 (min 2000 asked)
    let release := max 2 (min 20 r.toNat)
    ownSetSequencing [t1, t0, r] s =
      ({ s with sequencer := { s.sequencer with settleTime := settle, idleRelease := release } },
        Reply.bare (if settle = asked ∧ release = r.toNat then .ok else .clamped)) := by
  simp only [ownSetSequencing, num_pair, clamp_eq_max_min 100 2000 _ (by decide), clamp_eq_max_min 2 20 _ (by decide)]
  refine congrArg (Prod.mk _) (forced_code ?_)
  simp only [Bool.or_eq_true, bne_iff_ne]
  tauto

theorem ownSetSessionTiming_eq (r1 r0 t1 t0 h : Byte) :
    let askedReady := 256 * r1.toNat + r0.toNat
    let askedStop := 256 * t1.toNat + t0.toNat
    let ready := max 10 (min 600 askedReady)
    let stop := max 30 (min 600 askedStop)
    let hours := max 1 (min 48 h.toNat)
    ownSetSessionTiming [r1, r0, t1, t0, h] s =
      ({ s with sessions := { s.sessions with
          readyWait := ready
          stopWait := stop
          maxHours := hours
          maxFrom := if hours < s.sessions.maxHours then s.sec + 1 else s.sessions.maxFrom } },
        Reply.bare (if ready = askedReady ∧ stop = askedStop ∧ hours = h.toNat then .ok else .clamped)) := by
  simp only [ownSetSessionTiming, num_pair, clamp_eq_max_min 10 600 _ (by decide),
    clamp_eq_max_min 30 600 _ (by decide),
    clamp_eq_max_min 1 48 _ (by decide)]
  refine congrArg (Prod.mk _) (forced_code ?_)
  simp only [Bool.or_eq_true, bne_iff_ne]
  tauto

theorem boolByte_flag (b : Bool) : boolByte (if b then 1 else 0) = some b := by cases b <;> rfl

theorem boolByte_of_two_le {o : Byte} (h : 2 ≤ o.toNat) : boolByte o = none := by
  have h0 : o ≠ 0 := by rintro rfl; simp at h
  have h1 : o ≠ 1 := by rintro rfl; simp at h
  rw [boolByte, if_neg h0, if_neg h1]

theorem ownSetAuthPolicy_eq (d : Byte) (accept : Bool) (l3 l2 l1 l0 : Byte) :
    let timeout := max 1 (min 30 d.toNat)
    ownSetAuthPolicy [d, if accept then 1 else 0, l3, l2, l1, l0] s =
      ({ s with auth := { s.auth with
          queryTimeout := timeout
          offlineAccept := accept
          offlineLimit := num [l3, l2, l1, l0] } },
        Reply.bare (if timeout = d.toNat then .ok else .clamped)) := by
  simp only [ownSetAuthPolicy, boolByte_flag, clamp_eq_max_min 1 30 _ (by decide)]
  refine congrArg (Prod.mk _) (forced_code ?_)
  exact bne_iff_ne

theorem ownSetHeadroom_eq (h1 h0 : Byte) :
    let asked := 256 * h1.toNat + h0.toNat
    ownSetHeadroom [h1, h0] s =
      ({ s with metering := { s.metering with headroom := min 10000 asked } },
        Reply.bare (if asked ≤ 10000 then .ok else .clamped)) := by
  simp only [ownSetHeadroom, num_pair, Nat.min_comm 10000]
  refine congrArg (Prod.mk _) (forced_code ?_)
  simp only [decide_eq_true_eq]
  omega

theorem ownSetSetpointTiming_eq (y h r : Byte) :
    let hysteresis := max 1 (min 20 y.toNat)
    let hold := max 5 (min 120 h.toNat)
    let renew := if hold ≤ max 1 (min 60 r.toNat) then hold - 1 else max 1 (min 60 r.toNat)
    ownSetSetpointTiming [y, h, r] s =
      ({ s with alloc := { s.alloc with hysteresis := hysteresis, hold := hold, renew := renew } },
        Reply.bare (if hysteresis = y.toNat ∧ hold = h.toNat ∧ renew = r.toNat then .ok else .clamped)) := by
  have lowered (a b : Nat) (hb : 1 ≤ b) : min a (b - 1) = if b ≤ a then b - 1 else a := by
    split <;> omega
  simp only [ownSetSetpointTiming, clamp_eq_max_min 1 20 _ (by decide), clamp_eq_max_min 5 120 _ (by decide),
    clamp_eq_max_min 1 60 _ (by decide), lowered _ (max 5 (min 120 h.toNat)) (by omega)]
  refine congrArg (Prod.mk _) (forced_code ?_)
  simp only [Bool.or_eq_true, bne_iff_ne]
  tauto

end

/-- Settles O19. -/
theorem parameterRequestsForceTheirOperands : Obligations.ParameterRequestsForceTheirOperands := by
  refine ⟨fun s tag hr => ⟨fun r p1 p0 c => ?_, fun t1 t0 r => ?_, fun r1 r0 t1 t0 h => ?_⟩,
    fun s tag hr => ⟨fun d accept limit hl => ?_, fun d o l3 l2 l1 l0 ho => ?_, fun h1 h0 => ?_, fun y h r => ?_⟩⟩
  · rw [exec_taken s rfl (by simp) hr]
    exact congrArg (fun x : State × Reply => Host.Outcome.next (x.1.respond _ tag x.2))
      (ownSetLineTiming_eq s.taken r p1 p0 c)
  · rw [exec_taken s rfl (by simp) hr]
    exact congrArg (fun x : State × Reply => Host.Outcome.next (x.1.respond _ tag x.2))
      (ownSetSequencing_eq s.taken t1 t0 r)
  · rw [exec_taken s rfl (by simp) hr]
    exact congrArg (fun x : State × Reply => Host.Outcome.next (x.1.respond _ tag x.2))
      (ownSetSessionTiming_eq s.taken r1 r0 t1 t0 h)
  · rw [exec_taken s rfl (by simp) hr]
    have set := ownSetAuthPolicy_eq s.taken d accept (byte (limit / 256 ^ 3)) (byte (limit / 256 ^ 2))
      (byte (limit / 256 ^ 1)) (byte (limit / 256 ^ 0))
    rw [show num [byte (limit / 256 ^ 3), byte (limit / 256 ^ 2), byte (limit / 256 ^ 1), byte (limit / 256 ^ 0)] =
      limit
      from num_be_of_lt (n := 4) hl] at set
    exact congrArg (fun x : State × Reply => Host.Outcome.next (x.1.respond _ tag x.2)) set
  · refine exec_refused .badRequest rfl (by simp) hr ?_
    show ownSetAuthPolicy [d, o, l3, l2, l1, l0] s.taken = _
    simp only [ownSetAuthPolicy, boolByte_of_two_le ho]
  · rw [exec_taken s rfl (by simp) hr]
    exact congrArg (fun x : State × Reply => Host.Outcome.next (x.1.respond _ tag x.2))
      (ownSetHeadroom_eq s.taken h1 h0)
  · rw [exec_taken s rfl (by simp) hr]
    exact congrArg (fun x : State × Reply => Host.Outcome.next (x.1.respond _ tag x.2))
      (ownSetSetpointTiming_eq s.taken y h r)

end Sys2Proof.Machine
end

section
/-! SUPPORT and PROOF. The reads (11.7): what each answers, with the length of its layout, and that it changes the
uplink
only. -/

namespace Sys2Proof.Machine

/-! ### Lengths of fields and layouts (11.4, 11.7) -/

theorem length_flatMap_const {α β : Type} {f : α → List β} {l : List α} {k : Nat} (h : ∀ x ∈ l, (f x).length = k) :
    (l.flatMap f).length = k * l.length := by
  induction l with
  | nil => rfl
  | cons x l ih =>
    rw [List.flatMap_cons, List.length_append, h x (List.mem_cons_self ..),
      ih fun y hy => h y (List.mem_cons_of_mem _ hy), List.length_cons, Nat.mul_succ, Nat.add_comm]

theorem length_flatMap_table {α β : Type} {n k : Nat} (t : Table α n) {f : α → List β} (h : ∀ x, (f x).length = k) :
    (t.toList.flatMap f).length = k * n := by
  rw [length_flatMap_const fun x _ => h x, Vector.length_toList]

@[simp] theorem optBytes_length (k : Nat) (x : Option Nat) : (optBytes k x).length = k + 1 := by
  cases x <;> simp [optBytes]

@[simp] theorem optTime_length (x : Option Nat) : (optTime x).length = 7 := optBytes_length 6 x

@[simp] theorem wallBytes_length (w : Option WallTime) : (wallBytes w).length = 6 := by
  cases w <;> simp [wallBytes]

@[simp] theorem planBytes_length (p : Option (PlanSlot × BitVec 16)) : (planBytes p).length = 3 := by
  rcases p with _ | ⟨k, rev⟩ <;> simp [planBytes]

@[simp] theorem currencyBytes_length (c : Option Currency) : (currencyBytes c).length = 3 := by
  cases c <;> rfl

@[simp] theorem bandBytes_length (k : Nat) (t : Table Nat 4) : (bandBytes k t).length = k * 4 :=
  length_flatMap_table t fun x => be_length k x

theorem tokenBytes_length {t : Option Token} (h : ∀ u, t = some u → u.fits) : (tokenBytes t).length = 12 := by
  cases t with
  | none => rfl
  | some t =>
    have := h t rfl
    simp only [Token.fits] at this
    simp only [tokenBytes, List.length_cons, List.length_append, List.length_replicate]
    omega

theorem entryBytes_length {e : Option TokenEntry} (h : ∀ x, e = some x → x.token.fits) : (entryBytes e).length =
    20 := by
  cases e with
  | none => rfl
  | some e =>
    have := tokenBytes_length (t := some e.token) fun u hu => by cases hu; exact h e rfl
    simp [entryBytes, this]

theorem recordBytes_length (q : Nat) {r : BuiltRecord} (h : ∀ t, r.token = some t → t.fits) :
    (recordBytes q r).length = 87 := by
  simp [recordBytes, tokenBytes_length h]

@[simp] theorem reportBytes_length (r : Option ConnReport) : (reportBytes r).length = 12 := by
  rcases r with _ | r
  · rfl
  · rcases h : r.latch with _ | ⟨e, l⟩ <;> simp [reportBytes, h]

@[simp] theorem planPayload_length (k : PlanSlot) (c : PlanContents) : (planPayload k c).length = 33 := by
  simp [planPayload]

section
variable (s : State)

theorem State.pedestalPayload_length (p : Ped) : (s.pedestalPayload p).length = 26 := by
  simp [State.pedestalPayload]

theorem State.passThroughPayload_length (p : Ped) : (s.passThroughPayload p).length = 7 := by
  simp [State.passThroughPayload]

theorem State.connectorPayload_length (n : Conn) : (s.connectorPayload n).length = 46 := by
  simp [State.connectorPayload]

theorem State.planReadPayload_length (k : PlanSlot) : (s.planReadPayload k).length = 37 := by
  simp [State.planReadPayload]

theorem State.classesPayload_length : s.classesPayload.length = 65 := by
  simp [State.classesPayload]

theorem State.authPayload_length (h : s.TokensFit) : s.authPayload.length = 392 + 22 * s.auth.held.length := by
  unfold State.authPayload
  simp only [List.length_append]
  rw [length_flatMap_const (k := 22) fun x hx => ?queries, length_flatMap_table (k := 8) _ fun d => ?decisions]
  case queries =>
    have := tokenBytes_length (t := some x.token) fun u hu => by cases hu; exact h.2.1 x hx
    simp [this]
  case decisions => cases d <;> simp
  simp only [be_length, List.length_cons, List.length_nil]
  omega

theorem State.clockPayload_length : s.clockPayload.length = 37 + 3 * s.clock.schedule.length := by
  have schedule : (s.clock.schedule.flatMap fun b => be 2 b.minute ++ [byte b.band]).length =
      3 * s.clock.schedule.length := length_flatMap_const fun b _ => by simp
  have ring : ((List.range 8).flatMap fun i =>
      [s.clock.epoch - 7 + BitVec.ofNat 8 i, byte (ringBand s.clock (s.clock.epoch - 7 + BitVec.ofNat 8 i))]).length =
      2 * 8 := length_flatMap_const fun i _ => rfl
  simp only [State.clockPayload, List.length_append, schedule, ring, wallBytes_length, be_length, List.length_cons,
    List.length_nil]
  omega

theorem State.allocationPayload_length : s.allocationPayload.length = 478 := by
  have setpoints : (s.alloc.setpoints.toList.flatMap fun x => flagByte x.participant :: optBytes 2 x.inFlight).length =
      4 * 48 := length_flatMap_table _ fun x => by simp
  cases h : s.alloc.curtailment <;> simp [State.allocationPayload, h, setpoints]

/-- A session's payload, and behind it, for a CLOSED entry, its place and record. -/
theorem State.sessionPayload_length (h : s.TokensFit) (n : Conn) :
    (s.sessionPayload n).length = 143 +
      if (s.sess n).state = .closed ∧ (s.sess n).record.isSome = true then 88 else 0 := by
  obtain ⟨fits, recorded⟩ := h.sess n
  have token := tokenBytes_length fits
  have waiting (k : SessionKind) : (match k, (s.sess n).record with
      | .closed, some r => byte (s.waitingPlace n) :: recordBytes 0 r
      | _, _ => []).length = if k = .closed ∧ (s.sess n).record.isSome = true then 88 else 0 := by
    cases hr : (s.sess n).record with
    | none => cases k <;> simp
    | some r => cases k <;> simp [recordBytes_length 0 (recorded r · hr)]
  unfold State.sessionPayload
  simp only [List.length_append, token, be_length, List.length_cons, List.length_nil, planBytes_length, optBytes_length,
    wallBytes_length, optTime_length, bandBytes_length]
  refine (congrArg _ (waiting (s.sess n).state)).trans ?_
  cases (s.sess n).baseline <;> simp

end

/-! ### Operands that are good, and indices out of range -/

section
variable (s : State)

theorem pedOperand_number (p : Ped) (f : Ped → State → State × Reply) : pedOperand [byte (p.val + 1)] f s = f p s := by
  simp only [pedOperand, pedByte_number]

theorem connOperand_index (n : Conn) (f : Conn → State → State × Reply) : connOperand [byte n.val] f s = f n s := by
  simp only [connOperand, indexByte_byte n (by decide)]

theorem slotOperand_index (k : PlanSlot) (f : PlanSlot → State → State × Reply) : slotOperand [byte k.val] f s =
    f k s := by
  simp only [slotOperand, indexByte_byte k (by decide)]

variable {b : Byte}

theorem pedByte_out (h : b.toNat = 0 ∨ 24 < b.toNat) : pedByte b = none := dif_neg (by omega)

theorem pedOperand_out (f : Ped → State → State × Reply) (h : b.toNat = 0 ∨ 24 < b.toNat) :
    pedOperand [b] f s = refuseWith .badIndex s := by
  simp only [pedOperand, pedByte_out h]

theorem connOperand_out (f : Conn → State → State × Reply) (h : 48 ≤ b.toNat) :
    connOperand [b] f s = refuseWith .badIndex s := by
  simp only [connOperand, indexByte_of_le h]

theorem slotOperand_out (f : PlanSlot → State → State × Reply) (h : 16 ≤ b.toNat) :
    slotOperand [b] f s = refuseWith .badIndex s := by
  simp only [slotOperand, indexByte_of_le h]

end

theorem ownReadToken_index (i : Fin 512) (s : State) :
    ownReadToken (be 2 i.val) s = (s, Reply.ok (entryBytes (tget s.auth.tokens i))) := by
  have number : num (be 2 i.val) = i.val := num_be_of_lt (by omega)
  simp only [be] at number ⊢
  simp only [ownReadToken, number, i.isLt, dif_pos]

theorem ownReadToken_out (i1 i0 : Byte) (s : State) (h : 512 ≤ 256 * i1.toNat + i0.toNat) :
    ownReadToken [i1, i0] s = refuseWith .badIndex s := by
  simp only [ownReadToken]
  exact dif_neg (by rw [num_pair]; omega)

/-- Settles O18. -/
theorem readsAnswerTheirLayoutAndChangeNothingElse : Obligations.ReadsAnswerTheirLayoutAndChangeNothingElse := by
  refine ⟨fun s tag hr => ⟨fun p => ?_, fun n => ?_, fun k => ?_, fun i => ?_, fun b h => ?_, fun b h => ?_,
    fun i1 i0 h => ?_, fun b h => ?_⟩, fun s tag hr => ?_⟩
  · refine ⟨s.pedestalPayload_length p, s.passThroughPayload_length p,
      exec_answered (.ok _) rfl (by simp) hr (pedOperand_number _ p _),
      exec_answered (.ok _) rfl (by simp) hr (pedOperand_number _ p _), fun h => ?_⟩
    simp only [State.pedestalPayload, State.passThroughPayload, State.shownPed, State.shownCounts, if_pos h]
    exact ⟨rfl, rfl⟩
  · refine ⟨s.connectorPayload_length n, exec_answered (.ok _) rfl (by simp) hr (connOperand_index _ n _),
      exec_answered (.ok _) rfl (by simp) hr (connOperand_index _ n _), fun fit open_ => ?_, fun fit closed rec_ => ?_⟩
    · rw [s.sessionPayload_length fit, if_neg fun h => open_ h.1]
    · rw [s.sessionPayload_length fit, if_pos ⟨closed, rec_⟩]
  · exact ⟨s.planReadPayload_length k, exec_answered (.ok _) rfl (by simp) hr (slotOperand_index _ k _)⟩
  · exact ⟨fun fit => entryBytes_length fun x hx => fit.1 i x hx,
      exec_answered (.ok _) rfl (by simp) hr (ownReadToken_index i s.taken)⟩
  · exact ⟨exec_refused .badIndex rfl (by simp) hr (connOperand_out _ _ h),
      exec_refused .badIndex rfl (by simp) hr (connOperand_out _ _ h)⟩
  · exact exec_refused .badIndex rfl (by simp) hr (slotOperand_out _ _ h)
  · exact exec_refused .badIndex rfl (by simp) hr (ownReadToken_out i1 i0 _ h)
  · exact ⟨exec_refused .badIndex rfl (by simp) hr (pedOperand_out _ _ h),
      exec_refused .badIndex rfl (by simp) hr (pedOperand_out _ _ h)⟩
  · exact ⟨exec_answered (.ok _) rfl (by simp) hr rfl, s.classesPayload_length,
      exec_answered (.ok _) rfl (by simp) hr rfl, s.authPayload_length, exec_answered (.ok _) rfl (by simp) hr rfl,
      s.clockPayload_length, exec_answered (.ok _) rfl (by simp) hr rfl, s.allocationPayload_length, _,
      exec_answered (.ok s.taken.uplinkPayload) rfl (by simp) hr rfl, rfl⟩

end Sys2Proof.Machine
end

section
/-! SUPPORT and PROOF. SET_CLASS, PASS_DOWN and DISPLAY (R33 to R35), lookups (R60), LOAD_PLAN and CLEAR_PLAN (R105,
R106),
and the band in force (R113). -/

namespace Sys2Proof.Machine

/-! ### SET_CLASS (R33) -/

/-- The number of an action in a SET_CLASS (11.6). -/
def Action.code : Action → Byte
  | .toOwner => 0
  | .up => 1
  | .toOwnerAndUp => 2
  | .drop => 3

theorem actionByte_code (a : Action) : actionByte a.code = some a := by cases a <;> rfl

theorem actionByte_out {b : Byte} (h : 4 ≤ b.toNat) : actionByte b = none := by
  have ne (x : Byte) (hx : x.toNat < 4) : b ≠ x := fun e => by subst e; omega
  rw [actionByte, if_neg (ne 0 (by decide)), if_neg (ne 1 (by decide)), if_neg (ne 2 (by decide)),
    if_neg (ne 3 (by decide))]

section
variable (s : State) {code : Byte} {c : Code} (hc : code.toNat = c.val)

theorem indexByte_of_toNat {k : Nat} {b : Byte} {i : Fin k} (h : b.toNat = i.val) : indexByte k b = some i := by
  rw [indexByte_of_lt (h ▸ i.isLt)]
  exact congrArg some (Fin.ext h)

include hc

theorem ownSetClass_refused (a : Action) (ha : a.isLocal = true) (h : c.val = 0 ∨ 5 ≤ c.val) :
    ownSetClass [code, a.code] s = refuseWith .badRequest s := by
  have undefined : definedCode c = false := by simp [definedCode]; omega
  simp [ownSetClass, indexByte_of_toNat hc, actionByte_code, ha, undefined]

theorem ownSetClass_accepted (a : Action) (h : a = .up ∨ a = .drop ∨ (1 ≤ c.val ∧ c.val ≤ 4)) :
    ownSetClass [code, a.code] s = ({ s with classifier :=
      { s.classifier with actions := tset s.classifier.actions c a } }, Reply.bare .ok) := by
  have fits : (a.isLocal && !definedCode c) = false := by
    rcases h with rfl | rfl | ⟨h₁, h₂⟩
    · rfl
    · rfl
    · simp [definedCode, h₁, h₂]
  simp [ownSetClass, indexByte_of_toNat hc, actionByte_code, fits]

end

/-- Settles O24. -/
theorem setClassFollowsItsChecks : Obligations.SetClassFollowsItsChecks := by
  intro s tag code action hr
  refine ⟨fun h => exec_refused .badIndex rfl (by simp) hr ?_, fun c hc => ⟨fun h =>
    exec_refused .badRequest rfl (by simp) hr ?_, fun h hcode => exec_refused .badRequest rfl (by simp) hr ?_,
    fun a ha hfit => ?_⟩⟩
  · show ownSetClass [code, action] s.taken = _
    simp only [ownSetClass, indexByte_of_le h]
  · show ownSetClass [code, action] s.taken = _
    simp only [ownSetClass, indexByte_of_toNat hc, actionByte_out h]
  · rcases h with rfl | rfl
    · exact ownSetClass_refused _ hc .toOwner rfl hcode
    · exact ownSetClass_refused _ hc .toOwnerAndUp rfl hcode
  · have number : action = a.code := by cases a <;> exact ha
    subst number
    rw [exec_taken s rfl (by simp) hr]
    exact congrArg (fun x : State × Reply => Host.Outcome.next (x.1.respond _ tag x.2))
      (ownSetClass_accepted s.taken hc a hfit)

/-! ### PASS_DOWN and DISPLAY (R34, R35) -/

theorem offerDown_of_unconfigured {s : State} {p : Ped} (c : QueueCmd) (h : (s.ped p).link = .unconfigured) :
    offerDown p c s = refuseWith .wrongState s := if_pos h

theorem queueTakes_iff (s : State) (p : Ped) :
    s.queueTakes p = true ↔ (s.ped p).link ≠ .unconfigured ∧ (s.ped p).queue.length < 4 := by
  rw [State.queueTakes, Bool.and_eq_true, bne_iff_ne, decide_eq_true_iff]
  rfl

theorem offerDown_of_full {s : State} {p : Ped} (c : QueueCmd) (h : (s.ped p).link ≠ .unconfigured)
    (hq : 4 ≤ (s.ped p).queue.length) : offerDown p c s = refuseWith .full s := by
  have full : ¬ s.queueTakes p = true := fun e => by have := ((queueTakes_iff s p).1 e).2; omega
  rw [offerDown, if_neg h, if_neg full]

theorem offerDown_of_room {s : State} {p : Ped} (c : QueueCmd) (h : (s.ped p).link ≠ .unconfigured)
    (hq : (s.ped p).queue.length < 4) : offerDown p c s = (s.enqueue p ⟨c, .classifier⟩, Reply.bare .ok) := by
  rw [offerDown, if_neg h, if_pos ((queueTakes_iff s p).2 ⟨h, hq⟩)]

theorem letterByte_out {b : Byte} (h : b ≠ 0 ∧ b ≠ 1 ∧ b ≠ 255) : letterByte b = none := by
  rw [letterByte, if_neg h.1, if_neg h.2.1, if_neg h.2.2]

theorem pedByte_in {b : Byte} (h : ¬ (b.toNat = 0 ∨ 24 < b.toNat)) : ∃ p, pedByte b = some p :=
  ⟨_, dif_pos (by omega)⟩

section
variable (s : State) {b letter code len : Byte} {body : Frame}

theorem ownPassDown_out (h : (b.toNat = 0 ∨ 24 < b.toNat) ∨ 64 ≤ code.toNat) :
    ownPassDown (b :: letter :: code :: len :: body) s = refuseWith .badIndex s := by
  rcases h with h | h
  · simp only [ownPassDown, pedByte_out h]
  · simp only [ownPassDown, indexByte_of_le h]
    cases pedByte b <;> rfl

theorem ownDisplay_out (h : b.toNat = 0 ∨ 24 < b.toNat) :
    ownDisplay (b :: letter :: len :: body) s = refuseWith .badIndex s := by
  simp only [ownDisplay, pedByte_out h]

/-- The test of the length field and the payload's size (R34). -/
theorem malformed_length (h : 40 < len.toNat ∨ body.length ≠ len.toNat) :
    (decide (40 < len.toNat) || body.length != len.toNat) = true := by
  simpa using h

theorem ownPassDown_malformed (hb : ¬ (b.toNat = 0 ∨ 24 < b.toNat)) (hc : code.toNat < 64)
    (h : 40 < len.toNat ∨ body.length ≠ len.toNat ∨ (letter ≠ 0 ∧ letter ≠ 1 ∧ letter ≠ 255)) :
    ownPassDown (b :: letter :: code :: len :: body) s = refuseWith .badRequest s := by
  obtain ⟨p, hp⟩ := pedByte_in hb
  simp only [ownPassDown, hp, indexByte_of_lt hc]
  split
  · next l hl =>
    refine if_pos (malformed_length (h.imp_right fun h => h.resolve_right fun out => ?_))
    rw [letterByte_out out] at hl
    cases hl
  · rfl

theorem ownDisplay_malformed (hb : ¬ (b.toNat = 0 ∨ 24 < b.toNat))
    (h : 40 < len.toNat ∨ body.length ≠ len.toNat ∨ (letter ≠ 0 ∧ letter ≠ 1 ∧ letter ≠ 255)) :
    ownDisplay (b :: letter :: len :: body) s = refuseWith .badRequest s := by
  obtain ⟨p, hp⟩ := pedByte_in hb
  simp only [ownDisplay, hp]
  split
  · next l hl =>
    refine if_pos (malformed_length (h.imp_right fun h => h.resolve_right fun out => ?_))
    rw [letterByte_out out] at hl
    cases hl
  · rfl

theorem ownPassDown_offers (p : Ped) (l : Option Letter) (c : Code) (hb : body.length ≤ 40) :
    ownPassDown (byte (p.val + 1) :: Letter.optByte l :: byte c.val :: byte body.length :: body) s =
      offerDown p (.passDown l c body) s := by
  have len : (byte body.length).toNat = body.length := byte_toNat_of_lt (by omega)
  simp [ownPassDown, pedByte_number, indexByte_byte, letterByte_optByte, len, Nat.not_lt.2 hb]

theorem ownDisplay_offers (p : Ped) (l : Option Letter) (hb : body.length ≤ 40) :
    ownDisplay (byte (p.val + 1) :: Letter.optByte l :: byte body.length :: body) s =
      offerDown p (.display l .text body) s := by
  have len : (byte body.length).toNat = body.length := byte_toNat_of_lt (by omega)
  simp [ownDisplay, pedByte_number, letterByte_optByte, len, Nat.not_lt.2 hb]

end

/-- Settles O25. -/
theorem downwardRequestsQueueOneEntry : Obligations.DownwardRequestsQueueOneEntry := by
  refine ⟨fun s tag b letter code len body hr hbody => ⟨fun h => ?_, fun hb hc h => ?_, fun h => ?_, fun hb h => ?_⟩,
    fun s p l code body tag hr hbody => ?_⟩
  · exact exec_refused .badIndex rfl (by simp; omega) hr (ownPassDown_out _ h)
  · exact exec_refused .badRequest rfl (by simp; omega) hr (ownPassDown_malformed _ hb hc h)
  · exact exec_refused .badIndex rfl (by simp; omega) hr (ownDisplay_out _ h)
  · exact exec_refused .badRequest rfl (by simp; omega) hr (ownDisplay_malformed _ hb h)
  · have pass := ownPassDown_offers s.taken p l code hbody
    have show_ := ownDisplay_offers s.taken p l hbody
    refine ⟨fun h => ⟨?_, ?_⟩, fun h hq => ⟨?_, ?_⟩, fun h hq => ⟨?_, ?_⟩⟩
    · exact exec_refused .wrongState rfl (by simp; omega) hr (pass.trans (offerDown_of_unconfigured _ h))
    · exact exec_refused .wrongState rfl (by simp; omega) hr (show_.trans (offerDown_of_unconfigured _ h))
    · exact exec_refused .full rfl (by simp; omega) hr (pass.trans (offerDown_of_full _ h hq))
    · exact exec_refused .full rfl (by simp; omega) hr (show_.trans (offerDown_of_full _ h hq))
    · rw [exec_taken s rfl (by simp; omega) hr]
      exact congrArg (fun x : State × Reply => Host.Outcome.next (x.1.respond _ tag x.2))
        (pass.trans (offerDown_of_room _ h hq))
    · rw [exec_taken s rfl (by simp; omega) hr]
      exact congrArg (fun x : State × Reply => Host.Outcome.next (x.1.respond _ tag x.2))
        (show_.trans (offerDown_of_room _ h hq))

/-! ### Lookups and the watch bitmap (R60) -/

theorem tget_eq_getElem_toList {α : Type} {n : Nat} (t : Table α n) (i : Fin n) :
    t.toList[i.val]? = some (tget t i) := by
  simp [tget]

theorem weightedSum_eq (id : Frame) (k : Nat) :
    weightedSum (2 * k + 1) id = ((id.zipIdx k).map fun x => x.1.toNat * (2 * x.2 + 1)).sum := by
  induction id generalizing k with
  | nil => rfl
  | cons b l ih =>
    rw [weightedSum, show 2 * k + 1 + 2 = 2 * (k + 1) + 1 by omega, ih]
    simp [List.zipIdx_cons]

/-- A lookup stops at the first entry of the table that holds the token. -/
theorem State.lookup_iff (s : State) (t : Token) (e : TokenEntry) :
    s.lookup t = some e ↔ ∃ l₁ l₂, s.auth.tokens.toList = l₁ ++ some e :: l₂ ∧ e.token = t ∧
      ∀ x, some x ∈ l₁ → x.token ≠ t := by
  rw [State.lookup, List.findSome?_eq_some_iff]
  constructor
  · rintro ⟨l₁, a, l₂, h, found, before⟩
    split at found
    · next x =>
      split at found
      · next hx =>
        cases found
        exact ⟨l₁, l₂, h, hx, fun y hy e => by simpa [e] using before _ hy⟩
      · cases found
    · cases found
  · rintro ⟨l₁, l₂, h, ht, before⟩
    refine ⟨l₁, some e, l₂, h, if_pos ht, fun x hx => ?_⟩
    cases x with
    | none => rfl
    | some x => exact if_neg (before x hx)

/-- Settles O31. -/
theorem lookupTakesTheLowestIndex : Obligations.LookupTakesTheLowestIndex := by
  refine ⟨fun s t e => ?_, fun s id k j h => ?_⟩
  · rw [State.lookup_iff]
    constructor
    · rintro ⟨l₁, l₂, h, ht, before⟩
      have hlen : l₁.length < 512 := by
        have := congrArg List.length h
        simp only [Vector.length_toList, List.length_append, List.length_cons] at this
        omega
      refine ⟨⟨l₁.length, hlen⟩, ?_, ht, fun j hj x hx => before x ?_⟩
      · have := tget_eq_getElem_toList s.auth.tokens ⟨l₁.length, hlen⟩
        rw [h] at this
        simpa using this.symm
      · have := tget_eq_getElem_toList s.auth.tokens j
        rw [h, List.getElem?_append_left hj, hx] at this
        exact List.mem_of_getElem? this
    · rintro ⟨i, hi, ht, before⟩
      have hlen : i.val < s.auth.tokens.toList.length := by rw [Vector.length_toList]; exact i.isLt
      have own : s.auth.tokens.toList[i.val] = some e := by
        have := tget_eq_getElem_toList s.auth.tokens i
        rw [List.getElem?_eq_getElem hlen, hi] at this
        exact Option.some.inj this
      refine ⟨s.auth.tokens.toList.take i.val, s.auth.tokens.toList.drop (i.val + 1), ?_, ht, fun x hx => ?_⟩
      · rw [← own, List.getElem_cons_drop, List.take_append_drop]
      · obtain ⟨j, hj, hjx⟩ := List.mem_take_iff_getElem.1 hx
        have hji : j < i.val := by omega
        have hjl : j < s.auth.tokens.toList.length := by omega
        have := tget_eq_getElem_toList s.auth.tokens ⟨j, by omega⟩
        rw [List.getElem?_eq_getElem hjl, hjx] at this
        refine before ⟨j, by omega⟩ hji x ?_
        exact (Option.some.inj this).symm
  · have bit : watchBit id = 128 * k.val + j.val := by
      rw [← h, watchBit, ← weightedSum_eq id 0]
    have segment : watchBit id / 128 = k.val := by omega
    have place : watchBit id % 128 = j.val := by omega
    simp only [State.watched, segment, place]

end Sys2Proof.Machine
end

section
/-! SUPPORT and PROOF. LOAD_PLAN and CLEAR_PLAN (R105, R106), the band in force (R113), and the requests and events of
the
band clock (R110 to R116). -/

namespace Sys2Proof.Machine

/-! ### Tables over the bands -/

theorem vector4_toList {α : Type} (t : Table α 4) : t.toList = [tget t 0, tget t 1, tget t 2, tget t 3] := by
  refine List.ext_getElem (by simp) fun i h₁ h₂ => ?_
  have hi : i < 4 := by simpa using h₂
  have fin (j : Fin 4) : t.toList[j.val]'(by simp) = [tget t 0, tget t 1, tget t 2, tget t 3][j.val]'(by simp) := by
    fin_cases j <;> simp [tget]
  exact fin ⟨i, hi⟩

theorem bandBytes_eq (k : Nat) (t : Table Nat 4) :
    bandBytes k t = be k (tget t 0) ++ be k (tget t 1) ++ be k (tget t 2) ++ be k (tget t 3) := by
  simp [bandBytes, vector4_toList]

theorem tget_bandTable (x : Band → Nat) (b : Band) : tget (bandTable (x 0) (x 1) (x 2) (x 3)) b = x b := by
  fin_cases b <;> rfl

theorem table_ext {α : Type} {n : Nat} {t u : Table α n} (h : ∀ i, tget t i = tget u i) : t = u :=
  Vector.ext fun i hi => h ⟨i, hi⟩

theorem bandTable_tget (t : Table Nat 4) : bandTable (tget t 0) (tget t 1) (tget t 2) (tget t 3) = t :=
  table_ext (tget_bandTable (tget t))

/-! ### LOAD_PLAN and CLEAR_PLAN (R105, R106) -/

/-- Prices of the four bands, each forced to the highest at most. -/
def forcedPrices (p0 p1 p2 p3 : Nat) : Table Nat 4 :=
  bandTable (min p0 maxPrice) (min p1 maxPrice) (min p2 maxPrice) (min p3 maxPrice)

/-- The plan contents a load leaves: each energy price forced to the highest at most (R103, R105). -/
def PlanContents.forced (c : PlanContents) : PlanContents :=
  { c with
    energyPrice := forcedPrices (tget c.energyPrice 0) (tget c.energyPrice 1) (tget c.energyPrice 2)
      (tget c.energyPrice 3) }

/-- The bytes of a plan payload behind its slot (11.4). -/
def planBody (c : PlanContents) : Frame := (planPayload 0 c).tail

theorem planPayload_eq (k : PlanSlot) (c : PlanContents) : planPayload k c = byte k.val :: planBody c := rfl

theorem planBody_eq (c : PlanContents) (x : Currency) (h : currencyBytes c.currency = [x.c0, x.c1, x.c2]) :
    planBody c = [x.c0, x.c1, x.c2] ++ be 4 c.startFee
      ++ (be 4 (tget c.energyPrice 0) ++ be 4 (tget c.energyPrice 1) ++ be 4 (tget c.energyPrice 2)
        ++ be 4 (tget c.energyPrice 3))
      ++ (be 2 (tget c.idlePrice 0) ++ be 2 (tget c.idlePrice 1) ++ be 2 (tget c.idlePrice 2)
        ++ be 2 (tget c.idlePrice 3)) ++ [byte c.grace] := by
  rw [planBody, planPayload, bandBytes_eq, bandBytes_eq, h]
  rfl

theorem planOperand_of_currency {c : PlanContents} {x : Currency} (h : currencyBytes c.currency = [x.c0, x.c1, x.c2])
    (hx : ¬ (isCapital x.c0 = true ∧ isCapital x.c1 = true ∧ isCapital x.c2 = true)) : planOperand (planBody c) =
    none := by
  rw [planBody_eq c x h]
  exact if_neg (by simpa only [Bool.and_eq_true, and_assoc] using hx)

theorem planOperand_planBody {c : PlanContents} {x : Currency} (hc : c.currency = some x)
    (hx : isCapital x.c0 = true ∧ isCapital x.c1 = true ∧ isCapital x.c2 = true) (hf : c.startFee < 4294967296)
    (he : ∀ b, tget c.energyPrice b < 4294967296) (hi : ∀ b, tget c.idlePrice b < 65536) (hg : c.grace < 256) :
    planOperand (planBody c) = some (c.forced, maxPrice < tget c.energyPrice 0 || maxPrice < tget c.energyPrice 1 ||
      maxPrice < tget c.energyPrice 2 || maxPrice < tget c.energyPrice 3) := by
  have four (y : Nat) (hy : y < 4294967296) : num (be 4 y) = y := num_be_of_lt hy
  have two (y : Nat) (hy : y < 65536) : num (be 2 y) = y := num_be_of_lt hy
  have capital : (isCapital x.c0 && isCapital x.c1 && isCapital x.c2) = true := by
    rw [hx.1, hx.2.1, hx.2.2]; rfl
  rw [planBody_eq c x (by rw [hc]; rfl)]
  refine (if_pos capital).trans ?_
  show some ((PlanContents.mk (some x) (num (be 4 c.startFee))
      (forcedPrices (num (be 4 (tget c.energyPrice 0))) (num (be 4 (tget c.energyPrice 1)))
        (num (be 4 (tget c.energyPrice 2))) (num (be 4 (tget c.energyPrice 3))))
      (bandTable (num (be 2 (tget c.idlePrice 0))) (num (be 2 (tget c.idlePrice 1)))
        (num (be 2 (tget c.idlePrice 2))) (num (be 2 (tget c.idlePrice 3)))) (byte c.grace).toNat),
    maxPrice < num (be 4 (tget c.energyPrice 0)) || maxPrice < num (be 4 (tget c.energyPrice 1)) ||
      maxPrice < num (be 4 (tget c.energyPrice 2)) || maxPrice < num (be 4 (tget c.energyPrice 3))) = _
  rw [four _ hf, four _ (he 0), four _ (he 1), four _ (he 2), four _ (he 3), two _ (hi 0), two _ (hi 1), two _ (hi 2),
    two _ (hi 3), bandTable_tget, byte_toNat_of_lt hg, PlanContents.forced, ← hc]

theorem anyAbove_iff {t : Table Nat 4} : (maxPrice < tget t 0 || maxPrice < tget t 1 || maxPrice < tget t 2 ||
    maxPrice < tget t 3) = true ↔ ¬ ∀ b, tget t b ≤ maxPrice := by
  simp only [Bool.or_eq_true, decide_eq_true_iff, ← not_le]
  refine ⟨?_, fun h => ?_⟩
  · rintro (((h | h) | h) | h) all
    · exact h (all 0)
    · exact h (all 1)
    · exact h (all 2)
    · exact h (all 3)
  · by_contra low
    push Not at low
    obtain ⟨⟨⟨h0, h1⟩, h2⟩, h3⟩ := low
    refine h fun b => ?_
    fin_cases b
    exacts [h0, h1, h2, h3]

/-- Settles O40. -/
theorem plansAreWrittenWhileUnused : Obligations.PlansAreWrittenWhileUnused := by
  have payload (k : PlanSlot) (c : PlanContents) : (planPayload k c).length ≤ 250 := by simp
  refine ⟨fun s tag hr => ⟨fun b hb => exec_refused .badIndex rfl (by simp) hr (slotOperand_out _ _ hb),
    fun k c hc => exec_refused .badRequest rfl (payload k c) hr ?_⟩, fun s tag k c hr hx hf he hi hg => ?_⟩
  · show ownLoadPlan (planPayload k c) s.taken = _
    have form : planOperand (planBody c) = none := by
      cases hcur : c.currency with
      | none => exact planOperand_of_currency (x := ⟨0, 0, 0⟩) (by rw [hcur]; rfl) (by decide)
      | some x => exact planOperand_of_currency (x := x) (by rw [hcur]; rfl) (hc x hcur)
    simp only [planPayload_eq, ownLoadPlan, indexByte_byte k (by decide), form]
  · obtain ⟨x, hcur, hx⟩ := hx
    have form := planOperand_planBody hcur hx hf he hi hg
    refine ⟨fun used => ⟨exec_refused .inUse rfl (payload k c) hr ?_, exec_refused .inUse rfl (by simp) hr ?_⟩,
      fun unused => ⟨?_, ?_⟩⟩
    · show ownLoadPlan (planPayload k c) s.taken = _
      simp only [planPayload_eq, ownLoadPlan, indexByte_byte k (by decide), form]
      exact if_pos used
    · exact (slotOperand_index _ k _).trans (if_pos used)
    · have used : ¬ 0 < (s.taken.plan k).useCount := by
        show ¬ 0 < (s.plan k).useCount
        omega
      have loaded : ownLoadPlan (planPayload k c) s.taken = (s.taken.updPlan k (Plan.load c.forced),
          ⟨if ∀ b, tget c.energyPrice b ≤ 9999999 then .ok else .clamped, be 2 ((s.plan k).revision + 1).toNat⟩) := by
        simp only [planPayload_eq, ownLoadPlan, indexByte_byte k (by decide), form, if_neg used]
        refine congrArg (fun code => (_, (⟨code, _⟩ : Reply))) ?_
        by_cases high : ∀ b, tget c.energyPrice b ≤ 9999999
        · exact (if_neg fun above => (anyAbove_iff.1 above) high).trans (if_pos high).symm
        · exact (if_pos (anyAbove_iff.2 high)).trans (if_neg high).symm
      have plan (j : PlanSlot) : (s.taken.updPlan k (Plan.load c.forced)).plan j =
          if j = k then Plan.load c.forced (s.plan k) else s.plan j := State.updPlan_plan k j _ s.taken
      refine ⟨(s.taken.updPlan k (Plan.load c.forced)).respond 156 tag
        ⟨if ∀ b, tget c.energyPrice b ≤ 9999999 then .ok else .clamped, be 2 ((s.plan k).revision + 1).toNat⟩,
        ?_, fun b hb => ?_, ?_⟩
      · rw [exec_taken s rfl (payload k c) hr]
        exact congrArg (fun x : State × Reply => Host.Outcome.next (x.1.respond _ tag x.2)) loaded
      · cases b with
        | tariff => exact absurd (by simp) hb
        | uplink => exact absurd (by simp) hb
        | _ => rfl
      · show ((s.taken.updPlan k (Plan.load c.forced)).plan k).loaded = true ∧ _ ∧
          ((s.taken.updPlan k (Plan.load c.forced)).plan k).useCount = 0 ∧ _
        rw [show ((s.taken.updPlan k (Plan.load c.forced)).respond 156 tag _).plan k =
          Plan.load c.forced (s.plan k) from (plan k).trans (if_pos rfl), plan, if_pos rfl]
        refine ⟨rfl, rfl, unused, rfl, rfl, fun b => ?_, rfl, rfl, fun j hj => (plan j).trans (if_neg hj), rfl⟩
        exact tget_bandTable (fun b => min (tget c.energyPrice b) maxPrice) b
    · have used : ¬ 0 < (s.taken.plan k).useCount := by
        show ¬ 0 < (s.plan k).useCount
        omega
      rw [exec_taken s rfl (by simp) hr]
      exact congrArg (fun x : State × Reply => Host.Outcome.next (x.1.respond _ tag x.2))
        ((slotOperand_index s.taken k ownClearPlan).trans (if_neg used))

/-! ### The band in force (R113) -/

/-- The minutes of a sound schedule rise strictly. -/
theorem scheduleSound.pairwise : ∀ {l : List Boundary}, scheduleSound l → l.Pairwise fun a b => a.minute < b.minute
  | [], _ => .nil
  | [b], _ => List.pairwise_singleton _ _
  | a :: b :: l, ⟨hab, h⟩ => by
    have rest := scheduleSound.pairwise h
    refine List.pairwise_cons.2 ⟨fun x hx => ?_, rest⟩
    rcases List.mem_cons.1 hx with rfl | hx
    · exact hab
    · exact hab.trans ((List.pairwise_cons.1 rest).1 x hx)

/-- The last of a list that rises strictly is above every other member. -/
theorem eq_or_lt_getLast {l : List Boundary} {x : Boundary} (h : l.Pairwise fun a b => a.minute < b.minute)
    (hx : l.getLast? = some x) : ∀ y ∈ l, y = x ∨ y.minute < x.minute := by
  obtain ⟨init, rfl⟩ := List.getLast?_eq_some_iff.1 hx
  intro y hy
  rcases List.mem_append.1 hy with hy | hy
  · exact .inr ((List.pairwise_append.1 h).2.2 y hy x (List.mem_singleton_self x))
  · exact .inl (List.mem_singleton.1 hy)

/-- Settles O41. -/
theorem bandInForceFollowsTheSchedule : Obligations.BandInForceFollowsTheSchedule := by
  intro c sound
  refine ⟨fun h => ?_, fun w b hw hb hm greatest => ?_, fun w b hw hlast before => ?_⟩
  · unfold ClockState.bandInForce
    split
    · rfl
    · next w hw =>
      rcases h with h | h
      · rw [h] at hw
        cases hw
      · rw [h]
        rfl
  · simp only [ClockState.bandInForce, hw, scheduleBand]
    have member : b ∈ c.schedule.filter fun x => decide (x.minute ≤ w.sec / 60) :=
      List.mem_filter.2 ⟨hb, decide_eq_true hm⟩
    cases hl : (c.schedule.filter fun x => decide (x.minute ≤ w.sec / 60)).getLast? with
    | none =>
      rw [List.getLast?_eq_none_iff.1 hl] at member
      cases member
    | some x =>
      rcases eq_or_lt_getLast (sound.pairwise.filter _) hl b member with rfl | lt
      · rfl
      · obtain ⟨hx, hxm⟩ := List.mem_filter.1 (List.mem_of_getLast? hl)
        exact absurd lt (Nat.not_lt.2 (greatest x hx (of_decide_eq_true hxm)))
  · have none_ : (c.schedule.filter fun x => decide (x.minute ≤ w.sec / 60)) = [] :=
      List.filter_eq_nil_iff.2 fun x hx => by simpa using before x hx
    simp only [ClockState.bandInForce, hw, scheduleBand, none_, List.getLast?_nil, hlast]

end Sys2Proof.Machine
end

section
/-! SUPPORT and PROOF. Time that passes (R108, R110), and the requests and events of the band clock (R110 to R116). -/

namespace Sys2Proof.Machine

/-! ### Time that passes (R108, R110) -/

/-- Time that passes changes the clock alone. -/
theorem State.advanceTo_eq (m : Nat) (s : State) : s.advanceTo m = { s with clock := (s.advanceTo m).clock } := by
  unfold State.advanceTo
  split
  · rfl
  · rfl

theorem State.advanceTo_clockAt {m : Nat} (s : State) (h : m ≤ Config.lastMs) : ClockAt m s.clock
    (s.advanceTo m).clock := by
  unfold ClockAt State.advanceTo
  by_cases past : m ≤ s.clock.ms
  · simp only [if_pos past]
  · rw [if_neg past, if_neg past, msAt, if_pos h]
    exact ⟨rfl, rfl, rfl, rfl, rfl, rfl, rfl⟩

theorem State.advanceTo_sec {m : Nat} (s : State) (h : m ≤ Config.lastMs) : (s.advanceTo m).sec = s.secAt m := by
  rw [State.sec, s.advanceTo_ms m h, State.secAt]

/-- The blocks but the clock that two states agree on after time has passed. -/
theorem SameBut.advanceTo (m : Nat) (s : State) : SameBut [.clock] s (s.advanceTo m) := by
  rw [s.advanceTo_eq]
  intro b hb
  cases b with
  | clock => exact absurd (List.mem_singleton_self _) hb
  | _ => rfl

/-! ### Boundary events (R114) -/

/-- A boundary event to band b: the epoch advances with its ring entry, its LATCH is requested, BAND_CHANGED is
raised. -/
def State.boundary (b : Band) (s : State) : State :=
  { s with
    clock := { s.clock with
      band := b, epoch := s.clock.epoch + 1, ring := tset s.clock.ring (ringPlace (s.clock.epoch + 1)) b }
    line := { s.line with pendingLatch := some (s.clock.epoch + 1) }
    uplink := s.uplink.withRaised .bandChanged }

theorem State.takeBand_same {b : Band} {s : State} (h : b = s.clock.band) : s.takeBand b = s := if_pos h

theorem State.takeBand_boundary {b : Band} {s : State} (h : b ≠ s.clock.band) : s.takeBand b = s.boundary b := by
  rw [State.takeBand, if_neg h, State.raise_eq]
  rfl

/-- The band, the epoch and its ring after a test that finds band b, and what a boundary event does besides. -/
theorem State.takeBand_cases (b : Band) (s : State) :
    (b = s.clock.band ∧ s.takeBand b = s) ∨ (b ≠ s.clock.band ∧ s.takeBand b = s.boundary b) := by
  by_cases h : b = s.clock.band
  · exact .inl ⟨h, State.takeBand_same h⟩
  · exact .inr ⟨h, State.takeBand_boundary h⟩

/-! ### Minute tests due when a request is taken (R110, R113) -/

/-- A test does not touch what a taken request changes of the uplink. -/
theorem State.takeBand_taken (b : Band) (s : State) : (s.takeBand b).taken = s.taken.takeBand b := by
  rcases s.takeBand_cases b with ⟨h, e⟩ | ⟨h, e⟩
  · rw [e, State.takeBand_same (s := s.taken) h]
  · rw [e, State.takeBand_boundary (s := s.taken) h]
    rfl

theorem State.testDueMinute_taken (s : State) : s.testDueMinute.taken = s.taken.testDueMinute := by
  cases hw : s.clock.wall with
  | none => simp only [State.testDueMinute, hw, show s.taken.clock = s.clock from rfl]
  | some w =>
    cases hk : s.clock.minutesDue with
    | zero => simp only [State.testDueMinute, hw, hk, show s.taken.clock = s.clock from rfl]
    | succ k =>
      rw [State.testDueMinute_some w k s hw hk, State.testDueMinute_some w k s.taken hw hk, State.takeBand_taken]
      rfl

/-- The test of a minute keeps the responses that wait. -/
theorem State.testDueMinute_room {s : State} (hr : s.hasRoom) : s.testDueMinute.hasRoom := by
  have kept : s.testDueMinute.uplink.responses = s.uplink.responses := by
    unfold State.testDueMinute
    split
    · next k _ _ =>
      rcases State.takeBand_cases (scheduleBand s.clock.schedule _)
        { s with clock := { s.clock with minutesDue := k } } with ⟨-, e⟩ | ⟨-, e⟩
      · rw [e]
      · rw [e]
        rfl
    · rfl
    · rfl
  rw [State.hasRoom, kept]
  exact hr

theorem ownSetTime_settled {day sec : Nat} {s t : State} (hsec : sec < 86400) (h : s.settleMinutes = t.settleMinutes) :
    ownSetTime (be 2 day ++ be 4 sec) s = ownSetTime (be 2 day ++ be 4 sec) t := by
  have small : num (be 4 sec) < 86400 := by rwa [num_be_of_lt (by omega)]
  have form (u : State) : ownSetTime (be 2 day ++ be 4 sec) u = (({ u.settleMinutes with clock :=
      { u.settleMinutes.clock with wall := some ⟨num (be 2 day), num (be 4 sec)⟩, minutesDue := 0 } }).testBand,
      Reply.bare .ok) := if_pos small
  rw [form, form, h]

theorem ownSetBands_settled {payload : Frame} {bs : List Boundary} {s t : State}
    (hbs : scheduleOperand payload = some bs)
    (h : s.settleMinutes = t.settleMinutes) : ownSetBands payload s = ownSetBands payload t := by
  simp only [ownSetBands, hbs, h]

/-- A request whose owner takes the tests due first leaves the same state as after the minute event of the oldest. -/
theorem exec_after_due_minute {c : Instr} {place : Nat} {tag : Byte} {payload : Frame} {s u : State}
    (hc : requestOf c = some (place, tag, payload)) (hp : payload.length ≤ 250) (hr : s.hasRoom)
    (settled : ∀ x y : State, x.settleMinutes = y.settleMinutes → ownerOf c x = ownerOf c y)
    (due : 0 < s.clock.minutesDue) (hu : exec .wallClockMinute s = .next u) : exec c s = exec c u := by
  cases hw : s.clock.wall with
  | none =>
    have same : exec .wallClockMinute s = .next s := by
      show execWallClockMinute s = _
      simp only [execWallClockMinute, hw]
    rw [same] at hu
    cases hu
    rfl
  | some w =>
    obtain ⟨k, hk⟩ := Nat.exists_eq_succ_of_ne_zero due.ne'
    have tested : exec .wallClockMinute s = .next s.testDueMinute := by
      show execWallClockMinute s = _
      simp only [execWallClockMinute, hw, if_pos due]
    rw [tested] at hu
    cases hu
    have owner := settled s.taken s.testDueMinute.taken (by
      rw [State.testDueMinute_taken, State.settleMinutes_succ w k s.taken hw hk])
    rw [exec_taken s hc hp hr, exec_taken _ hc hp (State.testDueMinute_room hr), owner]

/-! ### SET_TIME and SET_BANDS (R111, R112) -/

/-- What a clock request with the clock c leaves of a state. -/
def ClockTaken (s : State) (tag kind : Byte) (c : ClockState) (t : State) : Prop :=
  SameBut [.line, .clock, .uplink] s t ∧ t.clock.wall = c.wall ∧ t.clock.schedule = c.schedule ∧
  t.clock.ms = c.ms ∧ t.clock.ticksTaken = c.ticksTaken ∧ t.clock.minutesDue = 0 ∧ t.clock.band = c.bandInForce ∧
  (c.bandInForce = c.band →
    t.clock.epoch = c.epoch ∧ t.clock.ring = c.ring ∧ t.line = s.line ∧ t.uplink = s.answered kind tag .ok []) ∧
  (c.bandInForce ≠ c.band →
    t.clock.epoch = c.epoch + 1 ∧ t.clock.ring = tset c.ring (ringPlace (c.epoch + 1)) c.bandInForce ∧
    t.line = { s.line with pendingLatch := some (c.epoch + 1) } ∧
    t.uplink = (s.answered kind tag .ok []).withRaised .bandChanged)

theorem clockTaken_testBand (s : State) (tag kind : Byte) (c : ClockState) :
    ClockTaken s tag kind c
      ((({ s.taken with clock := { c with minutesDue := 0 } }).testBand).respond kind tag (Reply.bare .ok)) := by
  have force : ({ c with minutesDue := 0 } : ClockState).bandInForce = c.bandInForce := rfl
  rw [State.testBand]
  rcases State.takeBand_cases c.bandInForce { s.taken with clock := { c with minutesDue := 0 } } with ⟨h, e⟩ | ⟨h, e⟩
  · rw [force, e]
    refine ⟨fun b hb => ?_, rfl, rfl, rfl, rfl, rfl, h.symm, fun _ => ⟨rfl, rfl, rfl, rfl⟩, fun x => absurd h x⟩
    cases b with
    | line | clock | uplink => simp at hb
    | _ => rfl
  · rw [force, e]
    refine ⟨fun b hb => ?_, rfl, rfl, rfl, rfl, rfl, rfl, fun x => absurd x h, fun _ => ⟨rfl, rfl, rfl, rfl⟩⟩
    cases b with
    | line | clock | uplink => simp at hb
    | _ => rfl

theorem chunks_flatMap {α : Type} {k : Nat} {f : α → Frame} : ∀ {l : List α}, (∀ x ∈ l, (f x).length = k) →
    chunks k l.length (l.flatMap f) = l.map f
  | [], _ => rfl
  | x :: l, h => by
    have here : (f x).length = k := h x (by simp)
    have rest := chunks_flatMap (l := l) fun y hy => h y (by simp [hy])
    simp only [List.length_cons, chunks, List.flatMap_cons, List.map_cons]
    rw [← here, List.take_left, List.drop_left, here, rest]

/-- The bytes of a boundary (11.6). -/
def boundaryBytes (b : Boundary) : Frame := be 2 b.minute ++ [byte b.band.val]

theorem parseBoundary_boundaryBytes {b : Boundary} (h : b.minute < 65536) :
    parseBoundary (boundaryBytes b) = if b.minute < 1440 then some b else none := by
  have minute : num (be 2 b.minute) = b.minute := num_be_of_lt h
  show (if num (be 2 b.minute) < 1440 then (indexByte 4 (byte b.band.val)).map fun band =>
    (⟨num (be 2 b.minute), band⟩ :
    Boundary) else none) = _
  rw [minute, indexByte_byte b.band (by decide)]
  rfl

theorem ascending_iff_pairwise : ∀ {l : List Boundary}, ascending l = true ↔ l.Pairwise fun a b => a.minute < b.minute
  | [] => by simp [ascending]
  | [b] => by simp [ascending]
  | a :: b :: l => by
    rw [ascending, Bool.and_eq_true, decide_eq_true_eq, ascending_iff_pairwise, List.pairwise_cons (a := a)]
    refine ⟨fun ⟨h, rest⟩ => ⟨fun x hx => ?_, rest⟩, fun ⟨h, rest⟩ => ⟨h b (by simp), rest⟩⟩
    rcases List.mem_cons.1 hx with rfl | hx
    · exact h
    · exact h.trans ((List.pairwise_cons.1 rest).1 x hx)

theorem scheduleSound.minute_lt : ∀ {l : List Boundary}, scheduleSound l → ∀ b ∈ l, b.minute < 1440
  | [b], h, x, hx => by rwa [List.mem_singleton.1 hx]
  | a :: b :: l, ⟨hab, h⟩, x, hx => by
    rcases List.mem_cons.1 hx with rfl | hx
    · exact hab.trans (h.minute_lt b (by simp))
    · exact h.minute_lt x hx

theorem scheduleSound_iff {l : List Boundary} :
    scheduleSound l ↔ ascending l = true ∧ ∀ b ∈ l, b.minute < 1440 :=
  ⟨fun h => ⟨ascending_iff_pairwise.2 h.pairwise, h.minute_lt⟩, fun h => scheduleSound_of_ascending h.1 h.2⟩

theorem mapM_eq_none {α β : Type} {f : α → Option β} {l : List α} {x : α} (hx : x ∈ l) (h : f x = none) :
    l.mapM f = none := by
  induction l with
  | nil => cases hx
  | cons y l ih =>
    rw [List.mapM_cons]
    rcases List.mem_cons.1 hx with rfl | hx
    · rw [h]
      rfl
    · rw [ih hx]
      cases f y <;> rfl

theorem mapM_eq_some {α β : Type} {f : α → Option β} {g : β → α} {l : List β} (h : ∀ y ∈ l, f (g y) = some y) :
    (l.map g).mapM f = some l := by
  induction l with
  | nil => rfl
  | cons y l ih =>
    rw [List.map_cons, List.mapM_cons, h y (by simp), ih fun z hz => h z (by simp [hz])]
    rfl

/-- The payload of SET_BANDS for a schedule (11.6). -/
def scheduleBytes (bs : List Boundary) : Frame := byte bs.length :: bs.flatMap boundaryBytes

theorem scheduleBytes_parts {bs : List Boundary} (h8 : bs.length ≤ 8) :
    (byte bs.length).toNat = bs.length ∧ (bs.flatMap boundaryBytes).length = 3 * bs.length ∧
    chunks 3 bs.length (bs.flatMap boundaryBytes) = bs.map boundaryBytes := by
  refine ⟨byte_toNat_of_lt (by omega), ?_, chunks_flatMap fun b _ => by simp [boundaryBytes]⟩
  simp [boundaryBytes, List.length_flatMap, Nat.mul_comm]

theorem scheduleBytes_length {bs : List Boundary} (h8 : bs.length ≤ 8) : (scheduleBytes bs).length ≤ 250 := by
  rw [scheduleBytes, List.length_cons, (scheduleBytes_parts h8).2.1]
  omega

theorem scheduleOperand_scheduleBytes {bs : List Boundary} (h1 : 1 ≤ bs.length) (h8 : bs.length ≤ 8)
    (sound : scheduleSound bs) : scheduleOperand (scheduleBytes bs) = some bs := by
  obtain ⟨count, length, parts⟩ := scheduleBytes_parts h8
  obtain ⟨asc, small⟩ := scheduleSound_iff.1 sound
  have parsed : (bs.map boundaryBytes).mapM parseBoundary = some bs := mapM_eq_some fun b hb => by
    rw [parseBoundary_boundaryBytes (by have := small b hb; omega), if_pos (small b hb)]
  rw [scheduleBytes, scheduleOperand, count, if_pos ⟨h1, h8, length⟩, parts, parsed]
  exact if_pos asc

theorem scheduleOperand_unsound {bs : List Boundary} (h8 : bs.length ≤ 8) (form : ∀ b ∈ bs, b.minute < 65536)
    (unsound : ¬ scheduleSound bs) : scheduleOperand (scheduleBytes bs) = none := by
  obtain ⟨count, length, parts⟩ := scheduleBytes_parts h8
  rw [scheduleBytes, scheduleOperand, count]
  by_cases ok : 1 ≤ bs.length ∧ bs.length ≤ 8 ∧ (bs.flatMap boundaryBytes).length = 3 * bs.length
  · rw [if_pos ok, parts]
    by_cases small : ∀ b ∈ bs, b.minute < 1440
    · have parsed : (bs.map boundaryBytes).mapM parseBoundary = some bs := mapM_eq_some fun b hb => by
        rw [parseBoundary_boundaryBytes (form b hb), if_pos (small b hb)]
      rw [parsed]
      exact if_neg fun asc => unsound (scheduleSound_iff.2 ⟨asc, small⟩)
    · push Not at small
      obtain ⟨b, hb, large⟩ := small
      rw [mapM_eq_none (List.mem_map_of_mem hb)
        (by rw [parseBoundary_boundaryBytes (form b hb), if_neg (Nat.not_lt.2 large)])]
  · exact if_neg ok

theorem chunks_append {k a : Nat} (c : Nat) {before : Frame} (rest : Frame) (h : before.length = k * a) :
    chunks k (a + c) (before ++ rest) = chunks k a before ++ chunks k c rest := by
  induction a generalizing before with
  | zero =>
    obtain rfl := List.length_eq_zero_iff.1 (h.trans (Nat.mul_zero k))
    rw [Nat.zero_add]
    rfl
  | succ a ih =>
    have long : k ≤ before.length := by rw [h]; exact Nat.le_mul_of_pos_right k (Nat.succ_pos a)
    have cut : (before.drop k).length = k * a := by rw [List.length_drop, h, Nat.mul_succ, Nat.add_sub_cancel]
    rw [show a + 1 + c = (a + c) + 1 by omega, chunks, chunks, List.take_append_of_le_length long,
      List.drop_append_of_le_length long, ih cut, List.cons_append]

theorem scheduleOperand_band_out {count m1 m0 band : Byte} {before rest : Frame} (hm : before.length % 3 = 0)
    (hl : before.length + 3 + rest.length = 3 * count.toNat) (hb : 4 ≤ band.toNat) :
    scheduleOperand ([count] ++ before ++ [m1, m0, band] ++ rest) = none := by
  have bad : parseBoundary [m1, m0, band] = none := by
    rw [parseBoundary, indexByte_of_le hb, Option.map_none, ite_self]
  show scheduleOperand (count :: (before ++ [m1, m0, band] ++ rest)) = none
  rw [scheduleOperand]
  by_cases ok : 1 ≤ count.toNat ∧ count.toNat ≤ 8 ∧ (before ++ [m1, m0, band] ++ rest).length = 3 * count.toNat
  · have parts : chunks 3 count.toNat (before ++ [m1, m0, band] ++ rest) =
        chunks 3 (before.length / 3) before ++ [m1, m0, band] :: chunks 3
          (count.toNat - before.length / 3 - 1) rest := by
      rw [show count.toNat = before.length / 3 + (count.toNat - before.length / 3 - 1 + 1) by omega, List.append_assoc,
        chunks_append _ _ (by omega)]
      exact congrArg₂ _ (congrArg (chunks 3 · before) (by omega)) (congrArg _ (congrArg (chunks 3 · rest) (by omega)))
    rw [if_pos ok, parts, mapM_eq_none (x := [m1, m0, band]) (by simp) bad]
  · exact if_neg ok

/-- Settles O42. -/
theorem clockRequestsTestTheBand : Obligations.ClockRequestsTestTheBand := by
  refine ⟨fun s tag hr => ⟨fun day sec hday hsec => ⟨fun due => ?_, fun due u hu => ?_⟩, fun day sec _ hsec hlt => ?_,
    fun bs h1 h8 sound => ⟨fun due => ?_, fun due u hu => ?_⟩, fun bs _ h8 form unsound => ?_,
    fun count m1 m0 band before rest _ hc hm hl hb => ?_⟩, fun s tag hr => ?_⟩
  · have number : num (be 2 day) = day ∧ num (be 4 sec) = sec := ⟨num_be_of_lt hday, num_be_of_lt (by omega)⟩
    have owner : ownSetTime (be 2 day ++ be 4 sec) s.taken = (({ s.taken with clock :=
        { s.clock with wall := some ⟨day, sec⟩, minutesDue := 0 } }).testBand, Reply.bare .ok) := by
      refine (if_pos (show num (be 4 sec) < 86400 by omega)).trans ?_
      rw [State.settleMinutes_of_none s.taken due]
      show (({ s.taken with clock := { s.clock with
        wall := some ⟨num (be 2 day), num (be 4 sec)⟩, minutesDue := 0 } }).testBand, Reply.bare .ok) = _
      rw [number.1, number.2]
    refine ⟨_, (exec_taken s rfl (by simp) hr).trans (congrArg
      (fun x : State × Reply => Host.Outcome.next (x.1.respond _ tag x.2)) owner),
      clockTaken_testBand s tag 159 { s.clock with wall := some ⟨day, sec⟩ }⟩
  · exact exec_after_due_minute rfl (by simp) hr (fun x y h => ownSetTime_settled hsec h) due hu
  · have large : ¬ num (be 4 sec) < 86400 := by rw [num_be_of_lt hlt]; omega
    exact exec_refused .badRequest rfl (by simp) hr (if_neg large)
  · have form := scheduleOperand_scheduleBytes h1 h8 sound
    have owner : ownSetBands (scheduleBytes bs) s.taken = (({ s.taken with clock :=
        { s.clock with schedule := bs, minutesDue := 0 } }).testBand, Reply.bare .ok) := by
      simp only [ownSetBands, form, State.settleMinutes_of_none s.taken due]
      rfl
    refine ⟨_, (exec_taken s rfl ?_ hr).trans (congrArg
      (fun x : State × Reply => Host.Outcome.next (x.1.respond _ tag x.2)) owner),
      clockTaken_testBand s tag 160 { s.clock with schedule := bs }⟩
    exact scheduleBytes_length h8
  · exact exec_after_due_minute rfl (scheduleBytes_length h8) hr
      (fun x y h => ownSetBands_settled (scheduleOperand_scheduleBytes h1 h8 sound) h) due hu
  · refine exec_refused .badRequest rfl (scheduleBytes_length h8) hr ?_
    show ownSetBands (scheduleBytes bs) s.taken = _
    simp only [ownSetBands, scheduleOperand_unsound h8 form unsound]
  · refine exec_refused .badRequest rfl (by simp; omega) hr ?_
    show ownSetBands _ s.taken = _
    simp only [ownSetBands, scheduleOperand_band_out hm hl hb]
  · exact exec_taken s rfl (by simp) hr

end Sys2Proof.Machine
end

section
/-! SUPPORT and PROOF. The band epoch over every command (R114), and the wall clock's minutes (R110, R113). -/

namespace Sys2Proof.Machine

/-- The epoch, the ring and the band stand still. -/
def ClockState.SameEpoch (c d : ClockState) : Prop := d.epoch = c.epoch ∧ d.ring = c.ring ∧ d.band = c.band

/-- The epoch advances by one, with its ring entry and its LATCH (R114 to R116). -/
def EpochAdvanced (c : ClockState) (t : State) : Prop :=
  t.clock.epoch = c.epoch + 1 ∧ t.clock.ring = tset c.ring (ringPlace t.clock.epoch) t.clock.band ∧
  t.line.pendingLatch = some t.clock.epoch

/-- What a test of the band leaves of the epoch: nothing changed, or a boundary event to another band (R113, R114). -/
def BandTested (c : ClockState) (t : State) : Prop :=
  c.SameEpoch t.clock ∨
    (EpochAdvanced c t ∧ t.clock.band ≠ c.band ∧ hasEvent .bandChanged t.uplink.pendingSet = true)

theorem bandTested_takeBand (b : Band) {c : ClockState} {s : State} (h : c.SameEpoch s.clock) : BandTested c
    (s.takeBand b) := by
  obtain ⟨epoch, ring, band⟩ := h
  rcases s.takeBand_cases b with ⟨-, e⟩ | ⟨hb, e⟩
  · rw [e]
    exact .inl ⟨epoch, ring, band⟩
  · rw [e]
    refine .inr ⟨⟨congrArg (· + 1) epoch, ?_, rfl⟩, band ▸ hb, ?_⟩
    · show tset s.clock.ring _ b = tset c.ring _ b
      rw [ring]
      rfl
    · exact (hasEvent_or_only _ _ _).trans (by simp)

theorem bandTested_testDueMinute {c : ClockState} {s : State} (h : c.SameEpoch s.clock) : BandTested c
    s.testDueMinute := by
  unfold State.testDueMinute
  split
  · exact bandTested_takeBand _ h
  · exact .inl h
  · exact .inl h

theorem bandTested_wallClockMinute {s t : State} (h : exec .wallClockMinute s = .next t) : BandTested s.clock t := by
  change execWallClockMinute s = _ at h
  unfold execWallClockMinute at h
  split at h
  · cases h
    exact .inl ⟨rfl, rfl, rfl⟩
  · cases h
    split
    · exact bandTested_testDueMinute ⟨rfl, rfl, rfl⟩
    · exact bandTested_testDueMinute ((Keeps.advanceToSec (M := ∅) _ s).clock.epoch (by simp))

/-- What a frame from the host leaves of the clock and the line is left by its owner, or it is not taken. -/
theorem State.takeFrame_cases (kind tag : Byte) (payload : Frame) (owner : State → State × Reply) (s : State) :
    ((s.takeFrame kind tag payload owner).clock = s.clock) ∨
    ∃ x : State, x.clock = s.clock ∧ s.takeFrame kind tag payload owner = (owner x).1.respond kind tag (owner x).2 := by
  unfold State.takeFrame
  split
  · exact .inl (by simp [State.framingError])
  · split
    · exact .inr ⟨s.goodFrame.countRequest, rfl, rfl⟩
    · exact .inl (by rw [State.overrun_eq]; rfl)

theorem bandTested_setTime {payload : Frame} {s : State} (h : s.clock.minutesDue = 0) :
    BandTested s.clock (ownSetTime payload s).1 := by
  unfold ownSetTime
  split
  · split
    · dsimp only
      rw [State.settleMinutes_of_none s h]
      exact bandTested_takeBand _ ⟨rfl, rfl, rfl⟩
    · exact .inl ⟨rfl, rfl, rfl⟩
  · exact .inl ⟨rfl, rfl, rfl⟩

theorem bandTested_setBands {payload : Frame} {s : State} (h : s.clock.minutesDue = 0) :
    BandTested s.clock (ownSetBands payload s).1 := by
  unfold ownSetBands
  split
  · dsimp only
    rw [State.settleMinutes_of_none s h]
    exact bandTested_takeBand _ ⟨rfl, rfl, rfl⟩
  · exact .inl ⟨rfl, rfl, rfl⟩

/-- A request whose owner tests the band tests it, or is not taken. -/
theorem bandTested_request {c : Instr} {place : Nat} {tag : Byte} {payload : Frame} {s t : State}
    (hc : requestOf c = some (place, tag, payload)) (h : exec c s = .next t)
    (owner : ∀ x : State, x.clock = s.clock → BandTested s.clock (ownerOf c x).1) : BandTested s.clock t := by
  rw [exec_request s hc] at h
  cases h
  rcases s.takeFrame_cases (byte (place + 128)) tag payload (ownerOf c) with e | ⟨x, hx, e⟩
  · exact .inl (by rw [State.takeRequest, e]; exact ⟨rfl, rfl, rfl⟩)
  · rw [State.takeRequest, e]
    exact owner x hx

/-- The owner of LATCH_NOW. -/
def ownLatchNow (s : State) : State × Reply := (s.nextEpoch, Reply.bare .ok)

theorem epochAdvanced_latchNow {tag : Byte} {payload : Frame} {s t : State}
    (h : exec (.latchNow tag payload) s = .next t) :
    s.clock.SameEpoch t.clock ∨ EpochAdvanced s.clock t := by
  change Host.Outcome.next (s.takeFrame (byte (33 + 128)) tag payload (noOperands payload ownLatchNow)) = _ at h
  cases h
  rcases s.takeFrame_cases (byte (33 + 128)) tag payload (noOperands payload ownLatchNow) with e | ⟨x, hx, e⟩
  · rw [e]
    exact .inl ⟨rfl, rfl, rfl⟩
  · rw [e, ← hx]
    show x.clock.SameEpoch (noOperands payload ownLatchNow x).1.clock ∨
      EpochAdvanced x.clock (noOperands payload ownLatchNow x).1
    unfold noOperands
    split
    · exact .inr ⟨rfl, rfl, rfl⟩
    · exact .inl ⟨rfl, rfl, rfl⟩

/-- Settles O10. -/
theorem epochAdvancesByOneWithItsLatch : Obligations.EpochAdvancesByOneWithItsLatch := by
  intro c s t h hp hi none_
  have tested (b : BandTested s.clock t)
      (hc : c = .wallClockMinute ∨ ∃ tag body, c = .setTime tag body ∨ c = .setBands tag body) :
      s.clock.SameEpoch t.clock ∨ (t.clock.epoch = s.clock.epoch + 1 ∧
        t.clock.ring = tset s.clock.ring (ringPlace t.clock.epoch) t.clock.band ∧
        t.line.pendingLatch = some t.clock.epoch ∧ ((∃ tag body, c = .latchNow tag body) ∨
          (t.clock.band ≠ s.clock.band ∧ hasEvent .bandChanged t.uplink.pendingSet = true ∧
            (c = .wallClockMinute ∨ ∃ tag body, c = .setTime tag body ∨ c = .setBands tag body)))) := by
    rcases b with same | ⟨⟨epoch, ring, latch⟩, band, event⟩
    · exact .inl same
    · exact .inr ⟨epoch, ring, latch, .inr ⟨band, event, hc⟩⟩
  have settled (hc : ∃ tag body, c = .setTime tag body ∨ c = .setBands tag body) : s.clock.minutesDue = 0 := by
    by_contra due
    obtain ⟨tag, body, hc⟩ := hc
    exact hc.elim (none_ due tag body).1 (none_ due tag body).2
  by_cases writes : Privilege.epoch ∈ privileges True c s
  · rcases writes with rfl | ⟨tag, body, rfl | rfl | rfl⟩
    · exact tested (bandTested_wallClockMinute h) (.inl rfl)
    · have due := settled ⟨tag, body, .inl rfl⟩
      exact tested (bandTested_request rfl h fun x hx => hx ▸ bandTested_setTime (by rw [hx, due]))
        (.inr ⟨tag, body, .inl rfl⟩)
    · have due := settled ⟨tag, body, .inr rfl⟩
      exact tested (bandTested_request rfl h fun x hx => hx ▸ bandTested_setBands (by rw [hx, due]))
        (.inr ⟨tag, body, .inr rfl⟩)
    · rcases epochAdvanced_latchNow h with same | ⟨epoch, ring, latch⟩
      · exact .inl same
      · exact .inr ⟨epoch, ring, latch, .inl ⟨tag, body, rfl⟩⟩
  · exact .inl ((exec_keeps c s hp hi t h).clock.epoch writes)

end Sys2Proof.Machine
end

section
/-! SUPPORT. What the operations of the sequencer and of the session stop leave of the connector they are about: its
record after an open cause (R47), its slot, and its session after a stop cause (R90); and what a fold over the
connectors
leaves of each. -/

namespace Sys2Proof.Machine

/-! ### The other connectors and pedestals -/

/-- The privilege to touch one connector and its pedestal. -/
def atConn (n : Conn) : Set Privilege := {.conn n, .ped (pedOf n)}

theorem touches_atConn (n : Conn) : Touches (atConn n) n := ⟨.inl rfl, .inr rfl⟩

section others

variable {n : Conn} {s t : State} (h : Keeps (atConn n) s t)

include h

theorem Keeps.seq_of_ne {m : Conn} (hm : m ≠ n) : t.seq m = s.seq m :=
  h.sequencer.rec_ m (by simp [atConn, hm])

theorem Keeps.sess_of_ne {m : Conn} (hm : m ≠ n) : t.sess m = s.sess m :=
  h.entries.entry m (by simp [atConn, hm])

theorem Keeps.decision_of_ne {m : Conn} (hm : m ≠ n) : t.decision m = s.decision m :=
  h.auth.decision m (by simp [atConn, hm])

theorem Keeps.openSet_of_ne {m : Conn} (hm : m ≠ n) : (t.slots m).openSet = (s.slots m).openSet :=
  h.line.openSet m (by simp [atConn, hm])

theorem Keeps.ped_of_ne {q : Ped} (hq : q ≠ pedOf n) : t.ped q = s.ped q :=
  h.line.ped q (by simp [atConn, hq])

end others

/-- What touches no connector keeps the slot flag of each, and every pedestal. -/
theorem Keeps.openSet_all {s t : State} (h : Keeps ∅ s t) (m : Conn) : (t.slots m).openSet = (s.slots m).openSet :=
  h.line.openSet m (by simp)

theorem Keeps.ped_all {s t : State} (h : Keeps ∅ s t) (q : Ped) : t.ped q = s.ped q :=
  h.line.ped q (by simp)

/-! ### Queues -/

@[simp] theorem State.localActivity_queue (p q : Ped) (s : State) : ((s.localActivity p).ped q).queue =
  (s.ped q).queue := by
  rcases State.localActivity_ped_cases p s with ⟨-, e⟩ | ⟨-, e⟩
  · rw [e, State.updPed_ped]
    split
    · next h => rw [h]
    · rfl
  · rw [e]

@[simp] theorem State.setContactor_queue (n : Conn) (c : ContactorState) (q : Ped) (s : State) :
    ((s.setContactor n c).ped q).queue = (s.ped q).queue := by
  unfold State.setContactor
  dsimp only
  split
  · exact State.localActivity_queue _ _ _
  · rfl

@[simp] theorem State.setContactor_closeWaits (n m : Conn) (c : ContactorState) (s : State) :
    (s.setContactor n c).closeWaits m = s.closeWaits m := by simp [State.closeWaits]

@[simp] theorem State.enterOpening_closeWaits (n m : Conn) (s : State) :
    (s.enterOpening n).closeWaits m = s.closeWaits m :=
  State.setContactor_closeWaits n m _ _

@[simp] theorem State.enterOpening_slots (n m : Conn) (s : State) : (s.enterOpening n).slots m = s.slots m :=
  State.setContactor_slots n m _ _

theorem State.closeWaits_congr {s t : State} {m : Conn} (h : (t.ped (pedOf m)).queue = (s.ped (pedOf m)).queue) :
    t.closeWaits m = s.closeWaits m := by rw [State.closeWaits, h, State.closeWaits]

theorem QueueEntry.isClose_unique {n m : Conn} {e : QueueEntry} (hn : e.isClose n = true) (hm : m ≠ n) :
    e.isClose m = false := by
  simp only [QueueEntry.isClose, beq_iff_eq] at hn
  simp only [QueueEntry.isClose, hn, beq_eq_false_iff_ne, ne_eq, QueueCmd.close.injEq]
  exact fun h => hm h.symm

theorem State.setOpenSlot_closeWaits_of_ne {n m : Conn} (s : State) (h : m ≠ n) :
    (s.setOpenSlot n).closeWaits m = s.closeWaits m := by
  rw [State.closeWaits, State.setOpenSlot_ped]
  split
  · rw [State.closeWaits, List.any_filter]
    refine congrArg (List.any _) (funext fun e => ?_)
    by_cases he : e.isClose n = true
    · rw [QueueEntry.isClose_unique he h, Bool.and_false]
    · rw [Bool.not_eq_true] at he
      rw [he]
      rfl
  · rfl

/-! ### Open causes (R47, R48) -/

/-- A connector record as it enters OPENING (R48). -/
def SeqRecord.toOpening (r : SeqRecord) : SeqRecord :=
  { r with contactor := .opening, openAcked := false, repliesSinceOpen := 0 }

/-- A connector record after an open cause, given whether its CLOSE waits in the queue (R47). -/
def SeqRecord.openCaused (waits : Bool) (r : SeqRecord) : SeqRecord :=
  match r.contactor with
  | .closing =>
    if waits then { r with released := false, restCount := 0, openPending := false }.toOpening
    else { r with released := false, restCount := 0, openPending := true }
  | .verifying => { r with released := false, restCount := 0, settleDeadline := none }.toOpening
  | .closed => { r with released := false, restCount := 0, idleCount := 0 }.toOpening
  | .opened | .opening | .faulted | .locked => { r with released := false, restCount := 0 }

/-- Connector n with its idle release forgotten. -/
def State.rested (s : State) (n : Conn) : State := s.updSeq n fun r => { r with released := false, restCount := 0 }

/-- Connector n with a CLOSE that is to be followed by an OPEN. -/
def State.openPends (s : State) (n : Conn) : State :=
  ((s.rested n).updSeq n fun r => { r with openPending := true }).setOpenSlot n

theorem State.rested_seq (s : State) (n : Conn) :
    (s.rested n).seq n = { s.seq n with released := false, restCount := 0 } := by
  rw [State.rested, State.updSeq_seq, if_pos rfl]

theorem State.openPends_seq (s : State) (n : Conn) :
    (s.openPends n).seq n = { s.seq n with released := false, restCount := 0, openPending := true } := by
  rw [State.openPends, State.setOpenSlot_seq, State.updSeq_seq, if_pos rfl, State.rested_seq]

section openCause

variable {n : Conn} {s : State}

theorem State.openCause_of {c : ContactorState} (hc : (s.seq n).contactor = c) : s.openCause n =
    match c with
    | .closing =>
      if s.closeWaits n then ((s.openPends n).updSeq n fun r => { r with openPending := false }).enterOpening n
      else s.openPends n
    | .verifying => (((s.rested n).setOpenSlot n).updSeq n fun r => { r with settleDeadline := none }).enterOpening n
    | .closed => (((s.rested n).setOpenSlot n).updSeq n fun r => { r with idleCount := 0 }).enterOpening n
    | .opened | .opening | .faulted | .locked => s.rested n := by
  have same : ((s.rested n).seq n).contactor = c := by rw [State.rested_seq, ← hc]
  unfold State.openCause
  rw [← State.rested]
  dsimp only
  rw [same]
  cases c <;> rfl

end openCause

theorem State.openCause_seq (n : Conn) (s : State) : (s.openCause n).seq n = (s.seq n).openCaused (s.closeWaits n) := by
  unfold SeqRecord.openCaused
  cases hc : (s.seq n).contactor with
  | closing =>
    rw [State.openCause_of hc]
    cases s.closeWaits n with
    | true =>
      show (((s.openPends n).updSeq n _).enterOpening n).seq n = _
      rw [State.enterOpening_seq, if_pos rfl, State.updSeq_seq, if_pos rfl, State.openPends_seq]
      rfl
    | false =>
      exact (s.openPends_seq n).trans (congrArg (fun c => { s.seq n with
        contactor := c, released := false, restCount := 0, openPending := true }) hc)
  | verifying | closed =>
    rw [State.openCause_of hc]
    dsimp only
    rw [State.enterOpening_seq, if_pos rfl, State.updSeq_seq, if_pos rfl, State.setOpenSlot_seq, State.rested_seq]
    rfl
  | opened | opening | faulted | locked =>
    rw [State.openCause_of hc]
    exact (s.rested_seq n).trans
      (congrArg (fun c => { s.seq n with contactor := c, released := false, restCount := 0 }) hc)

theorem SeqRecord.openCaused_kept (waits : Bool) (r : SeqRecord) :
    (r.openCaused waits).locks = r.locks ∧ (r.openCaused waits).fault = r.fault := by
  unfold SeqRecord.openCaused
  split
  · split
    · exact ⟨rfl, rfl⟩
    · exact ⟨rfl, rfl⟩
  all_goals exact ⟨rfl, rfl⟩

theorem State.openCaused_contactor (s : State) (n : Conn) :
    ((s.seq n).openCaused (s.closeWaits n)).contactor = s.contactorAfterOpen n := by
  unfold SeqRecord.openCaused State.contactorAfterOpen
  cases hc : (s.seq n).contactor with
  | closing =>
    cases s.closeWaits n with
    | true => rfl
    | false => rfl
  | verifying | closed => rfl
  | opened | opening | faulted | locked => rfl

theorem State.openPends_openSet (s : State) (n : Conn) : ((s.openPends n).slots n).openSet = true := by
  rw [State.openPends, State.setOpenSlot_slots, if_pos rfl]

/-- An open cause at a live contactor sets the OPEN slot. -/
theorem State.openCause_openSet {n : Conn} {s : State} (h : (s.seq n).contactor.live = true) :
    ((s.openCause n).slots n).openSet = true := by
  cases hc : (s.seq n).contactor with
  | closing =>
    rw [State.openCause_of hc]
    cases s.closeWaits n with
    | true =>
      show ((((s.openPends n).updSeq n _).enterOpening n).slots n).openSet = true
      rw [State.enterOpening_slots]
      exact s.openPends_openSet n
    | false => exact s.openPends_openSet n
  | verifying | closed =>
    rw [State.openCause_of hc]
    dsimp only
    rw [State.enterOpening_slots]
    exact congrArg SafetySlots.openSet ((State.setOpenSlot_slots n n (s.rested n)).trans (if_pos rfl))
  | opened | opening | faulted | locked => rw [hc] at h; cases h

/-- An open cause at a contactor that is not live forgets the idle release alone. -/
theorem State.openCause_of_not_live {n : Conn} {s : State} (h : (s.seq n).contactor.live = false) :
    s.openCause n = s.rested n := by
  cases hc : (s.seq n).contactor with
  | closing | verifying | closed => rw [hc] at h; cases h
  | opened | opening | faulted | locked => exact State.openCause_of hc

/-- An open cause leaves the queues of the other connectors' CLOSE commands as they are. -/
theorem State.openCause_closeWaits_of_ne {n m : Conn} (s : State) (h : m ≠ n) :
    (s.openCause n).closeWaits m = s.closeWaits m := by
  have pends : (s.openPends n).closeWaits m = s.closeWaits m :=
    State.setOpenSlot_closeWaits_of_ne ((s.rested n).updSeq n _) h
  have slot : ((s.rested n).setOpenSlot n).closeWaits m = s.closeWaits m := State.setOpenSlot_closeWaits_of_ne _ h
  cases hc : (s.seq n).contactor with
  | closing =>
    rw [State.openCause_of hc]
    cases s.closeWaits n with
    | true => exact (State.enterOpening_closeWaits n m _).trans pends
    | false => exact pends
  | verifying | closed =>
    rw [State.openCause_of hc]
    exact (State.enterOpening_closeWaits n m _).trans slot
  | opened | opening | faulted | locked =>
    rw [State.openCause_of hc]
    rfl

/-- After an open cause at a live contactor, no CLOSE of the connector waits. -/
theorem State.openCause_closeWaits {n : Conn} {s : State} (h : (s.seq n).contactor.live = true) :
    (s.openCause n).closeWaits n = false := by
  have pends : (s.openPends n).closeWaits n = false := State.setOpenSlot_closeWaits n _
  have slot : ((s.rested n).setOpenSlot n).closeWaits n = false := State.setOpenSlot_closeWaits n _
  cases hc : (s.seq n).contactor with
  | closing =>
    rw [State.openCause_of hc]
    cases s.closeWaits n with
    | true => exact (State.enterOpening_closeWaits n n _).trans pends
    | false => exact pends
  | verifying | closed =>
    rw [State.openCause_of hc]
    exact (State.enterOpening_closeWaits n n _).trans slot
  | opened | opening | faulted | locked => rw [hc] at h; cases h

/-! ### Stop causes (R89, R90) -/

/-- Whether a stop cause puts a session of this state into STOPPING (R89). -/
def EndReason.stops (why : EndReason) : SessionKind → Bool
  | .authorized => why.stopsAuthorized
  | .charging | .complete => why.stopsRunning
  | .empty | .awaitingAuth | .stopping | .closed => false

/-- Whether a stop cause withdraws the query of a session of this state (R89). -/
def EndReason.ends (why : EndReason) (k : SessionKind) : Prop := k = .awaitingAuth ∧ why.withdraws = true

theorem State.stopCause_stops {why : EndReason} {n : Conn} {s : State} (h : why.stops (s.sess n).state = true) :
    s.stopCause why n = s.beginStop why n := by
  unfold State.stopCause
  cases hk : (s.sess n).state with
  | authorized | charging | complete => rw [hk] at h; exact if_pos h
  | empty | awaitingAuth | stopping | closed => rw [hk] at h; cases h

theorem State.stopCause_ends {why : EndReason} {n : Conn} {s : State} (h : why.ends (s.sess n).state) :
    s.stopCause why n = s.withdraw n := by
  obtain ⟨hk, hw⟩ := h
  simp only [State.stopCause, hk, hw, if_true]

theorem State.stopCause_none {why : EndReason} {n : Conn} {s : State} (h : why.stops (s.sess n).state = false)
    (he : ¬ why.ends (s.sess n).state) : s.stopCause why n = s := by
  unfold State.stopCause
  cases hk : (s.sess n).state with
  | authorized | charging | complete =>
    rw [hk] at h
    exact if_neg fun x => by simp only [EndReason.stops, x] at h; cases h
  | awaitingAuth => exact if_neg fun x => he ⟨hk, x⟩
  | empty | stopping | closed => rfl

theorem State.pass_seq (n : Conn) (s : State) : s.pass.seq n = s.seq n := by simp [State.seq]

theorem State.pass_openSet (n : Conn) (s : State) : (s.pass.slots n).openSet = (s.slots n).openSet :=
  (Keeps.pass s).openSet_all n

theorem State.pass_ped (p : Ped) (s : State) : s.pass.ped p = s.ped p := (Keeps.pass s).ped_all p

theorem State.pass_closeWaits (n : Conn) (s : State) : s.pass.closeWaits n = s.closeWaits n :=
  State.closeWaits_congr (by rw [State.pass_ped])

/-- The stop of a session, before the pass its exit from CHARGING brings. -/
def State.stoppedAt (s : State) (why : EndReason) (n : Conn) : State :=
  ((s.setSess n ((s.sess n).stoppedAt why (s.sec + s.sessions.stopWait))).openCause n)

theorem State.beginStop_eq (why : EndReason) (n : Conn) (s : State) :
    s.beginStop why n = if (s.sess n).state = .charging then (s.stoppedAt why n).pass else s.stoppedAt why n := rfl

theorem State.beginStop_cases (why : EndReason) (n : Conn) (s : State) :
    ((s.sess n).state = .charging ∧ s.beginStop why n = (s.stoppedAt why n).pass) ∨
    ((s.sess n).state ≠ .charging ∧ s.beginStop why n = s.stoppedAt why n) := by
  rw [State.beginStop_eq]
  by_cases h : (s.sess n).state = .charging
  · exact .inl ⟨h, if_pos h⟩
  · exact .inr ⟨h, if_neg h⟩

section stopped

variable (why : EndReason) (n : Conn) (s : State) (h : (s.sess n).state ≠ .empty)

include h

/-- A session that is not EMPTY is replaced without a local activity. -/
theorem State.stoppedAt_of_not_empty : s.stoppedAt why n =
    (s.updSess n fun _ => (s.sess n).stoppedAt why (s.sec + s.sessions.stopWait)).openCause n := by
  rw [State.stoppedAt, State.setSess_of_not_empty n _ s h]

theorem State.beginStop_seq : (s.beginStop why n).seq n = (s.seq n).openCaused (s.closeWaits n) := by
  have stopped : (s.stoppedAt why n).seq n = (s.seq n).openCaused (s.closeWaits n) := by
    rw [State.stoppedAt_of_not_empty why n s h, State.openCause_seq]
    rfl
  rcases State.beginStop_cases why n s with ⟨-, e⟩ | ⟨-, e⟩
  · rw [e, State.pass_seq, stopped]
  · rw [e, stopped]

theorem State.beginStop_openSet (live : (s.seq n).contactor.live = true) :
    ((s.beginStop why n).slots n).openSet = true := by
  have stopped : ((s.stoppedAt why n).slots n).openSet = true := by
    rw [State.stoppedAt_of_not_empty why n s h]
    exact State.openCause_openSet live
  rcases State.beginStop_cases why n s with ⟨-, e⟩ | ⟨-, e⟩
  · rw [e, State.pass_openSet, stopped]
  · rw [e, stopped]

end stopped

theorem EndReason.stops_not_empty {why : EndReason} {k : SessionKind} (h : why.stops k = true) : k ≠ .empty := by
  rintro rfl
  cases h

/-- What a stop cause leaves of its session. -/
theorem State.stopCause_taken (why : EndReason) (n : Conn) (s : State) : StopTaken why n s.sec s
    (s.stopCause why n) := by
  have stops (h : why.stops (s.sess n).state = true) :
      (s.stopCause why n).sess n = (s.sess n).stoppedAt why (s.sec + s.sessions.stopWait) := by
    rw [State.stopCause_stops h, State.beginStop_sess]
  have none_ (h : why.stops (s.sess n).state = false) (he : ¬ why.ends (s.sess n).state) :
      (s.stopCause why n).sess n = s.sess n := by rw [State.stopCause_none h he]
  unfold StopTaken
  cases hk : (s.sess n).state with
  | empty | stopping | closed => exact none_ (by rw [hk]; rfl) fun x => by rw [hk] at x; cases x.1
  | authorized =>
    show if why.stopsAuthorized = true then _ else _
    cases hw : why.stopsAuthorized with
    | true => exact stops (by rw [hk]; exact hw)
    | false => exact none_ (by rw [hk]; exact hw) fun x => by rw [hk] at x; cases x.1
  | charging | complete =>
    show if why.stopsRunning = true then _ else _
    cases hw : why.stopsRunning with
    | true => exact stops (by rw [hk]; exact hw)
    | false => exact none_ (by rw [hk]; exact hw) fun x => by rw [hk] at x; cases x.1
  | awaitingAuth =>
    show if why.withdraws = true then _ else _
    cases hw : why.withdraws with
    | true =>
      rw [State.stopCause_ends ⟨hk, hw⟩]
      refine ⟨(State.withdraw_sess n n s).trans (if_pos rfl), fun x hx => ?_⟩
      rw [State.withdraw_auth_held] at hx
      simpa using (List.mem_filter.1 hx).2
    | false => exact none_ (by rw [hk]; rfl) fun x => by rw [x.2] at hw; cases hw

/-- What a stop cause leaves depends on the session, the stop wait and the held list alone. -/
theorem StopTaken.congr {why : EndReason} {n : Conn} {now : Nat} {s s' t t' : State} (h : StopTaken why n now s t)
    (hs : s'.sess n = s.sess n) (hw : s'.sessions.stopWait = s.sessions.stopWait) (ht : t'.sess n = t.sess n)
    (hh : t'.auth = t.auth) : StopTaken why n now s' t' := by
  unfold StopTaken at h ⊢
  rw [hs, hw, ht, hh]
  exact h

theorem State.stopCause_seq (why : EndReason) (n : Conn) (s : State) :
    (s.stopCause why n).seq n =
      if why.stops (s.sess n).state = true then (s.seq n).openCaused (s.closeWaits n) else s.seq n := by
  by_cases h : why.stops (s.sess n).state = true
  · rw [if_pos h, State.stopCause_stops h, State.beginStop_seq why n s (EndReason.stops_not_empty h)]
  · rw [if_neg h]
    by_cases he : why.ends (s.sess n).state
    · rw [State.stopCause_ends he, State.seq, State.withdraw_sequencer, State.seq]
    · rw [State.stopCause_none (Bool.not_eq_true _ ▸ h) he]

theorem State.stopCause_openSet {why : EndReason} {n : Conn} {s : State} (h : why.stops (s.sess n).state = true)
    (live : (s.seq n).contactor.live = true) : ((s.stopCause why n).slots n).openSet = true := by
  rw [State.stopCause_stops h]
  exact State.beginStop_openSet why n s (EndReason.stops_not_empty h) live

/-! ### Folds over the connectors, or over the pedestals -/

/-- What a fold over the connectors leaves of each: what its own turn makes of it, where no other turn changes what is
seen of it, and each turn keeps what every turn is given. -/
theorem foldl_each {ι β : Type} (f : State → ι → State) (view : State → ι → β) (env : State → Prop)
    (G : ι → β → β → Prop) (stays : ∀ s n, env s → env (f s n))
    (other : ∀ s n m, env s → m ≠ n → view (f s n) m = view s m)
    (own : ∀ s n, env s → G n (view s n) (view (f s n) n)) :
    ∀ (l : List ι) (s : State), env s → l.Nodup →
      env (l.foldl f s) ∧ (∀ n ∈ l, G n (view s n) (view (l.foldl f s) n)) ∧
      ∀ n, n ∉ l → view (l.foldl f s) n = view s n
  | [], s, hs, _ => ⟨hs, fun n hn => absurd hn (by simp), fun _ _ => rfl⟩
  | x :: l, s, hs, hl => by
    obtain ⟨hx, hl⟩ := List.nodup_cons.1 hl
    obtain ⟨still, mine, others⟩ := foldl_each f view env G stays other own l (f s x) (stays s x hs) hl
    refine ⟨still, fun n hn => ?_, fun n hn => ?_⟩
    · rcases List.mem_cons.1 hn with rfl | hn
      · rw [List.foldl_cons, others n hx]
        exact own s n hs
      · have ne : n ≠ x := fun e => hx (e ▸ hn)
        rw [List.foldl_cons, ← other s x n hs ne]
        exact mine n hn
    · obtain ⟨ne, hn⟩ := not_or.1 (mt List.mem_cons.2 hn)
      rw [List.foldl_cons, others n hn, other s x n hs ne]

end Sys2Proof.Machine
end

section
/-! SUPPORT and PROOF. The close of a session (R95, R96), the requests and moments that stop one (R85, R89 to R94), and
a
minute tick (R132). -/

namespace Sys2Proof.Machine

/-! ### The close of a session (R95, R96) -/

theorem hasFlag_addFlagIf_self (c : Bool) (f : SessionFlag) (fs : SessionFlags) (h : hasFlag f fs = false) :
    hasFlag f (addFlagIf c f fs) = c := by
  have bit : f.bit < 8 := by cases f <;> decide
  cases c with
  | false => exact h
  | true =>
    show (fs ||| BitVec.twoPow 8 f.bit).getLsbD f.bit = true
    rw [BitVec.getLsbD_or, BitVec.getLsbD_twoPow]
    simp [bit]

theorem State.raise_uplink (k : EventKind) (s : State) : (s.raise k).uplink = s.uplink.withRaised k :=
  congrArg State.uplink (State.raise_eq k s)

theorem State.appendRecord_uplink (r : BuiltRecord) (s : State) : (s.appendRecord r).uplink =
    if s.settlement.records.length = 0 then s.uplink.withRaised .settlementReady
    else if s.settlement.records.length = 95 then s.uplink.withRaised .queueFull else s.uplink := by
  unfold State.appendRecord
  dsimp only
  by_cases h0 : s.settlement.records.length = 0
  · exact (congrArg State.uplink (if_pos h0)).trans ((State.raise_uplink _ _).trans (if_pos h0).symm)
  · refine (congrArg State.uplink (if_neg h0)).trans (Eq.trans ?_ (if_neg h0).symm)
    by_cases h95 : s.settlement.records.length = 95
    · exact (congrArg State.uplink (if_pos (by rw [h95]; rfl))).trans ((State.raise_uplink _ _).trans (if_pos h95).symm)
    · exact (congrArg State.uplink (if_neg fun x => h95 (Nat.succ.inj x))).trans (if_neg h95).symm

/-- What a close is about in the state before it. -/
theorem SessionClosed.congr {r : BuiltRecord} {n : Conn} {e : Session} {now : Nat} {s s' t t' : State}
    (h : SessionClosed r n e now s t) (tariff : s'.tariff = s.tariff) (settlement : s'.settlement = s.settlement)
    (uplink : s'.uplink = s.uplink) (waiting : s'.sessions.waiting = s.sessions.waiting)
    (clock' : t'.clock = t.clock) (sessions' : t'.sessions = t.sessions) (tariff' : t'.tariff = t.tariff)
    (settlement' : t'.settlement = t.settlement) (uplink' : t'.uplink = t.uplink) : SessionClosed r n e now s' t' := by
  have plan (k : PlanSlot) : s'.plan k = s.plan k := by rw [State.plan, tariff, State.plan]
  have plan' (k : PlanSlot) : t'.plan k = t.plan k := by rw [State.plan, tariff', State.plan]
  have sess' : t'.sess n = t.sess n := State.sess_congr sessions' n
  simp only [SessionClosed, plan, plan', settlement, uplink, waiting, clock', sess', sessions', settlement', uplink']
  exact h

/-- The flags of a record are those of its session, but for the two of the close. -/
theorem SessionClosed.hasFlag {r : BuiltRecord} {n : Conn} {e : Session} {now : Nat} {s t : State}
    (h : SessionClosed r n e now s t) {f : SessionFlag} (hc : f ≠ .capped) (hu : f ≠ .clockUnset) :
    Machine.hasFlag f r.flags = Machine.hasFlag f e.flags := by
  obtain ⟨-, -, -, -, -, -, -, -, -, -, -, -, -, -, -, -, -, flags, -⟩ := h
  exact flags f hc hu

/-- A close by its record, without the pass that an exit from CHARGING brings. -/
theorem State.closeEntry_closed (n : Conn) (s : State) (ho : (s.sess n).state ≠ .empty) :
    SessionClosed (s.builtRecord n (s.sess n)) n (s.sess n) s.sec s (s.closeEntry n) := by
  obtain ⟨-, plan, -, room, full⟩ := State.closeEntry_leaves n s ho
  have clock : (s.closeEntry n).clock = s.clock := by
    have := State.closeSession_clock n s
    rw [State.closeSession_eq] at this
    split at this
    · rwa [State.pass_clock] at this
    · exact this
  refine ⟨rfl, rfl, rfl, rfl, rfl,
    rfl, by rw [clock]; rfl, fun b hb => ?_, rfl, fun b => ?_, rfl, rfl, rfl, rfl, rfl, rfl,
    rfl, fun f hc hu => ?_, fun hc => ?_, fun k rev hp => ⟨?_, ?_, fun j hj => ?_⟩, fun h => ?_, fun h => ?_⟩
  · show s.sec - (s.sess n).startSec.getD s.sec = _
    rw [hb]
    rfl
  · show tget (Vector.ofFn fun b : Fin 4 => recordCap (tget (s.sess n).bandEnergy b)) b = _
    simp [tget, recordCap]
  · exact (hasFlag_addFlagIf_of_ne _ _ _ _ hc).trans (hasFlag_addFlagIf_of_ne _ _ _ _ hu)
  · refine hasFlag_addFlagIf_self _ _ _ ?_
    rw [hasFlag_addFlagIf_of_ne _ _ _ _ (by decide), hc]
  · show ((s.sess n).plan.map fun p => (s.plan p.1).contents.currency).join = _
    rw [hp]
    rfl
  · rw [plan, hp, Option.map_some, if_pos rfl]
  · rw [plan, hp, Option.map_some, if_neg fun x => hj (Option.some.inj x).symm]
    rfl
  · obtain ⟨sess, waiting⟩ := room h
    have appended : (s.closeEntry n).settlement = ((s.releasePlan (s.sess n)).appendRecord
        (s.builtRecord n (s.sess n))).settlement ∧ (s.closeEntry n).uplink =
        ((s.releasePlan (s.sess n)).appendRecord (s.builtRecord n (s.sess n))).uplink := by
      rw [State.closeEntry_of_room n s h]
      exact ⟨rfl, rfl⟩
    refine ⟨sess, waiting, ?_, ?_, ?_⟩
    · rw [appended.1, State.appendRecord_settlement, State.releasePlan_settlement]
    · rw [appended.1, State.appendRecord_settlement, State.releasePlan_settlement]
      rfl
    · rw [appended.2, State.appendRecord_uplink, State.releasePlan_settlement, State.releasePlan_uplink]
  · obtain ⟨sess, waiting, settlement⟩ := full h.ge
    refine ⟨by rw [sess]; rfl, by rw [sess]; rfl, by rw [sess]; rfl, waiting, settlement, ?_⟩
    rw [State.closeEntry_of_full n s h.ge ho]
    exact State.releasePlan_uplink _ s

theorem State.closeSession_closed (n : Conn) (s : State) (ho : (s.sess n).state ≠ .empty) :
    SessionClosed (s.builtRecord n (s.sess n)) n (s.sess n) s.sec s (s.closeSession n) := by
  have closed := State.closeEntry_closed n s ho
  rw [State.closeSession_eq]
  split
  · exact closed.congr rfl rfl rfl rfl (State.pass_clock _) (State.pass_sessions _) (State.pass_tariff _)
      (State.pass_settlement _) (State.pass_uplink _)
  · exact closed

/-- What is left alone by the close of a session that is not CHARGING. -/
theorem State.closeSession_kept (n : Conn) (s : State) (ho : (s.sess n).state ≠ .empty)
    (hc : (s.sess n).state ≠ .charging) : SameBut [.sessions, .tariff, .settlement, .uplink] s (s.closeSession n) := by
  rw [State.closeSession_eq, if_neg hc]
  have line : (s.closeEntry n).line = s.line ∧ (s.closeEntry n).alloc = s.alloc := by
    by_cases room : s.settlement.records.length < 96
    · rw [State.closeEntry_of_room n s room]
      simp
    · rw [State.closeEntry_of_full n s (by omega) ho]
      simp [State.waits]
  have closed : s.closeSession n = s.closeEntry n := by rw [State.closeSession_eq, if_neg hc]
  intro b hb
  rw [← closed]
  cases b with
  | sessions | tariff | settlement | uplink => simp at hb
  | line => exact (congrArg State.line closed).trans line.1
  | alloc => exact (congrArg State.alloc closed).trans line.2
  | classifier => exact State.closeSession_classifier n s
  | sequencer => exact State.closeSession_sequencer n s
  | auth => exact State.closeSession_auth n s
  | clock => exact State.closeSession_clock n s
  | metering => exact State.closeSession_metering n s
  | pending => exact State.closeSession_pending n s

theorem State.closeSession_sess_of_ne {n m : Conn} (s : State) (ho : (s.sess n).state ≠ .empty) (hm : m ≠ n) :
    (s.closeSession n).sess m = s.sess m := by
  rw [State.closeSession_eq]
  split
  · rw [State.pass_sess, (State.closeEntry_leaves n s ho).1 m hm]
  · rw [(State.closeEntry_leaves n s ho).1 m hm]

/-! ### Agreement of states, block by block -/

theorem SameBut.refl (l : List Block) (s : State) : SameBut l s s := by
  intro b _
  cases b <;> rfl

theorem SameBut.trans {l : List Block} {s t u : State} (h : SameBut l s t) (g : SameBut l t u) : SameBut l s u := by
  intro b hb
  have h := h b hb
  have g := g b hb
  cases b <;> exact Eq.trans g h

theorem SameBut.mono {l l' : List Block} {s t : State} (h : SameBut l s t) (hl : ∀ b ∈ l, b ∈ l') : SameBut l' s t :=
  fun b hb => h b fun x => hb (hl b x)

/-! ### The end of a STOPPING session (R93, R94) -/

theorem SessionKind.not_empty {k k' : SessionKind} (h : k = k') (hk : k' ≠ .empty) : k ≠ .empty := h ▸ hk

theorem State.replyPlug_of_not_watching {n : Conn} {r : ConnReport} {s : State}
    (h : (s.sess n).state.watching = false) :
    s.replyPlug n r = s := by
  simp [State.replyPlug, h]

theorem State.replyComplete_of {n : Conn} {r : ConnReport} {s : State} (hc : (s.sess n).state ≠ .charging)
    (hd : (s.sess n).state ≠ .complete) : s.replyComplete n r = s := by
  simp [State.replyComplete, hc, hd]

theorem State.replyEnd_of_not_stopping {n : Conn} {s : State} (h : (s.sess n).state ≠ .stopping) : s.replyEnd n = s :=
  if_neg h

theorem State.replyEnd_reopened {n : Conn} {s : State} (h : (s.sess n).state = .stopping)
    (hc : (s.seq n).contactor.reopened) : s.replyEnd n = s.closeSession n := by
  rcases hc with hc | hc | hc <;> simp [State.replyEnd, h, hc]

theorem State.replyEnd_not_reopened {n : Conn} {s : State} (hc : ¬ (s.seq n).contactor.reopened) : s.replyEnd n =
    s := by
  unfold State.replyEnd
  split
  · split
    · next h => exact absurd (.inl h) hc
    · next h => exact absurd (.inr (.inl h)) hc
    · next h => exact absurd (.inr (.inr h)) hc
    all_goals rfl
  · rfl

/-- A STOPPING session at its stop deadline: time has passed to it, and the session is flagged (R94). -/
def State.overdue (s : State) (n : Conn) (d : Nat) : State :=
  (s.advanceToSec d).updSess n fun e => { e with flags := addFlag .linkLost e.flags }

theorem State.overdue_sess (s : State) (n : Conn) (d : Nat) :
    (s.overdue n d).sess n = { s.sess n with flags := (s.sess n).flags ||| 16 } := by
  rw [State.overdue, State.updSess_sess, if_pos rfl, State.sess_congr (State.advanceToSec_sessions _ s)]
  rfl

theorem State.overdue_sess_of_ne (s : State) {n m : Conn} (d : Nat) (hm : m ≠ n) : (s.overdue n d).sess m =
    s.sess m := by
  rw [State.overdue, State.updSess_sess, if_neg hm, State.sess_congr (State.advanceToSec_sessions _ s)]

theorem State.overdue_kept (s : State) (n : Conn) (d : Nat) : SameBut [.sessions, .clock] s (s.overdue n d) := by
  refine ((SameBut.advanceTo (d * 1000) s).mono (by simp)).trans fun b hb => ?_
  cases b with
  | sessions => simp at hb
  | _ => rfl

/-- Settles O39. -/
theorem stopDeadlineClosesTheSession : Obligations.StopDeadlineClosesTheSession := by
  refine ⟨fun s n d hk hd hlast => ?_, fun s n report hk => ?_⟩
  · have run : exec (.stopDeadline n) s = .next ((s.overdue n d).closeSession n) := by
      show execStopDeadline n s = _
      simp only [execStopDeadline, hk, hd]
      rfl
    have state : ((s.overdue n d).sess n).state = .stopping := by rw [s.overdue_sess n d]; exact hk
    have open_ : ((s.overdue n d).sess n).state ≠ .empty := by rw [state]; decide
    have clock : ((s.overdue n d).closeSession n).clock = (s.advanceTo (d * 1000)).clock := State.closeSession_clock n _
    have sec : (s.overdue n d).sec = s.secAt (d * 1000) := State.advanceTo_sec s hlast
    have closed := State.closeSession_closed n _ open_
    rw [s.overdue_sess n d, sec] at closed
    have kept := s.overdue_kept n d
    refine ⟨_, _, run, ?_, ?_, closed.congr (kept .tariff (by simp)).symm (kept .settlement (by simp)).symm
      (kept .uplink (by simp)).symm ?_ rfl rfl rfl rfl rfl, ?_, fun m hm => ?_⟩
    · exact (kept.mono (by simp)).trans ((State.closeSession_kept n _ open_ (by rw [state]; decide)).mono (by simp))
    · rw [clock]
      exact s.advanceTo_clockAt hlast
    · exact (congrArg SessionTable.waiting (State.advanceToSec_sessions d s)).symm
    · refine (closed.hasFlag (f := .linkLost) (by decide) (by decide)).trans ?_
      show ((s.sess n).flags ||| 16).getLsbD 4 = true
      simp
    · rw [State.closeSession_sess_of_ne _ open_ hm, s.overdue_sess_of_ne d hm]
  · have open_ : (s.sess n).state ≠ .empty := by rw [hk]; decide
    have reply : s.replySession n report = s.replyEnd n := by
      rw [State.replySession_eq, State.replyPlug_of_not_watching (by rw [hk]; rfl),
        State.replyComplete_of (by rw [hk]; decide) (by rw [hk]; decide)]
    dsimp only
    rw [reply]
    refine ⟨fun hc => ?_, fun hc => State.replyEnd_not_reopened hc⟩
    rw [State.replyEnd_reopened hk hc]
    exact ⟨State.closeSession_kept n s open_ (by rw [hk]; decide), ⟨_, State.closeSession_closed n s open_⟩,
      fun m hm => State.closeSession_sess_of_ne s open_ hm⟩

end Sys2Proof.Machine
end

section
/-! SUPPORT. The water-fill of the allocation pass (R150), on lists of connectors and what each wants: who leaves with
what it wants, who stays with a share, and that no power is given twice. -/

namespace Sys2Proof.Machine

/-! ### Targets in a list -/

theorem targetIn_of_mem {ts : List (Conn × Nat)} {n : Conn} {x : Nat} (nodup : (ts.map Prod.fst).Nodup)
    (h : (n, x) ∈ ts) :
    targetIn ts n = x := by
  induction ts with
  | nil => cases h
  | cons y ts ih =>
    obtain ⟨hy, nodup⟩ := List.nodup_cons.1 nodup
    rcases List.mem_cons.1 h with rfl | h
    · simp [targetIn]
    · have ne : y.1 ≠ n := fun e => hy (e ▸ List.mem_map_of_mem (f := Prod.fst) h)
      rw [targetIn, List.find?_cons_of_neg (by simpa using ne)]
      exact ih nodup h

theorem targetIn_of_not_mem {ts : List (Conn × Nat)} {n : Conn} (h : n ∉ ts.map Prod.fst) : targetIn ts n = 0 := by
  have none_ : ts.find? (fun x => x.1 == n) = none :=
    List.find?_eq_none.2 fun x hx e => h (List.mem_map.2 ⟨x, hx, by simpa using e⟩)
  rw [targetIn, none_]

theorem sum_targetIn {ts : List (Conn × Nat)} (nodup : (ts.map Prod.fst).Nodup) :
    ((ts.map Prod.fst).map (targetIn ts)).sum = (ts.map Prod.snd).sum := by
  rw [List.map_map]
  exact congrArg List.sum (List.map_congr_left fun x hx => targetIn_of_mem nodup hx)

/-! ### One class (R150) -/

theorem handOut_fst (share extra : Nat) (l : List (Conn × Nat)) : (handOut share extra l).map Prod.fst =
    l.map Prod.fst := by
  induction l generalizing extra with
  | nil => rfl
  | cons x l ih => exact congrArg (x.1 :: ·) (ih _)

theorem handOut_get (share extra : Nat) (l : List (Conn × Nat)) (i : Nat) :
    (handOut share extra l)[i]? = l[i]?.map fun x => (x.1, share + if i < extra then 1 else 0) := by
  induction l generalizing extra i with
  | nil => rfl
  | cons x l ih =>
    cases i with
    | zero =>
      show some (x.1, share + min extra 1) = some (x.1, share + if 0 < extra then 1 else 0)
      congr 3
      split <;> omega
    | succ i =>
      show (handOut share (extra - 1) l)[i]? = l[i]?.map _
      rw [ih]
      have shift : (i < extra - 1) = (i + 1 < extra) := propext (by omega)
      simp only [shift]

theorem handOut_sum (share extra : Nat) (l : List (Conn × Nat)) (h : extra ≤ l.length) :
    ((handOut share extra l).map Prod.snd).sum = share * l.length + extra := by
  induction l generalizing extra with
  | nil => simp at h; simp [handOut, h]
  | cons x l ih =>
    simp only [handOut, List.map_cons, List.sum_cons, List.length_cons]
    rw [ih _ (by simp at h; omega), Nat.mul_succ]
    omega

/-- Those of a list that do not stay. -/
def leaving (l stay : List Conn) : List Conn := l.filter fun n => !stay.contains n

/-- How power A is shared among the connectors of l, of which n wants at most g n: `ts` are the targets, `left` the
power
that is left, `stay` those that get the share (R150). -/
structure Shared (g : Conn → Nat) (l : List Conn) (A : Nat) (ts : List (Conn × Nat)) (left : Nat) (stay : List Conn) :
    Prop where
  keys : (ts.map Prod.fst).Perm l
  sum : (ts.map Prod.snd).sum + left = A
  spent : stay ≠ [] → left = 0
  sublist : stay.Sublist l
  wanted : ((leaving l stay).map g).sum ≤ A
  leaves : ∀ n ∈ leaving l stay, (n, g n) ∈ ts ∧ (stay ≠ [] → g n ≤ (A - ((leaving l stay).map g).sum) / stay.length)
  stays : ∀ i n, stay[i]? = some n →
    let rest := A - ((leaving l stay).map g).sum
    rest / stay.length < g n ∧ (n, rest / stay.length + if i < rest % stay.length then 1 else 0) ∈ ts
  grows : stay ≠ [] → A / l.length ≤ (A - ((leaving l stay).map g).sum) / stay.length

/-- A round in which nobody leaves: each gets the share, and the first one kilowatt more each (R150 steps 4 and 5). -/
theorem shared_handOut {g : Conn → Nat} {l : List Conn} {A : Nat} (hl : l ≠ []) (h : ∀ n ∈ l, A / l.length < g n) :
    Shared g l A (handOut (A / l.length) (A % l.length) (l.map fun n => (n, g n))) 0 l := by
  have positive : 0 < l.length := List.length_pos_iff.2 hl
  have nobody : leaving l l = [] := List.filter_eq_nil_iff.2 fun n hn => by simp [hn]
  have whole : A - ((leaving l l).map g).sum = A := by rw [nobody]; rfl
  refine ⟨?_, ?_, fun _ => rfl,
    List.Sublist.refl l, by rw [nobody]; exact Nat.zero_le _, by rw [nobody]; simp, fun i n hi => ?_,
    fun _ => by rw [whole]⟩
  · rw [handOut_fst, List.map_map]
    exact .of_eq (List.map_id l)
  · rw [handOut_sum _ _ _ (by rw [List.length_map]; exact (Nat.mod_lt A positive).le), List.length_map, Nat.add_zero,
      Nat.mul_comm, Nat.div_add_mod]
  · dsimp only
    rw [whole]
    refine ⟨h n (List.mem_of_getElem? hi), List.mem_of_getElem? (i := i) ?_⟩
    rw [handOut_get, List.getElem?_map, hi]
    rfl

/-- Those that leave: the ones that want no more than a share, and those of the others that leave later. -/
theorem leaving_perm {g : Conn → Nat} {l stay : List Conn} (share : Nat)
    (sub : stay.Sublist (l.filter fun n => share < g n)) :
    (leaving l stay).Perm ((l.filter fun n => g n ≤ share) ++ leaving (l.filter fun n => share < g n) stay) := by
  have first : (leaving l stay).filter (fun n => g n ≤ share) = l.filter fun n => g n ≤ share := by
    rw [leaving, List.filter_filter]
    refine List.filter_congr fun n _ => ?_
    by_cases h : g n ≤ share
    · have out : n ∉ stay := fun hn => by
        have := (List.mem_filter.1 (sub.subset hn)).2
        simp only [decide_eq_true_eq] at this
        omega
      simp [h, out]
    · simp [h]
  have later : (leaving l stay).filter (fun n => !decide (g n ≤ share)) = leaving
    (l.filter fun n => share < g n) stay := by
    rw [leaving, leaving, List.filter_filter, List.filter_filter]
    refine List.filter_congr fun n _ => ?_
    rw [Bool.and_comm, ← decide_not]
    simp only [not_le]
  rw [← first, ← later]
  exact (List.filter_append_perm _ _).symm

theorem sum_map_le {g : Conn → Nat} {l : List Conn} {k : Nat} (h : ∀ n ∈ l, g n ≤ k) :
    (l.map g).sum ≤ k * l.length := by
  have := List.sum_le_card_nsmul (l.map g) k (by simpa using h)
  simpa [Nat.mul_comm] using this

/-- A round in which those that want no more than the share leave, and the others share what is left (R150 steps 1 to
3). -/
theorem shared_round {g : Conn → Nat} {l : List Conn} {A : Nat} {ts : List (Conn × Nat)} {left : Nat} {stay : List Conn}
    (h : Shared g (l.filter fun n => A / l.length < g n)
      (A - ((l.filter fun n => g n ≤ A / l.length).map g).sum) ts left stay) :
    Shared g l A (((l.filter fun n => g n ≤ A / l.length).map fun n => (n, g n)) ++ ts) left stay := by
  have parts : ((l.filter fun n => g n ≤ A / l.length) ++ l.filter fun n => A / l.length < g n).Perm l := by
    have := List.filter_append_perm (fun n => decide (g n ≤ A / l.length)) l
    simpa only [← decide_not, not_le] using this
  have count := parts.length_eq
  have perm := leaving_perm (g := g) (l := l) (A / l.length) h.sublist
  have total : ((leaving l stay).map g).sum = ((l.filter fun n => g n ≤ A / l.length).map g).sum +
      ((leaving (l.filter fun n => A / l.length < g n) stay).map g).sum := by
    rw [(perm.map g).sum_eq, List.map_append, List.sum_append]
  have cheap : ((l.filter fun n => g n ≤ A / l.length).map g).sum ≤
      A / l.length * (l.filter fun n => g n ≤ A / l.length).length :=
    sum_map_le fun n hn => by simpa using (List.mem_filter.1 hn).2
  have fits : A / l.length * (l.filter fun n => g n ≤ A / l.length).length +
      A / l.length * (l.filter fun n => A / l.length < g n).length ≤ A := by
    rw [← Nat.mul_add, ← List.length_append, count]
    exact Nat.div_mul_le_self A l.length
  have wanted := h.wanted
  have sum := h.sum
  have rest : A - ((leaving l stay).map g).sum = A - ((l.filter fun n => g n ≤ A / l.length).map g).sum -
      ((leaving (l.filter fun n => A / l.length < g n) stay).map g).sum := by omega
  have grows : stay ≠ [] → A / l.length ≤ (A - ((leaving l stay).map g).sum) / stay.length := fun hs => by
    rw [rest]
    refine le_trans ((Nat.le_div_iff_mul_le ?_).2 (by omega)) (h.grows hs)
    exact (List.length_pos_iff.2 hs).trans_le h.sublist.length_le
  refine ⟨?_, ?_, h.spent, h.sublist.trans List.filter_sublist, by omega, fun n hn => ?_, fun i n hi => ?_, grows⟩
  · rw [List.map_append, List.map_map]
    refine (List.Perm.append (.of_eq ?_) h.keys).trans parts
    exact List.map_id _
  · rw [List.map_append, List.sum_append, List.map_map]
    have same : ((l.filter fun n => g n ≤ A / l.length).map (Prod.snd ∘ fun n => (n, g n))).sum =
      ((l.filter fun n => g n ≤ A / l.length).map g).sum := rfl
    omega
  · rcases List.mem_append.1 (perm.mem_iff.1 hn) with hn | hn
    · refine ⟨List.mem_append_left _ (List.mem_map_of_mem hn), fun hs => le_trans ?_ (grows hs)⟩
      simpa using (List.mem_filter.1 hn).2
    · obtain ⟨mem, small⟩ := h.leaves n hn
      exact ⟨List.mem_append_right _ mem, fun hs => rest ▸ small hs⟩
  · obtain ⟨small, mem⟩ := h.stays i n hi
    dsimp only
    rw [rest]
    exact ⟨small, List.mem_append_right _ mem⟩

/-- The water-fill of one class shares its power. -/
theorem shared_fillClass (g : Conn → Nat) : ∀ (fuel : Nat) (l : List Conn) (A : Nat), l.length < fuel →
    ∃ stay, Shared g l A (fillClass fuel (l.map fun n => (n, g n)) A).1 (fillClass fuel (l.map fun n => (n, g n)) A).2
      stay
  | 0, l, A, h => absurd h (Nat.not_lt_zero _)
  | fuel + 1, [], A, _ => ⟨[], .nil, Nat.zero_add A, fun h => absurd rfl h, .slnil, Nat.zero_le _, fun n hn =>
    absurd hn (by simp [leaving]),
      fun i n hi => by simp at hi, fun h => absurd rfl h⟩
  | fuel + 1, x :: l, A, h => by
    have filters (p : Nat → Bool) : ((x :: l).map fun n => (n, g n)).filter (fun y => p y.2) =
        ((x :: l).filter fun n => p (g n)).map fun n => (n, g n) := List.filter_map
    have step : fillClass (fuel + 1) ((x :: l).map fun n => (n, g n)) A =
        if ((x :: l).filter fun n => g n ≤ A / (x :: l).length).isEmpty then
          (handOut (A / (x :: l).length) (A % (x :: l).length) ((x :: l).map fun n => (n, g n)),
            A - ((handOut (A / (x :: l).length) (A % (x :: l).length) ((x :: l).map fun n => (n, g n))).map
              Prod.snd).sum)
        else
          let more := fillClass fuel (((x :: l).filter fun n => A / (x :: l).length < g n).map fun n => (n, g n))
            (A - (((x :: l).filter fun n => g n ≤ A / (x :: l).length).map g).sum)
          (((x :: l).filter fun n => g n ≤ A / (x :: l).length).map (fun n => (n, g n)) ++ more.1, more.2) := by
      rw [fillClass, if_neg (by simp)]
      dsimp only
      rw [filters (fun y => decide (y ≤ _)), filters (fun y => decide (_ < y)), List.isEmpty_map, List.length_map,
        List.map_map]
      rfl
    rw [step]
    by_cases nobody : ((x :: l).filter fun n => g n ≤ A / (x :: l).length) = []
    · have all : ∀ n ∈ x :: l, A / (x :: l).length < g n := fun n hn => by
        have := List.filter_eq_nil_iff.1 nobody n hn
        simpa using this
      have shared := shared_handOut (by simp) all
      rw [if_pos (by rw [nobody]; rfl)]
      refine ⟨x :: l, ?_⟩
      rw [show A - ((handOut (A / (x :: l).length) (A % (x :: l).length) ((x :: l).map fun n => (n, g n))).map
        Prod.snd).sum = 0 by have := shared.sum; omega]
      exact shared
    · rw [if_neg (by simpa [List.isEmpty_iff] using nobody)]
      have fewer : ((x :: l).filter fun n => A / (x :: l).length < g n).length < fuel := by
        have perm := (List.filter_append_perm (fun n => decide (g n ≤ A / (x :: l).length)) (x :: l)).length_eq
        have some_ := List.length_pos_iff.2 nobody
        simp only [← decide_not, not_le, List.length_append] at perm
        omega
      obtain ⟨stay, shared⟩ := shared_fillClass g fuel _
        (A - (((x :: l).filter fun n => g n ≤ A / (x :: l).length).map g).sum) fewer
      exact ⟨stay, shared_round shared⟩

end Sys2Proof.Machine
end

section
/-! SUPPORT. The targets of a pass over all classes (R150), and the shares of a pedestal's two connectors (R148). -/

namespace Sys2Proof.Machine

/-! ### The classes, highest first -/

/-- The participants of a class, in ascending index. -/
def State.memberConns (s : State) (c : ClassNo) : List Conn :=
  allConns.filter fun n => s.participates n && (s.sess n).cls == c

theorem State.members_eq (s : State) (c : ClassNo) : s.members c =
    (s.memberConns c).map fun n => (n, s.pedShare n) := rfl

theorem State.mem_memberConns {s : State} {c : ClassNo} {n : Conn} :
    n ∈ s.memberConns c ↔ s.participates n = true ∧ (s.sess n).cls = c := by
  simp [State.memberConns, mem_allConns]

theorem State.memberConns_nodup (s : State) (c : ClassNo) : (s.memberConns c).Nodup := allConns_nodup.filter _

/-- One class's turn: the power its members share is what the higher classes left. -/
def State.fillNext (s : State) (acc : List (Conn × Nat) × Nat) (c : ClassNo) : List (Conn × Nat) × Nat :=
  (acc.1 ++ (fillClass ((s.members c).length + 1) (s.members c) acc.2).1,
    (fillClass ((s.members c).length + 1) (s.members c) acc.2).2)

/-- The targets of some classes, in turn, and the power left. -/
def State.fillClasses (s : State) (cs : List ClassNo) (A : Nat) : List (Conn × Nat) × Nat :=
  cs.foldl s.fillNext ([], A)

theorem State.fillAll_eq (s : State) (A : Nat) : s.fillAll A = (s.fillClasses [3, 2, 1, 0] A).1 := rfl

theorem State.fillClasses_snoc (s : State) (cs : List ClassNo) (c : ClassNo) (A : Nat) :
    s.fillClasses (cs ++ [c]) A = s.fillNext (s.fillClasses cs A) c := by
  rw [State.fillClasses, List.foldl_append]
  rfl

/-- A class shares what the classes before it left. -/
theorem State.fillNext_shared (s : State) (acc : List (Conn × Nat) × Nat) (c : ClassNo) :
    ∃ ts stay, (s.fillNext acc c).1 = acc.1 ++ ts ∧
      Shared s.pedShare (s.memberConns c) acc.2 ts (s.fillNext acc c).2 stay := by
  obtain ⟨stay, shared⟩ := shared_fillClass s.pedShare ((s.members c).length + 1) (s.memberConns c) acc.2
    (by rw [State.members_eq, List.length_map]; exact Nat.lt_succ_self _)
  exact ⟨_, stay, rfl, shared⟩

/-- The targets of a class and of those after it come behind those of the classes before it. -/
theorem State.foldl_fillNext_fst (s : State) (cs : List ClassNo) (acc : List (Conn × Nat) × Nat) :
    acc.1 <+: (cs.foldl s.fillNext acc).1 := by
  induction cs generalizing acc with
  | nil => exact List.prefix_refl _
  | cons c cs ih => exact (List.prefix_append _ _).trans (ih (s.fillNext acc c))

theorem Shared.le {g : Conn → Nat} {l : List Conn} {A left : Nat} {ts : List (Conn × Nat)} {stay : List Conn}
    (h : Shared g l A ts left stay) (nodup : l.Nodup) : ∀ x ∈ ts, x.2 ≤ g x.1 := by
  rintro ⟨n, x⟩ hx
  have keys : (ts.map Prod.fst).Nodup := h.keys.nodup_iff.2 nodup
  have value (y : Nat) (hy : (n, y) ∈ ts) : x = y := (targetIn_of_mem keys hx).symm.trans (targetIn_of_mem keys hy)
  have member : n ∈ l := h.keys.mem_iff.1 (List.mem_map_of_mem (f := Prod.fst) hx)
  show x ≤ g n
  by_cases hs : n ∈ stay
  · obtain ⟨i, hi⟩ := List.getElem?_of_mem hs
    obtain ⟨small, mem⟩ := h.stays i n hi
    rw [value _ mem]
    split <;> omega
  · rw [value _ (h.leaves n (List.mem_filter.2 ⟨member, by simpa using hs⟩)).1]

/-- What the targets of some classes have in common: they are those of the classes' members, they add up to the power
with what is left, and each is within its share. -/
theorem State.fillClasses_spec (s : State) (A : Nat) (cs : List ClassNo) :
    ((s.fillClasses cs A).1.map Prod.fst).Perm (cs.flatMap s.memberConns) ∧
    ((s.fillClasses cs A).1.map Prod.snd).sum + (s.fillClasses cs A).2 = A ∧
    ∀ x ∈ (s.fillClasses cs A).1, x.2 ≤ s.pedShare x.1 := by
  induction cs using List.reverseRecOn with
  | nil => exact ⟨.nil, Nat.zero_add A, fun x hx => absurd hx (by simp [State.fillClasses])⟩
  | append_singleton cs c ih =>
    obtain ⟨keys, sum, small⟩ := ih
    obtain ⟨ts, stay, out, shared⟩ := s.fillNext_shared (s.fillClasses cs A) c
    have shares := shared.sum
    rw [s.fillClasses_snoc, out]
    refine ⟨?_, ?_, fun x hx => ?_⟩
    · rw [List.map_append, List.flatMap_append, List.flatMap_singleton]
      exact keys.append shared.keys
    · rw [List.map_append, List.sum_append]
      omega
    · rcases List.mem_append.1 hx with hx | hx
      · exact small x hx
      · exact shared.le (s.memberConns_nodup c) x hx

theorem State.flatMap_memberConns_nodup (s : State) {cs : List ClassNo} (h : cs.Nodup) :
    (cs.flatMap s.memberConns).Nodup := by
  refine List.nodup_flatMap.2 ⟨fun c _ => s.memberConns_nodup c, h.imp fun {a b} hab => ?_⟩
  exact fun n ha hb => hab ((State.mem_memberConns.1 ha).2.symm.trans (State.mem_memberConns.1 hb).2)

/-- The classes before a class in the order of R150 are those above it. -/
theorem classes_split (c : ClassNo) : ∃ before after : List ClassNo, ([3, 2, 1, 0] : List ClassNo) =
    before ++ c :: after ∧
    ∀ k, k ∈ before ↔ c < k := by
  fin_cases c
  · exact ⟨[3, 2, 1], [], rfl, by decide⟩
  · exact ⟨[3, 2], [0], rfl, by decide⟩
  · exact ⟨[3], [1, 0], rfl, by decide⟩
  · exact ⟨[], [2, 1, 0], rfl, by decide⟩

theorem classes_nodup : ([3, 2, 1, 0] : List ClassNo).Nodup := by decide

theorem State.fillAll_keys (s : State) (A : Nat) : ((s.fillAll A).map Prod.fst).Nodup :=
  ((s.fillClasses_spec A [3, 2, 1, 0]).1.nodup_iff).2 (s.flatMap_memberConns_nodup classes_nodup)

theorem State.mem_fillAll_keys {s : State} {A : Nat} {n : Conn} :
    n ∈ (s.fillAll A).map Prod.fst ↔ s.participates n = true := by
  rw [State.fillAll_eq, (s.fillClasses_spec A [3, 2, 1, 0]).1.mem_iff, List.mem_flatMap]
  refine ⟨fun ⟨c, _, h⟩ => (State.mem_memberConns.1 h).1,
    fun h => ⟨(s.sess n).cls, ?_, State.mem_memberConns.2 ⟨h, rfl⟩⟩⟩
  generalize (s.sess n).cls = c
  fin_cases c <;> decide

/-- A connector that takes no part has no target. -/
theorem State.target_of_not_participant {s : State} {A : Nat} {n : Conn} (h : s.participates n = false) :
    targetIn (s.fillAll A) n = 0 :=
  targetIn_of_not_mem fun hn => by rw [State.mem_fillAll_keys.1 hn] at h; cases h

/-- A target is within the connector's pedestal share. -/
theorem State.target_le_share (s : State) (A : Nat) (n : Conn) : targetIn (s.fillAll A) n ≤ s.pedShare n := by
  by_cases h : s.participates n = true
  · obtain ⟨⟨m, x⟩, hx, rfl⟩ := List.mem_map.1 (State.mem_fillAll_keys (A := A).2 h)
    rw [targetIn_of_mem (s.fillAll_keys A) hx]
    exact (s.fillClasses_spec A [3, 2, 1, 0]).2.2 _ hx
  · rw [State.target_of_not_participant (Bool.not_eq_true _ ▸ h)]
    exact Nat.zero_le _

/-- The targets of any connectors without repetition add up to no more than the power. -/
theorem State.sum_targets_le (s : State) (A : Nat) {l : List Conn} (nodup : l.Nodup) :
    (l.map (targetIn (s.fillAll A))).sum ≤ A := by
  have all := sum_targetIn (s.fillAll_keys A)
  have sum := (s.fillClasses_spec A [3, 2, 1, 0]).2.1
  rw [← State.fillAll_eq] at sum
  have some_ : (l.map (targetIn (s.fillAll A))).sum =
    ((l.filter fun n => s.participates n).map (targetIn (s.fillAll A))).sum := by
    have parts := (List.filter_append_perm (fun n => s.participates n) l).map (targetIn (s.fillAll A))
    rw [← parts.sum_eq, List.map_append, List.sum_append, Nat.add_eq_left]
    refine List.sum_eq_zero fun x hx => ?_
    obtain ⟨n, hn, rfl⟩ := List.mem_map.1 hx
    exact State.target_of_not_participant (by simpa using (List.mem_filter.1 hn).2)
  rw [some_]
  have sub : (l.filter fun n => s.participates n).Subperm ((s.fillAll A).map Prod.fst) :=
    List.subperm_of_subset (nodup.filter _) fun n hn => State.mem_fillAll_keys.2
      (by simpa using (List.mem_filter.1 hn).2)
  obtain ⟨l', perm, sublist⟩ := sub
  rw [← (perm.map _).sum_eq]
  have le := (sublist.map (targetIn (s.fillAll A))).sum_le_sum fun _ _ => Nat.zero_le _
  omega

/-- How the members of a class share what the higher classes leave (R150). -/
theorem State.class_shared (s : State) (A : Nat) (c : ClassNo) :
    let higher := allConns.filter fun n => s.participates n && Decidable.decide (c < (s.sess n).cls)
    let power := A - (higher.map (targetIn (s.fillAll A))).sum
    (higher.map (targetIn (s.fillAll A))).sum ≤ A ∧
    ∃ ts left stay, Shared s.pedShare (s.memberConns c) power ts left stay ∧
      (∀ x ∈ ts, targetIn (s.fillAll A) x.1 = x.2) ∧
      (stay ≠ [] → ∀ n, s.participates n = true → (s.sess n).cls < c → targetIn (s.fillAll A) n = 0) := by
  obtain ⟨before, after, split_, above⟩ := classes_split c
  obtain ⟨keys, sum, -⟩ := s.fillClasses_spec A before
  obtain ⟨ts, stay, out, shared⟩ := s.fillNext_shared (s.fillClasses before A) c
  have whole : s.fillAll A = (after.foldl s.fillNext (s.fillNext (s.fillClasses before A) c)).1 := by
    rw [State.fillAll_eq, split_, State.fillClasses, List.foldl_append, List.foldl_cons]
    rfl
  obtain ⟨later, parts⟩ : ∃ later, (s.fillNext (s.fillClasses before A) c).1 ++ later = s.fillAll A := by
    rw [whole]
    exact s.foldl_fillNext_fst after _
  have value : ∀ x ∈ s.fillAll A, targetIn (s.fillAll A) x.1 = x.2 := fun x hx => targetIn_of_mem (s.fillAll_keys A) hx
  have first : ∀ x ∈ (s.fillClasses before A).1, x ∈ s.fillAll A := fun x hx => by
    rw [← parts, out]
    simp [hx]
  have mine : ∀ x ∈ ts, x ∈ s.fillAll A := fun x hx => by
    rw [← parts, out]
    simp [hx]
  have higher : (allConns.filter fun n => s.participates n && Decidable.decide (c < (s.sess n).cls)).Perm
      ((s.fillClasses before A).1.map Prod.fst) := by
    have nodup : before.Nodup := by
      have := classes_nodup
      rw [split_] at this
      exact (List.nodup_append.1 this).1
    refine List.Perm.trans ?_ keys.symm
    refine (List.perm_ext_iff_of_nodup (allConns_nodup.filter _) (s.flatMap_memberConns_nodup nodup)).2 fun n => ?_
    simp only [List.mem_filter, mem_allConns, true_and, Bool.and_eq_true, decide_eq_true_eq, List.mem_flatMap,
      State.mem_memberConns]
    exact ⟨fun ⟨h, lt⟩ => ⟨_, (above _).2 lt, h, rfl⟩, fun ⟨k, hk, h, e⟩ => ⟨h, e ▸ (above k).1 hk⟩⟩
  have taken : ((allConns.filter fun n => s.participates n && Decidable.decide (c < (s.sess n).cls)).map
      (targetIn (s.fillAll A))).sum = ((s.fillClasses before A).1.map Prod.snd).sum := by
    rw [(higher.map _).sum_eq, List.map_map]
    exact congrArg List.sum (List.map_congr_left fun x hx => value x (first x hx))
  have power : A - ((allConns.filter fun n => s.participates n && Decidable.decide (c < (s.sess n).cls)).map
      (targetIn (s.fillAll A))).sum = (s.fillClasses before A).2 := by omega
  dsimp only
  rw [power]
  refine ⟨by omega, ts, _, stay, shared, fun x hx => value x (mine x hx), fun hs n hn lower => ?_⟩
  have spent := shared.spent hs
  have shares := shared.sum
  have total := (s.fillClasses_spec A [3, 2, 1, 0]).2.1
  rw [← State.fillAll_eq, ← parts, out, List.map_append, List.map_append, List.sum_append, List.sum_append] at total
  obtain ⟨⟨m, x⟩, hx, rfl⟩ := List.mem_map.1 (State.mem_fillAll_keys (A := A).2 hn)
  have late : (m, x) ∈ later := by
    rw [← parts, out] at hx
    rcases List.mem_append.1 hx with hx | hx
    · rcases List.mem_append.1 hx with hx | hx
      · have := (keys.mem_iff.1 (List.mem_map_of_mem (f := Prod.fst) hx))
        obtain ⟨k, hk, hm⟩ := List.mem_flatMap.1 this
        exact absurd ((above k).1 hk) (by rw [← (State.mem_memberConns.1 hm).2]; exact lower.asymm)
      · have := shared.keys.mem_iff.1 (List.mem_map_of_mem (f := Prod.fst) hx)
        exact absurd (State.mem_memberConns.1 this).2 (ne_of_lt lower)
    · exact hx
  have small : x ≤ (later.map Prod.snd).sum := List.single_le_sum (by simp) _ (List.mem_map_of_mem (f := Prod.snd) late)
  rw [value _ hx]
  show x = 0
  omega

/-! ### The shares of a pedestal's connectors (R148) -/

theorem connOf_facts (p : Ped) (l : Letter) : pedOf (connOf p l) = p ∧ letterOf (connOf p l) = l := by
  cases l
  · refine ⟨Fin.ext ?_, ?_⟩
    · show 2 * p.val / 2 = p.val
      omega
    · show (if 2 * p.val % 2 = 0 then Letter.a else .b) = .a
      rw [if_pos (by omega)]
  · refine ⟨Fin.ext ?_, ?_⟩
    · show (2 * p.val + 1) / 2 = p.val
      omega
    · show (if (2 * p.val + 1) % 2 = 0 then Letter.a else .b) = .b
      rw [if_neg (by omega)]

@[simp] theorem letterOf_connOf (p : Ped) (l : Letter) : letterOf (connOf p l) = l := (connOf_facts p l).2

theorem connOf_letterOf (n : Conn) : connOf (pedOf n) (letterOf n) = n := by
  refine Fin.ext ?_
  unfold letterOf
  split
  · show 2 * (n.val / 2) = n.val
    omega
  · show 2 * (n.val / 2) + 1 = n.val
    omega

theorem sibling_a (p : Ped) : sibling (connOf p .a) = connOf p .b := by simp [sibling]

theorem sibling_b (p : Ped) : sibling (connOf p .b) = connOf p .a := by simp [sibling]

theorem State.pedShare_a (s : State) (p : Ped) : s.pedShare (connOf p .a) =
    if s.participates (connOf p .b) then
      pairShare (Decidable.decide ((s.setpoint (connOf p .a)).demand ≤ (s.setpoint (connOf p .b)).demand))
        (s.setpoint (connOf p .a)).demand (s.setpoint (connOf p .b)).demand (s.pedLimit p)
    else min (s.setpoint (connOf p .a)).demand (s.pedLimit p) := by
  unfold State.pedShare
  simp only [sibling_a, pedOf_connOf, letterOf_connOf]
  refine congrArg (fun first => if s.participates (connOf p .b) = true then pairShare first _ _ _ else _) ?_
  rw [beq_self_eq_true, Bool.and_true, Bool.eq_iff_iff, Bool.or_eq_true, decide_eq_true_iff, beq_iff_eq,
    decide_eq_true_iff]
  exact le_iff_lt_or_eq.symm

theorem State.pedShare_b (s : State) (p : Ped) : s.pedShare (connOf p .b) =
    if s.participates (connOf p .a) then
      pairShare (Decidable.decide ((s.setpoint (connOf p .b)).demand < (s.setpoint (connOf p .a)).demand))
        (s.setpoint (connOf p .b)).demand (s.setpoint (connOf p .a)).demand (s.pedLimit p)
    else min (s.setpoint (connOf p .b)).demand (s.pedLimit p) := by
  unfold State.pedShare
  simp only [sibling_b, pedOf_connOf, letterOf_connOf]
  refine congrArg (fun first => if s.participates (connOf p .a) = true then pairShare first _ _ _ else _) ?_
  rw [show (Letter.b == Letter.a) = false from rfl, Bool.and_false, Bool.or_false]

theorem pairShare_le (first : Bool) (d d' L : Nat) : pairShare first d d' L ≤ d := by
  unfold pairShare
  split
  · exact le_refl d
  · split
    · exact Nat.min_le_left ..
    · exact Nat.min_le_left ..

/-- The shares of two participants are within the pedestal's limit. -/
theorem pairShare_add_le (first : Bool) (d d' L : Nat) : pairShare first d d' L + pairShare (!first) d' d L ≤ L := by
  unfold pairShare
  cases first <;> (simp only [Bool.not_true, Bool.not_false, Bool.false_eq_true, if_true, if_false]; split <;>
    split <;> omega)

theorem State.pedShare_le (s : State) (n : Conn) : s.pedShare n ≤ (s.setpoint n).demand := by
  unfold State.pedShare
  dsimp only
  split
  · exact pairShare_le ..
  · exact Nat.min_le_left ..

/-- The pedestal shares of every state are as R148 says. -/
theorem State.pedestalShared (s : State) (p : Ped) : PedestalShared p s := by
  have both_a (h : s.participates (connOf p .b) = true) : s.pedShare (connOf p .a) =
      pairShare (Decidable.decide ((s.setpoint (connOf p .a)).demand ≤ (s.setpoint (connOf p .b)).demand))
        (s.setpoint (connOf p .a)).demand (s.setpoint (connOf p .b)).demand (s.pedLimit p) := by
    rw [s.pedShare_a, if_pos h]
  have both_b (h : s.participates (connOf p .a) = true) : s.pedShare (connOf p .b) =
      pairShare (Decidable.decide ((s.setpoint (connOf p .b)).demand < (s.setpoint (connOf p .a)).demand))
        (s.setpoint (connOf p .b)).demand (s.setpoint (connOf p .a)).demand (s.pedLimit p) := by
    rw [s.pedShare_b, if_pos h]
  refine ⟨fun x hx alone => ?_, fun ⟨ha, hb⟩ fits => ?_, fun ⟨ha, hb⟩ above le => ?_, fun ⟨ha, hb⟩ above lt => ?_⟩
  · cases x with
    | a =>
      rw [s.pedShare_a, if_neg fun hb => alone ⟨hx, hb⟩]
    | b =>
      rw [s.pedShare_b, if_neg fun ha => alone ⟨ha, hx⟩]
  · rw [both_a hb, both_b ha, pairShare, pairShare, if_pos fits, if_pos (by omega)]
    exact ⟨rfl, rfl⟩
  · have a : s.pedShare (connOf p .a) = min (s.setpoint (connOf p .a)).demand (s.pedLimit p / 2) := by
      rw [both_a hb, pairShare, if_neg (by omega), if_pos (decide_eq_true le)]
    refine ⟨a, ?_⟩
    rw [a, both_b ha, pairShare, if_neg (by omega), if_neg (by simp; omega)]
  · have b : s.pedShare (connOf p .b) = min (s.setpoint (connOf p .b)).demand (s.pedLimit p / 2) := by
      rw [both_b ha, pairShare, if_neg (by omega), if_pos (decide_eq_true lt)]
    refine ⟨b, ?_⟩
    rw [b, both_a hb, pairShare, if_neg (by omega), if_neg (by simp; omega)]

/-- The shares of the participants of a pedestal are within its limit. -/
theorem State.shares_le_limit (s : State) (p : Ped) :
    (if s.participates (connOf p .a) then s.pedShare (connOf p .a) else 0) +
      (if s.participates (connOf p .b) then s.pedShare (connOf p .b) else 0) ≤ s.pedLimit p := by
  rw [s.pedShare_a, s.pedShare_b]
  by_cases ha : s.participates (connOf p .a) = true <;> by_cases hb : s.participates (connOf p .b) = true
  · rw [if_pos ha, if_pos hb, if_pos ha, if_pos hb]
    have other : Decidable.decide ((s.setpoint (connOf p .b)).demand < (s.setpoint (connOf p .a)).demand) =
        !Decidable.decide ((s.setpoint (connOf p .a)).demand ≤ (s.setpoint (connOf p .b)).demand) := by
      rw [← decide_not, decide_eq_decide]
      omega
    rw [other]
    exact pairShare_add_le ..
  · rw [if_pos ha, if_neg hb, if_neg hb]
    omega
  · rw [if_neg ha, if_pos hb, if_neg ha]
    omega
  · rw [if_neg ha, if_neg hb]
    omega

end Sys2Proof.Machine
end

section
/-! SUPPORT and PROOF. The allocation pass (R147 to R151): what it leaves of every setpoint record, slot and
configuration, and that its targets keep every limit. -/

namespace Sys2Proof.Machine

/-! ### What every stage of a pass keeps -/

/-- What every stage of a pass keeps: all but the decrease slots, the marks, demands, targets and states of the setpoint
records, the limits used and the power shared. -/
structure PassStage (s t : State) : Prop where
  blocks : SameBut [.line, .alloc] s t
  line : t.line = { s.line with slots := t.line.slots }
  openSet : ∀ n, (t.slots n).openSet = (s.slots n).openSet
  alloc : t.alloc = { s.alloc with
    setpoints := t.alloc.setpoints, configs := t.alloc.configs, available := t.alloc.available }
  config : ∀ p, t.config p = { s.config p with limitUsed := (t.config p).limitUsed }
  grant : ∀ n, (t.setpoint n).grant = (s.setpoint n).grant ∧ (t.setpoint n).holdExpiry = (s.setpoint n).holdExpiry ∧
    (t.setpoint n).inFlight = (s.setpoint n).inFlight
  away : ∀ n, s.linkOf n = .unreachable → t.setpoint n = s.setpoint n ∧ t.slots n = s.slots n

theorem PassStage.refl (s : State) : PassStage s s :=
  ⟨.refl _ s, rfl, fun _ => rfl, rfl, fun _ => rfl, fun _ => ⟨rfl, rfl, rfl⟩, fun _ _ => ⟨rfl, rfl⟩⟩

section stage

variable {s t : State} (h : PassStage s t)

include h

theorem PassStage.peds : t.line.peds = s.line.peds := by rw [h.line]

theorem PassStage.inflight : t.line.inflight = s.line.inflight := by rw [h.line]

theorem PassStage.ped (p : Ped) : t.ped p = s.ped p := by rw [State.ped, h.peds, State.ped]

theorem PassStage.linkOf (n : Conn) : t.linkOf n = s.linkOf n := congrArg Pedestal.link (h.ped _)

theorem PassStage.sess (n : Conn) : t.sess n = s.sess n := State.sess_congr (h.blocks .sessions (by simp)) n

theorem PassStage.seq (n : Conn) : t.seq n = s.seq n := by
  have sequencer : t.sequencer = s.sequencer := h.blocks .sequencer (by simp)
  rw [State.seq, sequencer, State.seq]

theorem PassStage.participates (n : Conn) : t.participates n = s.participates n := by
  rw [State.participates, h.sess, h.seq, h.linkOf, State.participates]

theorem PassStage.clampedDemand (n : Conn) : t.clampedDemand n = s.clampedDemand n := by
  have rating : t.rating n = s.rating n := by
    unfold State.rating
    rw [h.config]
  have report : t.report n = s.report n := by
    unfold State.report
    rw [h.ped]
  rw [State.clampedDemand, rating, report, State.clampedDemand]

theorem PassStage.pedLimit (p : Ped) : t.pedLimit p = s.pedLimit p := by
  unfold State.pedLimit
  rw [h.ped, h.config]

theorem PassStage.effLimit : t.effLimit = s.effLimit := by
  unfold State.effLimit
  rw [h.alloc]

theorem PassStage.fixedSum : t.fixedSum = s.fixedSum := by
  refine congrArg List.sum (List.map_congr_left fun n _ => ?_)
  rw [State.fixedDraw, h.linkOf, h.seq, (h.grant n).1, State.fixedDraw]

end stage

theorem PassStage.trans {s t u : State} (h : PassStage s t) (g : PassStage t u) : PassStage s u where
  blocks := h.blocks.trans g.blocks
  line := by rw [g.line, h.line]
  openSet n := (g.openSet n).trans (h.openSet n)
  alloc := by rw [g.alloc, h.alloc]
  config p := by rw [g.config, h.config]
  grant n := by
    obtain ⟨g₁, g₂, g₃⟩ := g.grant n
    obtain ⟨h₁, h₂, h₃⟩ := h.grant n
    exact ⟨g₁.trans h₁, g₂.trans h₂, g₃.trans h₃⟩
  away n hn := by
    obtain ⟨h₁, h₂⟩ := h.away n hn
    obtain ⟨g₁, g₂⟩ := g.away n ((h.linkOf n).trans hn)
    exact ⟨g₁.trans h₁, g₂.trans h₂⟩

/-- A change of one setpoint record that keeps its grant, its hold and its value in flight. -/
theorem PassStage.updSetpoint {n : Conn} {f : Setpoint → Setpoint} (s : State) (hn : s.linkOf n ≠ .unreachable)
    (hf : (f (s.setpoint n)).grant = (s.setpoint n).grant ∧ (f (s.setpoint n)).holdExpiry = (s.setpoint n).holdExpiry ∧
      (f (s.setpoint n)).inFlight = (s.setpoint n).inFlight) : PassStage s (s.updSetpoint n f) where
  blocks b hb := by
    cases b with
    | line | alloc => simp at hb
    | _ => rfl
  line := rfl
  openSet _ := rfl
  alloc := rfl
  config _ := rfl
  grant m := by
    rw [State.updSetpoint_setpoint]
    split
    · next e => exact e ▸ hf
    · exact ⟨rfl, rfl, rfl⟩
  away m hm := by
    have ne : m ≠ n := fun e => hn (e ▸ hm)
    exact ⟨State.updSetpoint_setpoint_of_ne n m f s ne, rfl⟩

theorem PassStage.updSlots {n : Conn} {f : SafetySlots → SafetySlots} (s : State) (hn : s.linkOf n ≠ .unreachable)
    (hf : (f (s.slots n)).openSet = (s.slots n).openSet) : PassStage s (s.updSlots n f) where
  blocks b hb := by
    cases b with
    | line | alloc => simp at hb
    | _ => rfl
  line := rfl
  openSet m := by
    rw [State.updSlots_slots]
    split
    · next e => exact e ▸ hf
    · rfl
  alloc := rfl
  config _ := rfl
  grant _ := ⟨rfl, rfl, rfl⟩
  away m hm := by
    have ne : m ≠ n := fun e => hn (e ▸ hm)
    exact ⟨rfl, State.updSlots_slots_of_ne n m f s ne⟩

theorem PassStage.updConfig {p : Ped} {x : Nat} (s : State) :
    PassStage s (s.updConfig p fun c => { c with limitUsed := x }) where
  blocks b hb := by
    cases b with
    | line | alloc => simp at hb
    | _ => rfl
  line := rfl
  openSet _ := rfl
  alloc := rfl
  config q := by
    rw [State.updConfig_config]
    split
    · next e => rw [e]
    · rfl
  grant _ := ⟨rfl, rfl, rfl⟩
  away _ _ := ⟨rfl, rfl⟩

/-! ### Placement (R151) -/

/-- A setpoint record after its placement. -/
def Setpoint.placed (x : Setpoint) : Setpoint :=
  if x.state = .increaseSent then x
  else if x.target < x.grant then { x with state := .decreasePending }
  else if x.grant < x.target then { x with state := .increaseDeferred }
  else { x with state := if 0 < x.grant ∧ x.holdExpiry = none then .fallback else .steady }

/-- The safety slots of a connector after its record was placed. -/
def SafetySlots.placed (x : Setpoint) (y : SafetySlots) : SafetySlots :=
  if x.state = .increaseSent then y
  else if x.target < x.grant then { y with decSet := true, decValue := x.target }
  else { y with decSet := false }

/-- Placement changes the state of a record alone. -/
theorem Setpoint.placed_eq (x : Setpoint) : x.placed = { x with state := x.placed.state } := by
  unfold Setpoint.placed
  split
  · rfl
  · split
    · rfl
    · split
      · rfl
      · rfl

theorem Setpoint.placed_kept (x : Setpoint) : x.placed.participant = x.participant ∧ x.placed.demand = x.demand ∧
    x.placed.target = x.target ∧ (x.placed.state = .increaseSent ↔ x.state = .increaseSent) := by
  refine ⟨by rw [placed_eq], by rw [placed_eq], by rw [placed_eq], ?_⟩
  unfold Setpoint.placed
  by_cases sent : x.state = .increaseSent
  · rw [if_pos sent]
  · rw [if_neg sent]
    refine ⟨fun h => ?_, fun h => absurd h sent⟩
    split at h
    · cases h
    · split at h
      · cases h
      · dsimp only at h
        split at h <;> cases h

theorem State.place_cases (n : Conn) (s : State) :
    ((s.setpoint n).state = .increaseSent ∧ s.place n = s) ∨
    ((s.setpoint n).state ≠ .increaseSent ∧ ∃ f : SafetySlots → SafetySlots, ∃ k : SetpointState,
      s.place n = (s.updSlots n f).updSetpoint n (fun r => { r with state := k }) ∧
      f (s.slots n) = (s.slots n).placed (s.setpoint n) ∧ k = (s.setpoint n).placed.state) := by
  unfold State.place
  dsimp only
  by_cases sent : (s.setpoint n).state = .increaseSent
  · exact .inl ⟨sent, if_pos sent⟩
  · refine .inr ⟨sent, ?_⟩
    rw [if_neg sent]
    by_cases lower : (s.setpoint n).target < (s.setpoint n).grant
    · rw [if_pos lower]
      exact ⟨_, _, rfl, by rw [SafetySlots.placed, if_neg sent, if_pos lower], by rw [Setpoint.placed, if_neg sent,
        if_pos lower]⟩
    · rw [if_neg lower]
      by_cases higher : (s.setpoint n).grant < (s.setpoint n).target
      · rw [if_pos higher]
        exact ⟨_, _, rfl, by rw [SafetySlots.placed, if_neg sent, if_neg lower],
          by rw [Setpoint.placed, if_neg sent, if_neg lower, if_pos higher]⟩
      · rw [if_neg higher]
        refine ⟨fun y => { y with decSet := false },
          if 0 < (s.setpoint n).grant ∧ (s.setpoint n).holdExpiry = none then .fallback else .steady, ?_,
          by rw [SafetySlots.placed, if_neg sent, if_neg lower],
          by rw [Setpoint.placed, if_neg sent, if_neg lower, if_neg higher]⟩
        have record : (s.clearDecSlot n).setpoint n = s.setpoint n := rfl
        rw [State.updSetpoint, State.updSetpoint, record]
        rfl

theorem State.place_setpoint (n m : Conn) (s : State) :
    (s.place n).setpoint m = if m = n then (s.setpoint n).placed else s.setpoint m := by
  rcases State.place_cases n s with ⟨sent, e⟩ | ⟨-, f, k, e, -, hk⟩
  · rw [e]
    split
    · next h => rw [h, Setpoint.placed, if_pos sent]
    · rfl
  · rw [e, State.updSetpoint_setpoint, (s.setpoint n).placed_eq, hk]
    rfl

theorem State.place_slots (n m : Conn) (s : State) :
    (s.place n).slots m = if m = n then (s.slots n).placed (s.setpoint n) else s.slots m := by
  rcases State.place_cases n s with ⟨sent, e⟩ | ⟨-, f, k, e, hf, -⟩
  · rw [e]
    split
    · next h => rw [h, SafetySlots.placed, if_pos sent]
    · rfl
  · rw [e, State.updSetpoint_slots, State.updSlots_slots, hf]

theorem PassStage.place {n : Conn} (s : State) (hn : s.linkOf n ≠ .unreachable) : PassStage s (s.place n) := by
  rcases State.place_cases n s with ⟨-, e⟩ | ⟨-, f, k, e, hf, -⟩
  · rw [e]
    exact .refl s
  · rw [e]
    refine (PassStage.updSlots s hn ?_).trans (.updSetpoint (s.updSlots n f) hn ⟨rfl, rfl, rfl⟩)
    rw [hf, SafetySlots.placed]
    split
    · rfl
    · split
      · rfl
      · rfl

/-- A placed record and its slots stand as R151 says. -/
theorem placed_placed (x : Setpoint) (y : SafetySlots) (h : x.state ≠ .increaseSent) : Placed x.placed
    (y.placed x) := by
  unfold Setpoint.placed SafetySlots.placed
  rw [if_neg h, if_neg h]
  by_cases lower : x.target < x.grant
  · rw [if_pos lower, if_pos lower]
    exact ⟨fun _ => ⟨rfl, rfl, rfl⟩, fun e => absurd e lower.asymm, fun e => absurd e lower.ne⟩
  · rw [if_neg lower, if_neg lower]
    by_cases higher : x.grant < x.target
    · rw [if_pos higher]
      exact ⟨fun e => absurd e lower, fun _ => ⟨rfl, rfl⟩, fun e => absurd e.symm higher.ne⟩
    · rw [if_neg higher]
      exact ⟨fun e => absurd e lower, fun e => absurd e higher, fun _ => ⟨rfl, rfl⟩⟩

/-! ### The stages (R147 to R151) -/

/-- A fold over the connectors of which each turn is a stage's change of one record and its slots, at a pedestal that is
not UNREACHABLE. -/
theorem stage_foldl (f : State → Conn → State) (G : Conn → Setpoint × SafetySlots → Setpoint × SafetySlots) (s : State)
    (skip : ∀ t n, t.linkOf n = .unreachable → f t n = t)
    (stage : ∀ t n, t.linkOf n ≠ .unreachable → PassStage t (f t n))
    (other : ∀ t n m, m ≠ n → (f t n).setpoint m = t.setpoint m ∧ (f t n).slots m = t.slots m)
    (own : ∀ t n, PassStage s t → t.linkOf n ≠ .unreachable →
      ((f t n).setpoint n, (f t n).slots n) = G n (t.setpoint n, t.slots n)) :
    PassStage s (allConns.foldl f s) ∧ ∀ n, s.linkOf n ≠ .unreachable →
      ((allConns.foldl f s).setpoint n, (allConns.foldl f s).slots n) = G n (s.setpoint n, s.slots n) := by
  obtain ⟨still, mine, -⟩ := foldl_each f (fun t n => (t.setpoint n, t.slots n)) (PassStage s)
    (fun n x y => s.linkOf n ≠ .unreachable → y = G n x)
    (fun t n h => by
      by_cases away : t.linkOf n = .unreachable
      · rw [skip t n away]
        exact h
      · exact h.trans (stage t n away))
    (fun t n m _ hm => by rw [(other t n m hm).1, (other t n m hm).2])
    (fun t n h away => own t n h (by rwa [h.linkOf]))
    allConns s (.refl s) allConns_nodup
  exact ⟨still, fun n => mine n (mem_allConns n)⟩

/-- The records marked, before the limits used are. -/
def State.marks (s : State) : State := allConns.foldl (fun s n => s.markOne n) s

theorem State.marks_spec (s : State) : PassStage s s.marks ∧ ∀ n, s.linkOf n ≠ .unreachable →
    (s.marks.setpoint n, s.marks.slots n) =
      ({ s.setpoint n with participant := s.participates n, demand := s.clampedDemand n }, s.slots n) := by
  refine stage_foldl (fun s n => s.markOne n) (fun n x =>
    ({ x.1 with participant := s.participates n, demand := s.clampedDemand n }, x.2)) s
    (fun t n h => if_pos h) (fun t n h => ?_) (fun t n m hm => ?_) fun t n h away => ?_
  · rw [State.markOne, if_neg h]
    exact .updSetpoint t h ⟨rfl, rfl, rfl⟩
  · rw [State.markOne]
    split
    · exact ⟨rfl, rfl⟩
    · exact ⟨State.updSetpoint_setpoint_of_ne n m _ t hm, rfl⟩
  · dsimp only
    rw [State.markOne, if_neg away, State.updSetpoint_setpoint_same, h.participates, h.clampedDemand]
    rfl

theorem State.marked_spec (s : State) : PassStage s.marks s.marked ∧ (∀ n, s.marked.setpoint n = s.marks.setpoint n) ∧
    (∀ n, s.marked.slots n = s.marks.slots n) ∧
    ∀ p, (s.ped p).link ≠ .unreachable → (s.marked.config p).limitUsed = s.pedLimit p := by
  have marks := s.marks_spec.1
  obtain ⟨⟨still, setpoints, slots⟩, mine, -⟩ := foldl_each (fun s p => State.useLimit p s) (fun t p => t.config p)
    (fun t => PassStage s.marks t ∧ (∀ n, t.setpoint n = s.marks.setpoint n) ∧ ∀ n, t.slots n = s.marks.slots n)
    (fun p x y => (s.ped p).link ≠ .unreachable → y.limitUsed = s.pedLimit p)
    (fun t p h => by
      rw [State.useLimit]
      split
      · exact h
      · exact ⟨h.1.trans (.updConfig t), h.2⟩)
    (fun t p q _ hq => by
      rw [State.useLimit]
      split
      · rfl
      · exact State.updConfig_config_of_ne p q _ t hq)
    (fun t p h away => by
      have link : (t.ped p).link ≠ .unreachable := by rwa [h.1.ped, marks.ped]
      rw [State.useLimit, if_neg link, State.updConfig_config_same, h.1.pedLimit, marks.pedLimit])
    allPeds s.marks ⟨.refl _, fun _ => rfl, fun _ => rfl⟩ (List.nodup_finRange 24)
  exact ⟨still, setpoints, slots, fun p => mine p (List.mem_finRange p)⟩

theorem State.targeted_spec (ts : List (Conn × Nat)) (s : State) : PassStage s (s.targeted ts) ∧
    ∀ n, s.linkOf n ≠ .unreachable → ((s.targeted ts).setpoint n, (s.targeted ts).slots n) =
      ({ s.setpoint n with target := targetIn ts n }, s.slots n) := by
  refine stage_foldl (fun s n => State.setTarget ts n s) (fun n x => ({ x.1 with target := targetIn ts n }, x.2)) s
    (fun t n h => if_pos h) (fun t n h => ?_) (fun t n m hm => ?_) fun t n h away => ?_
  · rw [State.setTarget, if_neg h]
    exact .updSetpoint t h ⟨rfl, rfl, rfl⟩
  · rw [State.setTarget]
    split
    · exact ⟨rfl, rfl⟩
    · exact ⟨State.updSetpoint_setpoint_of_ne n m _ t hm, rfl⟩
  · dsimp only
    rw [State.setTarget, if_neg away, State.updSetpoint_setpoint_same]
    rfl

theorem State.placedAll_spec (s : State) : PassStage s s.placedAll ∧
    ∀ n, s.linkOf n ≠ .unreachable → (s.placedAll.setpoint n, s.placedAll.slots n) =
      ((s.setpoint n).placed, (s.slots n).placed (s.setpoint n)) := by
  refine stage_foldl (fun s n => State.placeReachable n s) (fun _ x => (x.1.placed, x.2.placed x.1)) s
    (fun t n h => if_pos h) (fun t n h => ?_) (fun t n m hm => ?_) fun t n h away => ?_
  · rw [State.placeReachable, if_neg h]
    exact .place t h
  · rw [State.placeReachable]
    split
    · exact ⟨rfl, rfl⟩
    · rw [State.place_setpoint, State.place_slots, if_neg hm, if_neg hm]
      exact ⟨rfl, rfl⟩
  · dsimp only
    rw [State.placeReachable, if_neg away, State.place_setpoint, State.place_slots, if_pos rfl, if_pos rfl]

/-- The state with another power shared. -/
def State.sharing (x : Nat) (s : State) : State := { s with alloc := { s.alloc with available := x } }

theorem State.powered_eq (s : State) : s.powered = s.sharing s.passPower := rfl

theorem PassStage.sharing (x : Nat) (s : State) : PassStage s (s.sharing x) where
  blocks b hb := by
    cases b with
    | line | alloc => simp at hb
    | _ => rfl
  line := rfl
  openSet _ := rfl
  alloc := rfl
  config _ := rfl
  grant _ := ⟨rfl, rfl, rfl⟩
  away _ _ := ⟨rfl, rfl⟩

theorem PassStage.powered (s : State) : PassStage s s.powered := .sharing s.passPower s

theorem State.sharing_rest (x : Nat) (s : State) (n : Conn) : (s.sharing x).setpoint n = s.setpoint n ∧
    (s.sharing x).slots n = s.slots n ∧ (s.sharing x).alloc.available = x ∧
    (s.sharing x).alloc.configs = s.alloc.configs := ⟨rfl, rfl, rfl, rfl⟩

theorem State.powered_setpoint (s : State) (n : Conn) : s.powered.setpoint n = s.setpoint n :=
  (State.sharing_rest s.passPower s n).1

theorem State.powered_slots (s : State) (n : Conn) : s.powered.slots n = s.slots n :=
  (State.sharing_rest s.passPower s n).2.1

/-- Giving targets and placing change neither the power shared nor a configuration. -/
theorem State.targeted_rest (ts : List (Conn × Nat)) (s : State) : (s.targeted ts).alloc.available = s.alloc.available ∧
    (s.targeted ts).alloc.configs = s.alloc.configs := by
  have turn (t : State) (n : Conn) : (State.setTarget ts n t).alloc.available = t.alloc.available ∧
      (State.setTarget ts n t).alloc.configs = t.alloc.configs := by
    unfold State.setTarget
    split
    · exact ⟨rfl, rfl⟩
    · exact ⟨rfl, rfl⟩
  exact ⟨foldl_frame (fun t => t.alloc.available) _ (fun t n => (turn t n).1) _ s,
    foldl_frame (fun t => t.alloc.configs) _ (fun t n => (turn t n).2) _ s⟩

theorem State.placedAll_rest (s : State) : s.placedAll.alloc.available = s.alloc.available ∧
    s.placedAll.alloc.configs = s.alloc.configs := by
  have turn (t : State) (n : Conn) : (State.placeReachable n t).alloc.available = t.alloc.available ∧
      (State.placeReachable n t).alloc.configs = t.alloc.configs := by
    unfold State.placeReachable
    split
    · exact ⟨rfl, rfl⟩
    · rcases State.place_cases n t with ⟨-, e⟩ | ⟨-, f, k, e, -, -⟩
      · rw [e]
        exact ⟨rfl, rfl⟩
      · rw [e]
        exact ⟨rfl, rfl⟩
  exact ⟨foldl_frame (fun t => t.alloc.available) _ (fun t n => (turn t n).1) _ s,
    foldl_frame (fun t => t.alloc.configs) _ (fun t n => (turn t n).2) _ s⟩

/-! ### The pass, whole -/

/-- The targets a pass gives. -/
def State.passTargets (s : State) : List (Conn × Nat) := s.marked.fillAll s.marked.passPower

/-- A record as it is marked and given a target. -/
def Setpoint.given (x : Setpoint) (takes : Bool) (demand target : Nat) : Setpoint :=
  { x with participant := takes, demand := demand, target := target }

theorem Setpoint.given_kept (x : Setpoint) (takes : Bool) (demand target : Nat) :
    (x.given takes demand target).participant = takes ∧ (x.given takes demand target).demand = demand ∧
    (x.given takes demand target).target = target := ⟨rfl, rfl, rfl⟩

/-- A setpoint record as a pass has marked it and given it its target, before its placement. -/
def State.passRecord (s : State) (n : Conn) : Setpoint :=
  (s.setpoint n).given (s.participates n) (s.clampedDemand n) (targetIn s.passTargets n)

theorem State.pass_stage (s : State) : PassStage s s.pass := by
  rw [State.pass_eq]
  exact s.marks_spec.1.trans <| s.marked_spec.1.trans <| (PassStage.powered _).trans <|
    (State.targeted_spec _ _).1.trans (State.placedAll_spec _).1

/-- The state of a pass before its targets are given. -/
theorem State.marked_stage (s : State) : PassStage s s.marked := s.marks_spec.1.trans s.marked_spec.1

theorem State.pass_records (s : State) (n : Conn) (h : s.linkOf n ≠ .unreachable) :
    s.pass.setpoint n = (s.passRecord n).placed ∧ s.pass.slots n = (s.slots n).placed (s.passRecord n) := by
  have marks := s.marks_spec.2 n h
  have marked : (s.marked.setpoint n, s.marked.slots n) = (s.marks.setpoint n, s.marks.slots n) := by
    rw [s.marked_spec.2.1, s.marked_spec.2.2.1]
  have stage := s.marked_stage.trans (PassStage.powered _)
  have targeted := (State.targeted_spec s.passTargets s.marked.powered).2 n (by rwa [stage.linkOf])
  have stage' := stage.trans (State.targeted_spec s.passTargets s.marked.powered).1
  have placed := (State.placedAll_spec (s.marked.powered.targeted s.passTargets)).2 n (by rwa [stage'.linkOf])
  rw [marks] at marked
  obtain ⟨m₁, m₂⟩ := Prod.mk.inj marked
  rw [State.powered_setpoint, State.powered_slots] at targeted
  obtain ⟨t₁, t₂⟩ := Prod.mk.inj targeted
  have record : (s.marked.powered.targeted s.passTargets).setpoint n = s.passRecord n := by
    rw [t₁, m₁, State.passRecord, Setpoint.given]
  have slots : (s.marked.powered.targeted s.passTargets).slots n = s.slots n := t₂.trans m₂
  rw [record, slots] at placed
  obtain ⟨p₁, p₂⟩ := Prod.mk.inj placed
  have whole : s.pass = (s.marked.powered.targeted s.passTargets).placedAll := s.pass_eq
  rw [whole]
  exact ⟨p₁, p₂⟩

theorem State.pass_rest (s : State) : s.pass.alloc.available = s.marked.passPower ∧
    s.pass.alloc.configs = s.marked.alloc.configs := by
  have whole : s.pass = (s.marked.powered.targeted s.passTargets).placedAll := s.pass_eq
  obtain ⟨p₁, p₂⟩ := (s.marked.powered.targeted s.passTargets).placedAll_rest
  obtain ⟨t₁, t₂⟩ := State.targeted_rest s.passTargets s.marked.powered
  obtain ⟨-, -, available, configs⟩ := State.sharing_rest s.marked.passPower s.marked 0
  rw [whole, p₁, p₂, t₁, t₂, State.powered_eq]
  exact ⟨available, configs⟩

/-! ### What the targets of a pass are in the state it leaves -/

theorem State.pedShare_congr {s t : State} (demand : ∀ n, (t.setpoint n).demand = (s.setpoint n).demand)
    (limit : ∀ p, t.pedLimit p = s.pedLimit p) (takes : ∀ n, t.participates n = s.participates n) (n : Conn) :
    t.pedShare n = s.pedShare n := by
  simp only [State.pedShare, demand, limit, takes]

theorem State.fillAll_congr {s t : State} (share : ∀ n, t.pedShare n = s.pedShare n)
    (takes : ∀ n, t.participates n = s.participates n) (sess : ∀ n, t.sess n = s.sess n) (A : Nat) :
    t.fillAll A = s.fillAll A := by
  have members (c : ClassNo) : t.members c = s.members c := by
    simp only [State.members, takes, sess, share]
  unfold State.fillAll
  simp only [members]

theorem State.passRecord_kept (s : State) (n : Conn) : (s.passRecord n).placed.participant = s.participates n ∧
    (s.passRecord n).placed.demand = s.clampedDemand n ∧
    (s.passRecord n).placed.target = targetIn s.passTargets n := by
  obtain ⟨participant, demand, target, -⟩ := (s.passRecord n).placed_kept
  rw [participant, demand, target, State.passRecord]
  exact Setpoint.given_kept _ _ _ _

theorem State.marked_demand (s : State) (n : Conn) : (s.marked.setpoint n).demand = (s.pass.setpoint n).demand := by
  by_cases away : s.linkOf n = .unreachable
  · rw [(s.pass_stage.away n away).1, (s.marked_stage.away n away).1]
  · obtain ⟨m₁, -⟩ := Prod.mk.inj (s.marks_spec.2 n away)
    rw [(s.pass_records n away).1, (s.passRecord_kept n).2.1, s.marked_spec.2.1, m₁]

theorem State.pass_targets (s : State) : s.passTargets = s.pass.fillAll s.pass.alloc.available := by
  have takes (n : Conn) : s.pass.participates n = s.marked.participates n := by
    rw [s.pass_stage.participates, s.marked_stage.participates]
  have share (n : Conn) : s.pass.pedShare n = s.marked.pedShare n :=
    State.pedShare_congr (fun n => (s.marked_demand n).symm)
      (fun p => by rw [s.pass_stage.pedLimit, s.marked_stage.pedLimit]) takes n
  have same := State.fillAll_congr share takes (fun n => by rw [s.pass_stage.sess, s.marked_stage.sess])
    s.marked.passPower
  exact same.symm.trans (congrArg s.pass.fillAll s.pass_rest.1.symm)

/-- The target a pass gives a connector of a pedestal that is not UNREACHABLE. -/
theorem State.pass_target (s : State) {n : Conn} (h : s.linkOf n ≠ .unreachable) :
    (s.pass.setpoint n).target = targetIn (s.pass.fillAll s.pass.alloc.available) n := by
  rw [(s.pass_records n h).1, (s.passRecord_kept n).2.2, s.pass_targets]

/-- A participant's pedestal is not UNREACHABLE. -/
theorem State.linkOf_of_participates {s : State} {n : Conn} (h : s.participates n = true) : s.linkOf n ≠
    .unreachable := by
  simp only [State.participates, Bool.and_eq_true, bne_iff_ne] at h
  exact h.2

end Sys2Proof.Machine
end

section
/-! SUPPORT and PROOF. After a pass the targets keep every limit (R147 to R151), and the requests and moments that
bring a
pass (R142 to R146, R156). -/

namespace Sys2Proof.Machine

/-! ### Every limit is kept -/

theorem State.pass_passTaken (s : State) : PassTaken s.pass := by
  have stage := s.pass_stage
  have small (n : Conn) (h : s.linkOf n ≠ .unreachable) : (s.pass.setpoint n).target ≤
      if s.pass.participates n then s.pass.pedShare n else 0 := by
    rw [s.pass_target h]
    split
    · exact s.pass.target_le_share _ n
    · next out => exact (State.target_of_not_participant (Bool.not_eq_true _ ▸ out)).le
  refine ⟨?_, fun n hn => ?_, fun p hp => ?_, ?_⟩
  · rw [s.pass_rest.1, State.passPower, s.marked_stage.effLimit, s.marked_stage.fixedSum, stage.effLimit,
      stage.fixedSum]
  · have away : s.linkOf n ≠ .unreachable := by rwa [← stage.linkOf]
    obtain ⟨record, slots⟩ := s.pass_records n away
    obtain ⟨participant, demand, -⟩ := s.passRecord_kept n
    refine ⟨?_, ?_, ?_, fun out => ?_, ?_⟩
    · rw [record, participant, stage.participates]
    · rw [record, demand, stage.clampedDemand]
    · refine (small n away).trans ?_
      split
      · exact s.pass.pedShare_le n
      · exact Nat.zero_le _
    · rw [record, participant, ← stage.participates] at out
      rw [s.pass_target away]
      exact State.target_of_not_participant out
    · by_cases sent : (s.passRecord n).state = .increaseSent
      · exact .inl (by rw [record, (s.passRecord n).placed_kept.2.2.2.2 sent])
      · rw [record, slots]
        exact .inr (placed_placed _ _ sent)
  · have away : (s.ped p).link ≠ .unreachable := by rwa [← stage.ped]
    have link (l : Letter) : s.linkOf (connOf p l) ≠ .unreachable := by rwa [State.linkOf, pedOf_connOf]
    refine ⟨?_, ?_⟩
    · rw [State.config, s.pass_rest.2]
      exact (s.marked_spec.2.2.2 p away).trans (stage.pedLimit p).symm
    · exact (Nat.add_le_add (small _ (link .a)) (small _ (link .b))).trans (s.pass.shares_le_limit p)
  · have targets : (allConns.filter fun n => s.pass.linkOf n != .unreachable).map
      (fun n => (s.pass.setpoint n).target) =
        (allConns.filter fun n => s.pass.linkOf n != .unreachable).map
          (targetIn (s.pass.fillAll s.pass.alloc.available)) :=
      List.map_congr_left fun n hn => s.pass_target (by
        rw [← stage.linkOf]
        simpa using (List.mem_filter.1 hn).2)
    rw [targets]
    exact s.pass.sum_targets_le _ (allConns_nodup.filter _)

/-- Whether a pass has just been made is a matter of the line, the sessions, the sequencer and the allocator. -/
theorem PassTaken.congr {t t' : State} (h : PassTaken t) (line : t'.line = t.line) (alloc : t'.alloc = t.alloc)
    (sessions : t'.sessions = t.sessions) (sequencer : t'.sequencer = t.sequencer) : PassTaken t' := by
  have ped (p : Ped) : t'.ped p = t.ped p := by rw [State.ped, line, State.ped]
  have slots (n : Conn) : t'.slots n = t.slots n := by rw [State.slots, line, State.slots]
  have setpoint (n : Conn) : t'.setpoint n = t.setpoint n := by rw [State.setpoint, alloc, State.setpoint]
  have config (p : Ped) : t'.config p = t.config p := by rw [State.config, alloc, State.config]
  have seq (n : Conn) : t'.seq n = t.seq n := by rw [State.seq, sequencer, State.seq]
  have linkOf (n : Conn) : t'.linkOf n = t.linkOf n := congrArg Pedestal.link (ped _)
  have takes (n : Conn) : t'.participates n = t.participates n := by
    rw [State.participates, State.sess_congr sessions, seq, linkOf, State.participates]
  have demand (n : Conn) : t'.clampedDemand n = t.clampedDemand n := by
    simp only [State.clampedDemand, State.rating, State.report, ped, config]
  have limit (p : Ped) : t'.pedLimit p = t.pedLimit p := by simp only [State.pedLimit, ped, config]
  have site : t'.effLimit = t.effLimit := by rw [State.effLimit, alloc, State.effLimit]
  have draw (n : Conn) : t'.fixedDraw n = t.fixedDraw n := by simp only [State.fixedDraw, linkOf, seq, setpoint]
  have fixed : t'.fixedSum = t.fixedSum := congrArg List.sum (List.map_congr_left fun n _ => draw n)
  unfold PassTaken at h ⊢
  simp only [site, fixed, linkOf, takes, demand, limit, setpoint, slots, config, ped, alloc]
  exact h

/-- How a class shares its power in a state whose targets are those of the water-fill. -/
theorem classShared_of_targets {t : State}
    (target : ∀ n, t.participates n = true → (t.setpoint n).target = targetIn (t.fillAll t.alloc.available) n)
    (c : ClassNo) :
    ClassShared c t ∧ ∀ n m, t.participates m = true → t.participates n = true → (t.sess m).cls = c →
      (t.sess n).cls < c → (t.setpoint m).target < t.pedShare m → (t.setpoint n).target = 0 := by
  obtain ⟨within, ts, left, stay, shared, value, lower⟩ := t.class_shared t.alloc.available c
  have higher : ((allConns.filter fun n => t.participates n && decide (c < (t.sess n).cls)).map
      fun n => (t.setpoint n).target) =
      (allConns.filter fun n => t.participates n && decide (c < (t.sess n).cls)).map
        (targetIn (t.fillAll t.alloc.available)) :=
    List.map_congr_left fun n hn => target n (by
      have := (List.mem_filter.1 hn).2
      rw [Bool.and_eq_true] at this
      exact this.1)
  have member {n : Conn} (h : n ∈ t.memberConns c) : t.participates n = true := (State.mem_memberConns.1 h).1
  refine ⟨⟨?_, stay, shared.sublist, ?_⟩, fun n m hm hn hc lt small => ?_⟩
  · rw [higher]
    exact within
  · rw [higher]
    refine ⟨shared.wanted, fun n hn => ?_, fun i n hi => ?_⟩
    · obtain ⟨mem, share⟩ := shared.leaves n hn
      rw [target n (member (List.mem_filter.1 hn).1)]
      exact ⟨value _ mem, share⟩
    · obtain ⟨share, mem⟩ := shared.stays i n hi
      rw [target n (member (shared.sublist.subset (List.mem_of_getElem? hi)))]
      exact ⟨share, value _ mem⟩
  · rw [target n hn]
    refine lower (fun none_ => ?_) n hn lt
    have leaves : m ∈ leaving (t.memberConns c) stay := by
      rw [none_]
      exact List.mem_filter.2 ⟨State.mem_memberConns.2 ⟨hm, hc⟩, rfl⟩
    rw [target m hm, value _ (shared.leaves m leaves).1] at small
    exact absurd small (lt_irrefl _)

theorem State.pass_participant_target (s : State) (n : Conn) (h : s.pass.participates n = true) :
    (s.pass.setpoint n).target = targetIn (s.pass.fillAll s.pass.alloc.available) n :=
  s.pass_target (by rw [← s.pass_stage.linkOf]; exact State.linkOf_of_participates h)

/-- Settles O46. -/
theorem passKeepsEveryLimit : Obligations.PassKeepsEveryLimit := by
  intro s
  have stage := s.pass_stage
  refine ⟨s.pass_passTaken, stage.blocks, stage.peds, stage.inflight, fun n => ?_, stage.away,
    stage.participates, s.pass.pedestalShared, fun c => (classShared_of_targets s.pass_participant_target c).1,
      fun m n hm hn lt small => ?_⟩
  · obtain ⟨grant, hold, flight⟩ := stage.grant n
    exact ⟨grant, hold, flight, stage.openSet n⟩
  · rw [← stage.participates] at hm hn
    rw [← stage.sess n, ← stage.sess m] at lt
    exact (classShared_of_targets s.pass_participant_target (s.pass.sess m).cls).2 n m hm hn rfl lt small

end Sys2Proof.Machine
end

section
/-! SUPPORT and PROOF. The requests, moments and replies that stop a session (R85, R89 to R92), and those that bring a
pass
(R142 to R146, R156). -/

namespace Sys2Proof.Machine

/-! ### Requests taken -/

theorem exec_owner {c : Instr} {place : Nat} {tag : Byte} {payload : Frame} {s u : State} {r : Reply}
    (h : requestOf c = some (place, tag, payload)) (hp : payload.length ≤ 250) (hr : s.hasRoom)
    (ho : ownerOf c s.taken = (u, r)) : exec c s = .next (u.respond (byte (place + 128)) tag r) := by
  rw [exec_taken s h hp hr, ho]

theorem SameBut.respond {l : List Block} {s u : State} (h : SameBut l s.taken u) (kind tag : Byte) (r : Reply) :
    SameBut (.uplink :: l) s (u.respond kind tag r) := by
  intro b hb
  obtain ⟨hu, hl⟩ := not_or.1 (mt List.mem_cons.2 hb)
  have same := h b hl
  cases b with
  | uplink => exact absurd rfl hu
  | _ => exact same

theorem State.respond_uplink {s u : State} (h : u.uplink = s.taken.uplink) (kind tag : Byte) (r : Reply) :
    (u.respond kind tag r).uplink = s.answered kind tag r.code r.payload := by
  simp only [State.respond, State.updUplink, h]
  rfl

/-! ### What a stop leaves (R47, R73, R90) -/

theorem State.withdraw_kept (n : Conn) (s : State) : SameBut [.auth, .sessions] s (s.withdraw n) := by
  have line : (s.withdraw n).line = s.line := by
    unfold State.withdraw
    dsimp only
    rw [State.setSess_to_empty n _ _ rfl]
    split
    · rfl
    · rfl
  intro b hb
  cases b with
  | auth | sessions => simp at hb
  | line => exact line
  | classifier => exact State.withdraw_classifier n s
  | sequencer => exact State.withdraw_sequencer n s
  | tariff => exact State.withdraw_tariff n s
  | clock => exact State.withdraw_clock n s
  | metering => exact State.withdraw_metering n s
  | alloc => exact State.withdraw_alloc n s
  | settlement => exact State.withdraw_settlement n s
  | uplink => exact State.withdraw_uplink n s
  | pending => exact State.withdraw_pending n s

theorem State.withdraw_decision {n : Conn} {s : State} {h : HeldEntry} (hh : s.heldOf n = some h) :
    (s.withdraw n).decision n = some ⟨.withdrawn h.tag, s.sec⟩ := by
  unfold State.withdraw
  dsimp only
  rw [hh, State.setSess_to_empty n _ _ rfl]
  exact tget_tset_same _ _ _

theorem State.withdraw_decision_of_ne {n m : Conn} (s : State) (hm : m ≠ n) :
    (s.withdraw n).decision m = s.decision m := by
  unfold State.withdraw
  dsimp only
  rw [State.setSess_to_empty n _ _ rfl]
  split
  · exact tget_tset_of_ne _ _ _ _ hm
  · rfl

theorem State.stoppedAt_kept (why : EndReason) (n : Conn) (s : State) :
    SameBut [.line, .sequencer, .sessions] s (s.stoppedAt why n) := by
  intro b hb
  unfold State.stoppedAt
  cases b with
  | line | sequencer | sessions => simp at hb
  | classifier | auth | tariff | clock | metering | alloc | settlement | uplink | pending => simp [SameAt]

theorem State.pass_kept (s : State) : SameBut [.line, .alloc] s s.pass := s.pass_stage.blocks

theorem State.beginStop_kept (why : EndReason) (n : Conn) (s : State) :
    SameBut [.line, .sequencer, .sessions, .alloc] s (s.beginStop why n) ∧
    ((s.sess n).state ≠ .charging → SameBut [.line, .sequencer, .sessions] s (s.beginStop why n)) ∧
    ((s.sess n).state = .charging → PassTaken (s.beginStop why n)) := by
  have stopped := s.stoppedAt_kept why n
  rcases s.beginStop_cases why n with ⟨hc, e⟩ | ⟨hc, e⟩
  · rw [e]
    exact ⟨(stopped.mono (by simp)).trans ((State.pass_kept _).mono (by simp)), fun h => absurd hc h,
      fun _ => State.pass_passTaken _⟩
  · rw [e]
    exact ⟨stopped.mono (by simp), fun _ => stopped, fun h => absurd h hc⟩

theorem State.beginStop_waiting (why : EndReason) (n : Conn) (s : State) :
    (s.beginStop why n).sessions.waiting = s.sessions.waiting := by
  have stopped : (s.stoppedAt why n).sessions.waiting = s.sessions.waiting := by
    unfold State.stoppedAt
    simp
  rcases s.beginStop_cases why n with ⟨-, e⟩ | ⟨-, e⟩
  · rw [e, State.pass_sessions, stopped]
  · rw [e, stopped]

theorem State.beginStop_contactor (why : EndReason) (n : Conn) (s : State) (h : (s.sess n).state ≠ .empty) :
    ((s.beginStop why n).seq n).contactor = s.contactorAfterOpen n := by
  rw [State.beginStop_seq why n s h, State.openCaused_contactor]

/-- A contactor counts as reopened after an open cause exactly when it did before. -/
theorem State.contactorAfterOpen_reopened (s : State) (n : Conn) :
    (s.contactorAfterOpen n).reopened ↔ (s.seq n).contactor.reopened := by
  unfold State.contactorAfterOpen ContactorState.reopened
  cases (s.seq n).contactor with
  | closing => cases s.closeWaits n <;> simp
  | _ => simp

/-- The stop causes that act on every open session (R89). -/
def EndReason.stopsOpen (why : EndReason) : Prop := why.stopsAuthorized = true ∧ why.stopsRunning = true

theorem EndReason.stops_of_open {why : EndReason} {k : SessionKind} (h : why.stopsOpen) (hk : k.open_) :
    why.stops k = true := by
  rcases hk with rfl | rfl | rfl
  · exact h.1
  · exact h.2
  · exact h.2

theorem SessionKind.open_.not_empty {k : SessionKind} (h : k.open_) : k ≠ .empty := by
  rcases h with rfl | rfl | rfl <;> decide

/-- A moment of stop: time passes to it, and the session takes the stop cause. -/
theorem State.stopCause_advanced {why : EndReason} {n : Conn} {s : State} {m : Nat} (hm : m ≤ Config.lastMs)
    (h : why.stops (s.sess n).state = true) :
    let t := (s.advanceTo m).stopCause why n
    SameBut [.line, .sequencer, .sessions, .clock, .alloc] s t ∧
    ((s.sess n).state ≠ .charging → SameBut [.line, .sequencer, .sessions, .clock] s t) ∧
    ClockAt m s.clock t.clock ∧ StopTaken why n (s.secAt m) s t ∧ (t.seq n).contactor = s.contactorAfterOpen n ∧
    ∀ x, x ≠ n → t.sess x = s.sess x ∧ t.seq x = s.seq x := by
  have passed := SameBut.advanceTo m s
  have sessions : (s.advanceTo m).sessions = s.sessions := State.advanceTo_sessions m s
  have sess (x : Conn) : (s.advanceTo m).sess x = s.sess x := State.sess_congr sessions x
  have seq (x : Conn) : (s.advanceTo m).seq x = s.seq x := by
    rw [State.seq, State.advanceTo_sequencer, State.seq]
  have waits : (s.advanceTo m).closeWaits n = s.closeWaits n :=
    State.closeWaits_congr (by rw [State.ped, State.advanceTo_line, State.ped])
  have taken := State.stopCause_taken why n (s.advanceTo m)
  rw [State.advanceTo_sec s hm] at taken
  have stops : why.stops ((s.advanceTo m).sess n).state = true := by rwa [sess]
  have keeps := Keeps.stopCause (M := atConn n) why (s.advanceTo m) (touches_atConn n)
  dsimp only
  rw [State.stopCause_stops stops] at taken keeps ⊢
  obtain ⟨kept, keptAlloc, -⟩ := State.beginStop_kept why n (s.advanceTo m)
  rw [sess] at keptAlloc
  refine ⟨(passed.mono (by simp)).trans (kept.mono (by simp)),
    fun hc => (passed.mono (by simp)).trans ((keptAlloc hc).mono (by simp)), ?_,
    taken.congr (sess n).symm (by rw [sessions]) rfl rfl, ?_, fun x hx => ⟨?_, ?_⟩⟩
  · rw [State.beginStop_clock]
    exact s.advanceTo_clockAt hm
  · rw [State.beginStop_contactor why n _ (EndReason.stops_not_empty stops), State.contactorAfterOpen, seq, waits]
    rfl
  · rw [keeps.sess_of_ne hx, sess]
  · rw [keeps.seq_of_ne hx, seq]

/-! ### A reply's session step at an unplug (R85) -/

theorem State.replySession_stopped {n : Conn} {r : ConnReport} {s : State} (hp : r.plugged = false)
    (hs : (s.sess n).plugSeen = true) (hw : (s.sess n).state.watching = true) :
    s.replySession n r = (s.stopCause .unplugged n).replyEnd n := by
  have plug : s.replyPlug n r = s.stopCause .unplugged n := by
    simp [State.replyPlug, hp, hs, hw]
  have taken := State.stopCause_taken .unplugged n s
  have state : ((s.stopCause .unplugged n).sess n).state = .stopping ∨
      ((s.stopCause .unplugged n).sess n).state = .empty := by
    unfold StopTaken at taken
    cases hk : (s.sess n).state with
    | empty | closed | stopping => rw [hk] at hw; cases hw
    | awaitingAuth =>
      rw [hk] at taken
      exact .inr (by rw [taken.1]; rfl)
    | authorized | charging | complete =>
      rw [hk] at taken
      exact .inl (congrArg Session.state taken)
  rw [State.replySession_eq, plug, State.replyComplete_of]
  · rcases state with h | h <;> rw [h] <;> decide
  · rcases state with h | h <;> rw [h] <;> decide

theorem State.withSess_self (s : State) (n : Conn) : s.withSess n (s.sess n) = s := by
  have same : tset s.sessions.entries n (s.sess n) = s.sessions.entries := tset_tget_self s.sessions.entries n
  rw [State.withSess, same]

theorem State.withSess_sess (s : State) (n : Conn) (e : Session) : (s.withSess n e).sess n = e := tget_tset_same _ _ _

/-- A reply's session step without an unplug, for a session that waits. -/
theorem State.replySession_plug {n : Conn} {r : ConnReport} {s : State} (h : r.plugged = true ∨ (s.sess n).plugSeen =
    false)
    (hk : (s.sess n).state = .awaitingAuth ∨ (s.sess n).state = .authorized) :
    s.replySession n r = s.withSess n { s.sess n with plugSeen := (s.sess n).plugSeen || r.plugged } := by
  have watching : (s.sess n).state.watching = true := by rcases hk with hk | hk <;> rw [hk] <;> rfl
  have plug : s.replyPlug n r = s.withSess n { s.sess n with plugSeen := (s.sess n).plugSeen || r.plugged } := by
    unfold State.replyPlug
    cases hp : r.plugged with
    | true =>
      rw [watching, if_pos (by rfl), Bool.or_true]
      rfl
    | false =>
      have seen : (s.sess n).plugSeen = false := h.resolve_left (by rw [hp]; decide)
      rw [watching, seen, if_neg (by decide), if_neg (by decide)]
      refine (s.withSess_self n).symm.trans (congrArg (s.withSess n) ?_)
      rw [Bool.false_or, ← seen]
  have state : ((s.withSess n { s.sess n with plugSeen := (s.sess n).plugSeen || r.plugged }).sess n).state =
      (s.sess n).state := by rw [State.withSess_sess]
  rw [State.replySession_eq, plug, State.replyComplete_of, State.replyEnd_of_not_stopping]
  all_goals rw [state]; rcases hk with hk | hk <;> rw [hk] <;> decide

theorem State.replySession_none {n : Conn} {r : ConnReport} {s : State}
    (hk : (s.sess n).state = .empty ∨ (s.sess n).state = .closed) : s.replySession n r = s := by
  rw [State.replySession_eq, State.replyPlug_of_not_watching, State.replyComplete_of, State.replyEnd_of_not_stopping]
  all_goals rcases hk with hk | hk <;> rw [hk] <;> decide

/-- Settles O38. -/
theorem stopRequestsAndDeadlinesStopTheSession : Obligations.StopRequestsAndDeadlinesStopTheSession := by
  have remoteStop : EndReason.remoteStop.stopsOpen := ⟨rfl, rfl⟩
  have maxTime : EndReason.maxTime.stopsOpen := ⟨rfl, rfl⟩
  have unplugged : EndReason.unplugged.stopsOpen := ⟨rfl, rfl⟩
  refine ⟨fun s n tag hr => ⟨fun b hb => exec_refused .badIndex rfl (by simp) hr (connOperand_out _ _ hb), fun hk => ?_,
    fun hk => ?_, fun hk => ?_, fun hk => ?_⟩, fun s n => ⟨fun d hk hd hlast => ?_, fun b hk hb => ?_, fun hk => ?_,
      fun hk => ?_⟩,
    fun s n r => ?_⟩
  · refine exec_refused .wrongState rfl (by simp) hr ((connOperand_index s.taken n ownRemoteStop).trans ?_)
    have state : (s.taken.sess n).state = .empty ∨ (s.taken.sess n).state = .closed := hk
    unfold ownRemoteStop
    rcases state with h | h <;> rw [h]
  · refine exec_answered (.bare .ok) rfl (by simp) hr ((connOperand_index s.taken n ownRemoteStop).trans ?_)
    have state : (s.taken.sess n).state = .stopping := hk
    unfold ownRemoteStop
    rw [state, State.stopCause_none (by rw [state]; rfl) fun x => by rw [state] at x; cases x.1]
  · have state : (s.taken.sess n).state = .awaitingAuth := hk
    have owner : ownerOf (.remoteStop tag [byte n.val]) s.taken = (s.taken.withdraw n, .bare .ok) := by
      refine (connOperand_index s.taken n ownRemoteStop).trans ?_
      unfold ownRemoteStop
      rw [state, State.stopCause_ends ⟨state, rfl⟩]
    have taken := State.stopCause_taken .remoteStop n s.taken
    rw [State.stopCause_ends ⟨state, rfl⟩] at taken
    refine ⟨_, exec_owner rfl (by simp) hr owner, ((State.withdraw_kept n s.taken).respond _ tag _).mono (by simp),
      State.respond_uplink (State.withdraw_uplink n s.taken) _ tag _, taken.congr rfl rfl rfl rfl, fun h hh => ?_,
      fun m hm => ⟨?_, ?_⟩⟩
    · exact State.withdraw_decision (s := s.taken) hh
    · exact (State.withdraw_sess n m s.taken).trans (if_neg hm)
    · exact State.withdraw_decision_of_ne s.taken hm
  · have stops : EndReason.remoteStop.stops (s.taken.sess n).state = true := EndReason.stops_of_open remoteStop hk
    have owner : ownerOf (.remoteStop tag [byte n.val]) s.taken = (s.taken.beginStop .remoteStop n, .bare .ok) := by
      refine (connOperand_index s.taken n ownRemoteStop).trans ?_
      unfold ownRemoteStop
      rw [State.stopCause_stops stops]
      have state : (s.taken.sess n).state.open_ := hk
      rcases state with h | h | h <;> rw [h]
    have keeps := Keeps.stopCause (M := atConn n) .remoteStop s.taken (touches_atConn n)
    have taken := State.stopCause_taken .remoteStop n s.taken
    rw [State.stopCause_stops stops] at taken keeps
    obtain ⟨kept, -, pass⟩ := State.beginStop_kept .remoteStop n s.taken
    refine ⟨_, exec_owner rfl (by simp) hr owner, (kept.respond _ tag _).mono (by simp),
      State.respond_uplink (State.beginStop_uplink _ n s.taken) _ tag _, taken.congr rfl rfl rfl rfl, ?_, fun live =>
        ?_,
      fun hc => (pass hc).congr rfl rfl rfl rfl, fun m hm => ⟨?_, ?_, ?_⟩, fun q hq => ?_⟩
    · exact State.beginStop_contactor .remoteStop n s.taken hk.not_empty
    · exact State.beginStop_openSet .remoteStop n s.taken hk.not_empty live
    · exact keeps.sess_of_ne hm
    · exact keeps.seq_of_ne hm
    · exact keeps.openSet_of_ne hm
    · exact keeps.ped_of_ne hq
  · have run : exec (.readyDeadline n) s = .next ((s.advanceTo (d * 1000)).stopCause .notReady n) := by
      show execReadyDeadline n s = _
      simp only [execReadyDeadline, hk, hd]
      rfl
    obtain ⟨-, kept, rest⟩ := State.stopCause_advanced (why := .notReady) (n := n) hlast (by rw [hk]; rfl)
    exact ⟨_, run, kept (by rw [hk]; decide), rest⟩
  · intro limit moment hlast
    have at_ : s.maxMoment n = some (s.sessions.maxSecond b) := by
      unfold State.maxMoment
      rcases hk with h | h | h <;> rw [h, hb] <;> rfl
    have run : exec (.maxDuration n) s = .next ((s.advanceTo moment).stopCause .maxTime n) := by
      show execMaxDuration n s = _
      simp only [execMaxDuration, at_]
      rfl
    obtain ⟨kept, -, rest⟩ := State.stopCause_advanced (n := n) hlast (EndReason.stops_of_open maxTime hk)
    exact ⟨_, run, kept, rest⟩
  · show execReadyDeadline n s = _
    unfold execReadyDeadline
    split
    · next h _ => exact absurd h hk
    · rfl
  · show execMaxDuration n s = _
    have none_ : s.maxMoment n = none := by
      unfold State.maxMoment
      cases h : (s.sess n).state with
      | authorized => exact absurd (.inl h) hk
      | charging => exact absurd (.inr (.inl h)) hk
      | complete => exact absurd (.inr (.inr h)) hk
      | _ => rfl
    simp only [execMaxDuration, none_]
  · have keeps := Keeps.replySession (M := atConn n) r s (touches_atConn n)
    refine ⟨fun hp hs => ⟨fun hk => ?_, fun hk hc => ?_, fun hk hc => ?_⟩, State.replySession_plug,
      State.replySession_none,
      fun m hm => ⟨keeps.sess_of_ne hm, keeps.seq_of_ne hm⟩⟩
    · have ends : EndReason.unplugged.ends (s.sess n).state := ⟨hk, rfl⟩
      have taken := State.stopCause_taken .unplugged n s
      rw [State.stopCause_ends ends] at taken
      rw [State.replySession_stopped hp hs (by rw [hk]; rfl), State.stopCause_ends ends, State.replyEnd_of_not_stopping
        (by rw [State.withdraw_sess, if_pos rfl]; decide)]
      exact ⟨s.withdraw_kept n, taken⟩
    all_goals
      have stops := EndReason.stops_of_open unplugged hk
      have watching : (s.sess n).state.watching = true := by rcases hk with h | h | h <;> rw [h] <;> rfl
      have reply := State.replySession_stopped hp hs watching
      have after := State.beginStop_contactor .unplugged n s hk.not_empty
      have taken := State.stopCause_taken .unplugged n s
      obtain ⟨kept, -, -⟩ := State.beginStop_kept .unplugged n s
      rw [State.stopCause_stops stops] at reply taken
    · rw [reply, State.replyEnd_not_reopened (by rwa [after, State.contactorAfterOpen_reopened])]
      exact ⟨kept, taken, after, State.beginStop_openSet .unplugged n s hk.not_empty⟩
    · have sess := State.beginStop_sess .unplugged n s
      have state : ((s.beginStop .unplugged n).sess n).state = .stopping := by rw [sess]; rfl
      have open_ : ((s.beginStop .unplugged n).sess n).state ≠ .empty := by rw [state]; decide
      have closed := State.closeSession_closed n _ open_
      have sec : (s.beginStop .unplugged n).sec = s.sec := by rw [State.sec, State.beginStop_clock, State.sec]
      rw [sess, sec] at closed
      rw [reply, State.replyEnd_reopened state (by rwa [after, State.contactorAfterOpen_reopened])]
      refine ⟨(kept.mono (by simp)).trans ((State.closeSession_kept n _ open_ (by rw [state]; decide)).mono (by simp)),
        _,
        closed.congr (State.beginStop_tariff ..).symm (State.beginStop_settlement ..).symm
          (State.beginStop_uplink ..).symm
          (State.beginStop_waiting ..).symm rfl rfl rfl rfl rfl⟩

end Sys2Proof.Machine
end

section
/-! SUPPORT and PROOF. The requests and moments that bring a pass (R142 to R146, R156), the settlement requests (R165 to
R167), the moments that pass time alone (R108), and the transmitter (R174). -/

namespace Sys2Proof.Machine

/-! ### A request answered by its owner -/

/-- A request whose owner leaves the uplink alone leaves its owner's state with the answered uplink. -/
theorem exec_owner_answered {c : Instr} {place : Nat} {tag : Byte} {payload : Frame} {s u : State} {r : Reply}
    (h : requestOf c = some (place, tag, payload)) (hp : payload.length ≤ 250) (hr : s.hasRoom)
    (ho : ownerOf c s.taken = (u, r)) (same : u.uplink = s.taken.uplink) :
    exec c s = .next { u with uplink := s.answered (byte (place + 128)) tag r.code r.payload } := by
  rw [exec_owner h hp hr ho, ← State.respond_uplink same _ tag r]
  rfl

/-- What a request leaves is what its owner leaves with the response added to the uplink. -/
theorem exec_owned {c : Instr} {place : Nat} {tag : Byte} {payload : Frame} {s u : State} {r : Reply}
    (h : requestOf c = some (place, tag, payload)) (hp : payload.length ≤ 250) (hr : s.hasRoom)
    (ho : ownerOf c s.taken = (u, r)) (same : u.uplink = s.taken.uplink) :
    ∃ t, exec c s = .next t ∧ t.uplink = s.answered (byte (place + 128)) tag r.code r.payload ∧
      SameBut [.uplink] u t := by
  refine ⟨_, exec_owner h hp hr ho, State.respond_uplink same _ tag r, fun b hb => ?_⟩
  cases b with
  | uplink => simp at hb
  | _ => rfl

theorem SameBut.line {s t : State} (h : SameBut [.uplink] s t) : t.line = s.line := h .line (by simp)
theorem SameBut.alloc {s t : State} (h : SameBut [.uplink] s t) : t.alloc = s.alloc := h .alloc (by simp)
theorem SameBut.sequencer {s t : State} (h : SameBut [.uplink] s t) : t.sequencer = s.sequencer :=
  h .sequencer (by simp)
theorem SameBut.auth {s t : State} (h : SameBut [.uplink] s t) : t.auth = s.auth := h .auth (by simp)
theorem SameBut.sessions {s t : State} (h : SameBut [.uplink] s t) : t.sessions = s.sessions := h .sessions (by simp)
theorem SameBut.settlement {s t : State} (h : SameBut [.uplink] s t) : t.settlement = s.settlement :=
  h .settlement (by simp)

theorem PassTaken.answered {s t : State} (h : PassTaken s) (same : SameBut [.uplink] s t) : PassTaken t :=
  h.congr same.line same.alloc same.sessions same.sequencer

theorem SameBut.answered {l : List Block} {s u t : State} (h : SameBut l s.taken u) (same : SameBut [.uplink] u t) :
    SameBut (.uplink :: l) s t := by
  intro b hb
  obtain ⟨hu, hl⟩ := not_or.1 (mt List.mem_cons.2 hb)
  have kept := h b hl
  have rest := same b (by simpa using hu)
  cases b with
  | uplink => exact absurd rfl hu
  | _ => exact rest.trans kept

/-! ### What a pass keeps of the allocator's own values -/

theorem State.pass_alloc (s : State) : s.pass.alloc.baseLimit = s.alloc.baseLimit ∧
    s.pass.alloc.curtailment = s.alloc.curtailment := by
  rw [s.pass_stage.alloc]
  exact ⟨rfl, rfl⟩

/-- A record with an increase on the line keeps it through a pass. -/
theorem State.pass_increaseSent {s : State} {n : Conn} (h : (s.setpoint n).state = .increaseSent) :
    (s.pass.setpoint n).state = .increaseSent := by
  by_cases away : s.linkOf n = .unreachable
  · rw [(s.pass_stage.away n away).1, h]
  · rw [(s.pass_records n away).1]
    exact (s.passRecord n).placed_kept.2.2.2.2 h

/-! ### SET_SITE_LIMIT, CURTAIL and their ends (R142 to R144) -/

/-- The state with another base limit. -/
def State.withBase (limit : Nat) (s : State) : State := { s with alloc := { s.alloc with baseLimit := limit } }

/-- The state with another curtailment. -/
def State.curtailed (c : Option Curtailment) (s : State) : State :=
    { s with alloc := { s.alloc with curtailment := c } }

theorem State.alloc_kept (s : State) (limit : Nat) (c : Option Curtailment) :
    SameBut [.line, .alloc] s (s.withBase limit).pass ∧ SameBut [.line, .alloc] s (s.curtailed c).pass := by
  have base : SameBut [.line, .alloc] s (s.withBase limit) := by
    intro b hb
    cases b with
    | line | alloc => simp at hb
    | _ => rfl
  have curtail : SameBut [.line, .alloc] s (s.curtailed c) := by
    intro b hb
    cases b with
    | line | alloc => simp at hb
    | _ => rfl
  exact ⟨base.trans (State.pass_kept _), curtail.trans (State.pass_kept _)⟩

theorem ownSetSiteLimit_eq (l1 l0 : Byte) (s : State) :
    let asked := 256 * l1.toNat + l0.toNat
    ownSetSiteLimit [l1, l0] s =
      (if min asked 4000 = s.alloc.baseLimit then s else (s.withBase (min asked 4000)).pass,
        Reply.bare (if asked ≤ 4000 then .ok else .clamped)) := by
  simp only [ownSetSiteLimit, num_pair]
  refine congrArg₂ Prod.mk ?_ (forced_code (by rw [decide_eq_true_iff]; exact not_le.symm))
  split
  · next h => rw [h]
  · rfl

theorem ownCurtail_eq (l1 l0 h1 h0 : Byte) (s : State) :
    let askedLimit := 256 * l1.toNat + l0.toNat
    let askedHold := 256 * h1.toNat + h0.toNat
    let limit := min askedLimit s.alloc.baseLimit
    let hold := max 5 (min 3600 askedHold)
    ownCurtail [l1, l0, h1, h0] s =
      (s.setCurtailment limit hold, Reply.bare (if limit = askedLimit ∧ hold = askedHold then .ok else .clamped)) := by
  simp only [ownCurtail, num_pair, clamp_eq_max_min 5 3600 _ (by decide)]
  refine congrArg (Prod.mk _) (forced_code ?_)
  simp only [Bool.or_eq_true, bne_iff_ne]
  tauto

theorem State.setCurtailment_eq (limit hold : Nat) (s : State) : s.setCurtailment limit hold =
    if s.alloc.curtailment.map (·.limit) = some limit then s.curtailed (some ⟨limit, s.sec + hold⟩)
    else (s.curtailed (some ⟨limit, s.sec + hold⟩)).pass := rfl

/-- Settles O47. -/
theorem limitsAndHoldsBringAPass : Obligations.LimitsAndHoldsBringAPass := by
  refine ⟨fun s tag => ⟨fun l1 l0 hr => ⟨fun same => ?_, fun other => ?_⟩,
    fun l1 l0 h1 h0 hr => ⟨fun same => ?_, fun other => ?_⟩,
    fun c hc hlast => ?_, fun hc => ?_⟩, fun s n e he hlast => ?_⟩
  · refine exec_answered (.bare _) rfl (by simp) hr ((ownSetSiteLimit_eq l1 l0 s.taken).trans ?_)
    exact congrArg (fun x => (x, _)) (if_pos same)
  · have owner : ownerOf (.setSiteLimit tag [l1, l0]) s.taken =
        ((s.taken.withBase (min (256 * l1.toNat + l0.toNat) 4000)).pass, _) :=
      (ownSetSiteLimit_eq l1 l0 s.taken).trans (congrArg (fun x => (x, _)) (if_neg other))
    have left := State.pass_alloc (s.taken.withBase (min (256 * l1.toNat + l0.toNat) 4000))
    have kept := (s.taken.alloc_kept (min (256 * l1.toNat + l0.toNat) 4000) none).1
    have taken := State.pass_passTaken (s.taken.withBase (min (256 * l1.toNat + l0.toNat) 4000))
    have uplink := State.pass_uplink (s.taken.withBase (min (256 * l1.toNat + l0.toNat) 4000))
    generalize (s.taken.withBase (min (256 * l1.toNat + l0.toNat) 4000)).pass = u at owner left kept taken uplink
    obtain ⟨t, run, answer, same⟩ := exec_owned rfl (by simp) hr owner uplink
    refine ⟨t, run, (kept.answered same).mono (by simp), answer, ?_, ?_,
      taken.answered same⟩
    · exact (congrArg _ same.alloc).trans left.1
    · exact (congrArg _ same.alloc).trans left.2
  · have unchanged : s.taken.alloc.curtailment.map (·.limit) =
      some (min (256 * l1.toNat + l0.toNat) s.alloc.baseLimit) := by
      obtain ⟨c, hc, hl⟩ := same
      show s.alloc.curtailment.map (·.limit) = _
      rw [hc, ← hl]
      rfl
    have owner := (show ownerOf (.curtail tag [l1, l0, h1, h0]) s.taken = ownCurtail
      [l1, l0, h1, h0] s.taken from rfl).trans
      (ownCurtail_eq l1 l0 h1 h0 s.taken)
    rw [State.setCurtailment_eq] at owner
    exact exec_owner rfl (by simp) hr (owner.trans (congrArg (fun x => (x, _)) (if_pos unchanged)))
  · have changed : ¬ s.taken.alloc.curtailment.map (·.limit) =
      some (min (256 * l1.toNat + l0.toNat) s.alloc.baseLimit) := by
      intro e
      obtain ⟨c, hc, hl⟩ := Option.map_eq_some_iff.1 e
      exact other c hc hl
    have owner := (show ownerOf (.curtail tag [l1, l0, h1, h0]) s.taken = ownCurtail
      [l1, l0, h1, h0] s.taken from rfl).trans
      (ownCurtail_eq l1 l0 h1 h0 s.taken)
    rw [State.setCurtailment_eq] at owner
    have owner := owner.trans (congrArg (fun x => (x, _)) (if_neg changed))
    obtain ⟨c, hc⟩ : ∃ c, some (⟨min (256 * l1.toNat + l0.toNat) s.taken.alloc.baseLimit,
      s.taken.sec + max 5 (min 3600 (256 * h1.toNat + h0.toNat))⟩ : Curtailment) = c := ⟨_, rfl⟩
    rw [hc] at owner
    have left := State.pass_alloc (s.taken.curtailed c)
    have kept := (s.taken.alloc_kept 0 c).2
    have taken := State.pass_passTaken (s.taken.curtailed c)
    have uplink := State.pass_uplink (s.taken.curtailed c)
    generalize (s.taken.curtailed c).pass = u at owner left kept taken uplink
    obtain ⟨t, run, answer, same⟩ := exec_owned rfl (by simp) hr owner uplink
    refine ⟨t, run, (kept.answered same).mono (by simp), answer, ?_, ?_,
      taken.answered same⟩
    · exact (congrArg _ same.alloc).trans left.1
    · exact (congrArg _ same.alloc).trans (left.2.trans hc.symm)
  · have run : exec .curtailExpiry s =
        .next ((((s.advanceTo (c.deadline * 1000)).curtailed none).raise .curtailExpired).pass) := by
      show execCurtailExpiry s = _
      simp only [execCurtailExpiry, hc]
      rfl
    obtain ⟨base, curtailment⟩ := (((s.advanceTo (c.deadline * 1000)).curtailed none).raise .curtailExpired).pass_alloc
    have raised : SameBut [.alloc, .uplink] (s.advanceTo (c.deadline * 1000))
        (((s.advanceTo (c.deadline * 1000)).curtailed none).raise .curtailExpired) := by
      intro b hb
      rw [State.raise_eq]
      cases b with
      | alloc | uplink => simp at hb
      | _ => rfl
    have alloc : (((s.advanceTo (c.deadline * 1000)).curtailed none).raise .curtailExpired).alloc =
        { s.alloc with curtailment := none } := by
      rw [State.raise_alloc, State.curtailed, State.advanceTo_alloc]
    refine ⟨_, run, ?_, ?_, ?_, ?_, ?_, ?_, State.pass_passTaken _⟩
    · exact ((SameBut.advanceTo _ s).mono (by simp)).trans
        ((raised.mono (by simp)).trans ((State.pass_kept _).mono (by simp)))
    · rw [State.pass_clock, State.raise_clock]
      exact s.advanceTo_clockAt hlast
    · rw [State.pass_uplink, State.raise_uplink, State.curtailed, State.advanceTo_uplink]
    · rw [curtailment, alloc]
    · rw [base, alloc]
    · rw [(State.pass_stage _).effLimit, State.effLimit, alloc]
  · show execCurtailExpiry s = _
    simp only [execCurtailExpiry, hc]
  · have run : exec (.holdExpiry n) s = .next ((s.advanceTo (e * 1000)).fallBack n) := by
      show execHoldExpiry n s = _
      simp only [execHoldExpiry, he]
      rfl
    have setpoint (m : Conn) : (s.advanceTo (e * 1000)).setpoint m = s.setpoint m := by
      rw [State.setpoint, State.advanceTo_alloc, State.setpoint]
    have failsafe : (s.advanceTo (e * 1000)).failsafe n = s.failsafe n := by
      simp only [State.failsafe, State.config, State.advanceTo_alloc]
    obtain ⟨u, hu⟩ : ∃ u, (s.advanceTo (e * 1000)).updSetpoint n (fun r =>
      { r with
        grant := (s.advanceTo (e * 1000)).failsafe n
        holdExpiry := none
        state := if r.state = .increaseSent then .increaseSent else .fallback }) = u := ⟨_, rfl⟩
    have own : u.setpoint n = { s.setpoint n with
        grant := s.failsafe n
        holdExpiry := none
        state := if (s.setpoint n).state = .increaseSent then .increaseSent else .fallback } := by
      rw [← hu, State.updSetpoint_setpoint_same, setpoint, failsafe]
    have other (m : Conn) (hm : m ≠ n) : u.setpoint m = s.setpoint m := by
      rw [← hu, State.updSetpoint_setpoint_of_ne _ _ _ _ hm, setpoint]
    have fallen : (s.advanceTo (e * 1000)).fallBack n = u.pass := by rw [← hu]; rfl
    have kept : SameBut [.line, .alloc] (s.advanceTo (e * 1000)) u := by
      intro b hb
      rw [← hu]
      cases b with
      | line | alloc => simp at hb
      | _ => rfl
    have line : u.line = s.line := by rw [← hu, State.updSetpoint_line, State.advanceTo_line]
    have clock : u.clock = (s.advanceTo (e * 1000)).clock := by rw [← hu]; rfl
    rw [fallen] at run
    obtain ⟨grant, hold, flight⟩ := u.pass_stage.grant n
    refine ⟨_, run, ?_, ?_, State.pass_passTaken u, ?_, ?_, ?_, ?_, fun sent => ?_, fun away sent => ?_, fun m hm => ?_⟩
    · exact ((SameBut.advanceTo _ s).mono (by simp)).trans
        ((kept.mono (by simp)).trans ((State.pass_kept u).mono (by simp)))
    · rw [State.pass_clock, clock]
      exact s.advanceTo_clockAt hlast
    · rw [u.pass_stage.peds, line]
    · rw [grant, own]
    · rw [hold, own]
    · rw [flight, own]
    · refine State.pass_increaseSent ?_
      rw [own]
      exact if_pos sent
    · have link : u.linkOf n = .unreachable := by
        rw [State.linkOf, State.ped, line]
        exact away
      rw [(u.pass_stage.away n link).1, own]
      exact if_neg sent
    · obtain ⟨grant, hold, -⟩ := u.pass_stage.grant m
      rw [grant, hold, other m hm]
      exact ⟨rfl, rfl⟩

/-! ### The settlement requests (R165 to R167) -/

/-- Settles O48. -/
theorem settlementsAreReadThenDiscarded : Obligations.SettlementsAreReadThenDiscarded := by
  refine ⟨fun s tag hr => ⟨fun h => ?_, fun r rest h => ⟨?_, fun fit => ?_⟩⟩, fun s tag hr sound => ⟨fun h => ?_,
    fun r rest h hm => ?_, fun r rest h hm hw => ?_, fun r rest n more h hm hw => ?_⟩⟩
  · refine exec_answered ⟨.empty, [0, 0]⟩ rfl (by simp) hr ?_
    show ownReadSettlement s.taken = _
    have none_ : s.taken.settlement.records = [] := h
    rw [ownReadSettlement, none_]
  · have owner : ownerOf (.readSettlement tag []) s.taken =
        ({ s.taken with settlement := { s.settlement with readMark := true } },
          Reply.ok ([byte (rest.length + 1), byte s.sessions.waiting.length] ++ recordBytes r.sequence r.body)) := by
      show ownReadSettlement s.taken = _
      have head : s.taken.settlement.records = r :: rest := h
      have settlement : s.taken.settlement = s.settlement := rfl
      have sessions : s.taken.sessions = s.sessions := rfl
      simp only [ownReadSettlement, settlement, sessions, h, List.length_cons, List.cons_append, List.nil_append]
    exact exec_owner_answered rfl (by simp) hr owner rfl
  · exact recordBytes_length _ fun t ht => fit.2.2.2.2 r (by rw [h]; simp) t ht
  · refine exec_answered ⟨.empty, [0]⟩ rfl (by simp) hr ?_
    show ownDiscardSettlement s.taken = _
    have none_ : s.taken.settlement.records = [] := h
    rw [ownDiscardSettlement, none_]
  all_goals have head : s.taken.settlement.records = r :: rest := h
  · refine exec_answered ⟨.notRead, be 4 r.sequence ++ [byte (rest.length + 1)]⟩ rfl (by simp) hr ?_
    show ownDiscardSettlement s.taken = _
    rw [ownDiscardSettlement, head]
    exact if_neg (by rw [show s.taken.settlement.readMark = false from hm]; decide)
  all_goals have mark : s.taken.settlement.readMark = true := hm
  · have discarded : s.taken.discardHead = (s.taken.dropHead, 0) := by
      rw [State.discardHead, show s.taken.sessions.waiting = [] from hw]
    have owner : ownerOf (.discardSettlement tag []) s.taken =
        (s.taken.dropHead,
        Reply.ok (be 4 r.sequence ++ [byte s.taken.dropHead.settlement.records.length] ++ be 4 0)) := by
      show ownDiscardSettlement s.taken = _
      rw [ownDiscardSettlement, head]
      refine (if_pos mark).trans ?_
      rw [discarded]
    refine (exec_owner rfl (by simp) hr owner).trans ?_
    have left : s.taken.dropHead.settlement = ⟨rest, s.settlement.nextSequence, false⟩ := by
      rw [State.dropHead, head]
      rfl
    rw [left, State.dropHead, head]
    rfl
  · obtain ⟨w, hwr⟩ : ∃ w, (s.sess n).record = some w := by
      refine Option.isSome_iff_exists.1 (sound.2.2.1 n ((sound.2.1 n).1 ?_)).1
      rw [hw]
      simp
    have full : s.settlement.records.length = 96 := sound.2.2.2 (by rw [hw]; simp)
    have short : rest.length = 95 := by
      rw [h] at full
      simpa using full
    have discarded : s.taken.discardHead = (s.taken.dropHead.transfer n more w, s.settlement.nextSequence) := by
      have record : s.taken.waitingRecord n = some w := hwr
      rw [State.discardHead, show s.taken.sessions.waiting = n :: more from hw]
      dsimp only
      rw [record]
      rfl
    have dropped : s.taken.dropHead.settlement = ⟨rest, s.settlement.nextSequence, false⟩ := by
      rw [State.dropHead, head]
      rfl
    have appended : (s.taken.dropHead.transfer n more w).settlement = (s.taken.dropHead.appendRecord w).settlement ∧
        (s.taken.dropHead.transfer n more w).uplink = (s.taken.dropHead.appendRecord w).uplink := by
      simp [State.transfer]
    have settlement := State.appendRecord_settlement w s.taken.dropHead
    rw [dropped, ← appended.1] at settlement
    have uplink := State.appendRecord_uplink w s.taken.dropHead
    rw [dropped, ← appended.2, if_neg (by simp [short]), if_pos (by simpa using short)] at uplink
    have count : (s.taken.dropHead.transfer n more w).settlement.records.length = 96 := by
      rw [settlement]
      simp [short]
    have owner : ownerOf (.discardSettlement tag []) s.taken = (s.taken.dropHead.transfer n more w,
        Reply.ok (be 4 r.sequence ++ [96] ++ be 4 s.settlement.nextSequence)) := by
      show ownDiscardSettlement s.taken = _
      rw [ownDiscardSettlement, head]
      refine (if_pos mark).trans ?_
      rw [discarded]
      dsimp only
      rw [count]
      rfl
    have kept : SameBut [.sessions, .settlement, .uplink] s.taken (s.taken.dropHead.transfer n more w) := by
      intro b hb
      unfold State.transfer
      rw [State.setSess_to_empty _ _ _ rfl]
      cases b with
      | sessions | settlement | uplink => simp at hb
      | line => exact State.appendRecord_line w _
      | classifier => exact State.appendRecord_classifier w _
      | sequencer => exact State.appendRecord_sequencer w _
      | auth => exact State.appendRecord_auth w _
      | tariff => exact State.appendRecord_tariff w _
      | clock => exact State.appendRecord_clock w _
      | metering => exact State.appendRecord_metering w _
      | alloc => exact State.appendRecord_alloc w _
      | pending => exact State.appendRecord_pending w _
    have sess (m : Conn) := State.transfer_sess n m more w s.taken.dropHead
    refine ⟨_, w, hwr, exec_owner rfl (by simp) hr owner, (kept.respond _ tag _).mono (by simp), ?_, ?_, fun m hm =>
      ?_, ?_, ?_, ?_,
      ?_, ?_⟩
    · exact (sess n).trans (if_pos rfl)
    · show (s.taken.dropHead.transfer n more w).sessions.waiting = more
      simp [State.transfer, State.setSess_to_empty, Session.initial, State.updSess]
    · exact (sess m).trans (if_neg hm)
    · exact congrArg SettlementState.records settlement
    · exact count
    · refine (congrArg SettlementState.readMark settlement).trans ?_
      simp
    · exact congrArg SettlementState.nextSequence settlement
    · show ({ (s.taken.dropHead.transfer n more w).uplink with responses := _ } : UplinkState) = _
      rw [uplink]
      rfl

/-! ### Moments that pass time alone (R108) -/

/-- Settles O49. -/
theorem timeMomentsChangeOnlyTheClock : Obligations.TimeMomentsChangeOnlyTheClock := by
  intro s
  have passes (m : Nat) (h : m ≤ Config.lastMs) : ClockAt m s.clock (s.advanceTo m).clock ∧
    SameBut [.clock] s (s.advanceTo m) ∧
      m ≤ (s.advanceTo m).clock.ms :=
    ⟨s.advanceTo_clockAt h, SameBut.advanceTo m s, by rw [s.advanceTo_ms m h]; exact Nat.le_max_right ..⟩
  have ped (m : Nat) (p : Ped) : (s.advanceTo m).ped p = s.ped p := by rw [State.ped, State.advanceTo_line, State.ped]
  refine ⟨fun hp hm => ?_, fun b hb hc hlast => ?_, fun p d hd hlast => ⟨?_, ?_⟩, fun n d hd hlast => ?_,
    fun n e he hlast => ?_,
    fun d hon hd hlast => ?_, fun hoff => ?_⟩
  · obtain ⟨clock, kept, -⟩ := passes (s.clock.ms + 1) hm
    refine ⟨_, ?_, clock, kept⟩
    rw [step, hp]
  · obtain ⟨clock, kept, reached⟩ := passes _ hlast
    have configured : (allPeds.any fun p => (s.ped p).configured) = true := by
      obtain ⟨p, hp⟩ := hc
      exact List.any_eq_true.2 ⟨p, List.mem_finRange p, hp⟩
    refine ⟨_, ?_, clock, kept, ?_⟩
    · show execRollCallDue s = _
      simp only [execRollCallDue, State.rollDueAt, configured, hb, Option.map_some, if_true]
    · simp only [State.rollCallDue, ped, configured, State.advanceTo_line, hb, Bool.true_and, decide_eq_true_eq]
      exact reached
  · obtain ⟨clock, kept, reached⟩ := passes d (by omega)
    refine ⟨_, ?_, clock, kept, fun link => ?_⟩
    · show execPollDue p s = _
      simp only [execPollDue, hd]
    · simp only [State.pollDue, ped, link, hd, Option.any_some, beq_self_eq_true, Bool.true_and, decide_eq_true_eq]
      exact reached
  · obtain ⟨clock, kept, reached⟩ := passes _ hlast
    refine ⟨_, ?_, clock, kept, fun link => ?_⟩
    · show execPollAged p s = _
      simp only [execPollAged, hd]
    · simp only [State.pollAged, ped, link, hd, Option.any_some, beq_self_eq_true, Bool.true_and, State.advanceTo_line,
        decide_eq_true_eq]
      exact reached
  · obtain ⟨clock, kept, -⟩ := passes d hlast
    refine ⟨_, ?_, clock, kept⟩
    show execSettleDeadline n s = _
    simp only [execSettleDeadline, hd]
  · have before : (e + 1 - s.alloc.renew) * 1000 ≤ (e + 1) * 1000 := Nat.mul_le_mul_right _ (Nat.sub_le ..)
    obtain ⟨clock, kept, reached⟩ := passes ((e + 1 - s.alloc.renew) * 1000) (before.trans hlast)
    refine ⟨_, ?_, clock, kept, fun steady => ?_⟩
    · show execRenewalDue n s = _
      simp only [execRenewalDue, he]
      rfl
    · have record : (s.advanceTo ((e + 1 - s.alloc.renew) * 1000)).setpoint n = s.setpoint n := by
        rw [State.setpoint, State.advanceTo_alloc, State.setpoint]
      have second : e + 1 - s.alloc.renew ≤ (s.advanceTo ((e + 1 - s.alloc.renew) * 1000)).sec :=
        (Nat.le_div_iff_mul_le (by decide)).2 reached
      simp only [State.renewalReady, record, steady, he, State.advanceTo_alloc, beq_self_eq_true, Bool.true_or,
        Bool.true_and, decide_eq_true_eq]
      omega
  · obtain ⟨clock, kept, -⟩ := passes _ hlast
    refine ⟨({ s.advanceTo (d * 1000) with uplink :=
      { s.uplink with link := .offline, silenceDeadline := none } } : State), ?_, fun b hb => ?_, clock, rfl⟩
    · show execSilenceDeadline s = _
      simp only [execSilenceDeadline, hon, hd, State.advanceToSec, State.updUplink, State.advanceTo_uplink]
    · have same := kept b (by simp at hb ⊢; exact hb.1)
      cases b with
      | clock | uplink => simp at hb
      | _ => exact same
  · show execSilenceDeadline s = _
    unfold execSilenceDeadline
    split
    · next h _ => rw [hoff] at h; cases h
    · rfl

end Sys2Proof.Machine
end

section
/-! SUPPORT and PROOF. The uplink transmitter (R174) and the line arbiter (R8, R14 to R19, R152). -/

namespace Sys2Proof.Machine

/-! ### The uplink transmitter (R174) -/

theorem State.nextOutbound_of {s : State} {o : Option Outbound} (free : s.uplink.sending = none) (h : s.outbound = o) :
    s.nextOutbound = o := by
  rw [State.nextOutbound, free]
  exact (if_pos rfl).trans h

/-- The transmitter leaves the queries and the pass-up queue alone while the link is OFFLINE or a frame is sent. -/
theorem State.nextOutbound_held {s : State} (h : s.uplink.link = .offline ∨ s.uplink.sending ≠ none) :
    (∀ q, s.nextOutbound ≠ some (.query q)) ∧ ∀ e, s.nextOutbound ≠ some (.passUp e) := by
  rcases h with offline | busy
  · unfold State.nextOutbound State.outbound
    rw [offline]
    cases s.uplink.sending <;> cases s.uplink.noticePending <;> cases s.uplink.responses <;> simp
  · obtain ⟨f, hf⟩ := Option.ne_none_iff_exists'.1 busy
    unfold State.nextOutbound
    rw [hf]
    simp

theorem State.unsentQuery_oldest {s : State} {before after : List HeldEntry} {h : HeldEntry}
    (held : s.auth.held = before ++ h :: after) (sent : ∀ x ∈ before, x.sent = true) (unsent : h.sent = false) :
    s.unsentQuery = some h := by
  have skipped : before.find? (fun x => !x.sent) = none := List.find?_eq_none.2 fun x hx => by simp [sent x hx]
  rw [State.unsentQuery, held, List.find?_append, skipped]
  simp [unsent]

theorem State.unsentQuery_none {s : State} (sent : ∀ x ∈ s.auth.held, x.sent = true) : s.unsentQuery = none :=
  List.find?_eq_none.2 fun x hx => by simp [sent x hx]

/-- Settles O51. -/
theorem transmitterSendsInOrder : Obligations.TransmitterSendsInOrder := by
  intro s
  have starts (x : Instr) (hx : x = .noticeAttention ∨ x = .responseStart ∨ x = .authQuery ∨ x = .passUp) :
      exec x s = match s.nextOutbound, x with
        | some .notice, .noticeAttention => execNoticeAttention s
        | some (.response _), .responseStart => execResponseStart s
        | some (.query _), .authQuery => execAuthQuery s
        | some (.passUp _), .passUp => execPassUp s
        | _, _ => .next s := by
    rcases hx with rfl | rfl | rfl | rfl
    · show execNoticeAttention s = _
      unfold execNoticeAttention
      rcases s.nextOutbound with - | - | - | - | - <;> rfl
    · show execResponseStart s = _
      unfold execResponseStart
      rcases s.nextOutbound with - | - | - | - | - <;> rfl
    · show execAuthQuery s = _
      unfold execAuthQuery
      rcases s.nextOutbound with - | - | - | - | - <;> rfl
    · show execPassUp s = _
      unfold execPassUp
      rcases s.nextOutbound with - | - | - | - | - <;> rfl
  refine ⟨fun free notice => ?_, fun r rest free notice hr => ?_,
    fun before h after free notice hr on held sent unsent => ?_,
    fun e rest free notice hr on sent hq => ?_, fun h => ?_, fun h => ?_, fun h hs => ?_, fun e hs => ?_, fun e hs =>
      ?_⟩
  · have next : s.nextOutbound = some .notice := State.nextOutbound_of free (if_pos notice)
    simp [starts, next, execNoticeAttention, State.startFrame, State.updUplink]
  · have next : s.nextOutbound = some (.response r) :=
      State.nextOutbound_of free (by rw [State.outbound, notice, hr]; rfl)
    simp [starts, next, execResponseStart, State.startFrame, State.updUplink, hr]
  · have next : s.nextOutbound = some (.query h) := by
      refine State.nextOutbound_of free ?_
      rw [State.outbound, notice, hr, on, State.unsentQuery_oldest held sent unsent]
      rfl
    simp [starts, next, execAuthQuery, State.startFrame, State.updUplink]
  · have next : s.nextOutbound = some (.passUp e) := by
      refine State.nextOutbound_of free ?_
      rw [State.outbound, notice, hr, on, State.unsentQuery_none sent, hq]
      rfl
    simp [starts, next, execPassUp, State.startFrame, State.updUplink]
  · obtain ⟨query, passUp⟩ := State.nextOutbound_held h
    constructor
    · show execAuthQuery s = _
      unfold execAuthQuery
      split
      · next q hq => exact absurd hq (query q)
      · rfl
    · show execPassUp s = _
      unfold execPassUp
      split
      · next e he => exact absurd he (passUp e)
      · rfl
  · show execUplinkFrameSent s = _
    rcases h with ⟨r, hr⟩ | ⟨a, b, hab⟩
    · simp only [execUplinkFrameSent, hr]
      rfl
    · simp only [execUplinkFrameSent, hab]
      rfl
  · show execAuthQuerySent s = _
    simp only [execAuthQuerySent, hs, State.markSent, Bool.and_eq_true, beq_iff_eq]
    rfl
  · show execPassUpSent s = _
    simp only [execPassUpSent, hs]
    rfl
  · show execPassUpSent s = _
    simp only [execPassUpSent, hs]
    rfl

/-! ### The arbiter's choice (R14, R15) -/

/-- A search over `Fin n` in ascending order finds the lowest index that answers. -/
theorem findSome?_finRange {n : Nat} {β : Type} {f : Fin n → Option β} {b : β}
    (h : (List.finRange n).findSome? f = some b) : ∃ i, f i = some b ∧ ∀ j, j < i → f j = none := by
  obtain ⟨l, i, r, split, hi, hl⟩ := List.findSome?_eq_some_iff.1 h
  refine ⟨i, hi, fun j hj => ?_⟩
  have sorted : (List.finRange n).Pairwise (· < ·) := List.pairwise_lt_finRange n
  have mem : j ∈ l ++ i :: r := split ▸ List.mem_finRange j
  rw [split, List.pairwise_append, List.pairwise_cons] at sorted
  rcases List.mem_append.1 mem with hj' | hj'
  · exact hl j hj'
  · rcases List.mem_cons.1 hj' with rfl | after
    · exact absurd hj (lt_irrefl _)
    · exact absurd hj (not_lt_of_gt (sorted.2.1.1 j after))

theorem findSome?_finRange_none {n : Nat} {β : Type} {f : Fin n → Option β} :
    (List.finRange n).findSome? f = none ↔ ∀ i, f i = none := by
  simp [List.findSome?_eq_none_iff]

/-- A round robin serves the first pedestal after the last one that has work. -/
theorem findSome?_roundRobin {β : Type} {last : Ped} {f : Ped → Option β} {b : β}
    (h : (roundRobin last).findSome? f = some b) :
    ∃ p, f p = some b ∧ ∀ q, f q ≠ none → p - last - 1 ≤ q - last - 1 := by
  rw [roundRobin, List.findSome?_map] at h
  obtain ⟨i, hi, lower⟩ := findSome?_finRange h
  refine ⟨last + 1 + i, hi, fun q hq => ?_⟩
  have place : last + 1 + i - last - 1 = i := by rw [sub_sub, add_sub_cancel_left]
  rw [place]
  by_contra hlt
  refine hq ?_
  have found := lower (q - last - 1) (not_le.1 hlt)
  rwa [Function.comp_apply, sub_sub, add_sub_cancel] at found

theorem findSome?_roundRobin_none {β : Type} {last : Ped} {f : Ped → Option β}
    (h : (roundRobin last).findSome? f = none) (p : Ped) : f p = none := by
  rw [roundRobin, List.findSome?_map] at h
  have found := findSome?_finRange_none.1 h (p - last - 1)
  rwa [Function.comp_apply, sub_sub, add_sub_cancel] at found

/-- The arbiter's choice within one class (R14). -/
def State.classWork (s : State) : Nat → Option Work
  | 1 => s.line.pendingLatch.map .latch
  | 2 => allConns.findSome? s.class2At
  | 3 => (roundRobin s.line.pointer3).findSome? s.class3At
  | 4 => s.setpointWork.map .setpoint
  | 5 => (roundRobin s.line.pointer5).findSome? s.class5At
  | 6 => if s.rollCallDue then some .rollCall else none
  | _ => none

theorem State.arbitrate_eq (s : State) : s.arbitrate = (s.classWork 1).or ((s.classWork 2).or ((s.classWork 3).or
    ((s.classWork 4).or ((s.classWork 5).or (s.classWork 6))))) := by
  simp only [State.arbitrate, Option.orElse_eq_or, State.classWork]

/-- The arbiter takes the choice of the lowest class that has one. -/
theorem State.arbitrate_some {s : State} {w : Work} (h : s.arbitrate = some w) :
    ∃ c, s.classWork c = some w ∧ ∀ d, 1 ≤ d → d < c → s.classWork d = none := by
  rw [State.arbitrate_eq] at h
  simp only [Option.or_eq_some_iff] at h
  rcases h with h | ⟨h1, h | ⟨h2, h | ⟨h3, h | ⟨h4, h | ⟨h5, h⟩⟩⟩⟩⟩
  · exact ⟨1, h, fun d hd lt => by omega⟩
  · refine ⟨2, h, fun d hd lt => ?_⟩
    interval_cases d; exact h1
  · refine ⟨3, h, fun d hd lt => ?_⟩
    interval_cases d <;> assumption
  · refine ⟨4, h, fun d hd lt => ?_⟩
    interval_cases d <;> assumption
  · refine ⟨5, h, fun d hd lt => ?_⟩
    interval_cases d <;> assumption
  · refine ⟨6, h, fun d hd lt => ?_⟩
    interval_cases d <;> assumption

theorem State.arbitrate_none {s : State} (h : s.arbitrate = none) (c : Nat) : s.classWork c = none := by
  rw [State.arbitrate_eq] at h
  simp only [Option.or_eq_none_iff] at h
  obtain ⟨h1, h2, h3, h4, h5, h6⟩ := h
  exact match c with
    | 0 => rfl
    | 1 => h1
    | 2 => h2
    | 3 => h3
    | 4 => h4
    | 5 => h5
    | 6 => h6
    | _ + 7 => rfl

/-! ### The work each class offers (R14, R15, R19) -/

theorem State.reachable_iff {s : State} {p : Ped} :
    ¬ ((s.ped p).link = .unconfigured ∨ (s.ped p).link = .unreachable) ↔ s.reachable p := not_or

theorem State.mayStart_iff {s : State} {p : Ped} :
    s.mayStart p = true ↔ s.reachable p ∧ (s.ped p).resync = false := by
  simp only [State.mayStart, State.reachable, Bool.and_eq_true, bne_iff_ne, Bool.not_eq_true']

theorem State.pollAged_iff {s : State} {p : Ped} : s.pollAged p = true ↔
    (s.ped p).link = .active ∧ ∃ d, (s.ped p).nextPoll = some d ∧ d + 2 * s.line.pollPeriod ≤ s.clock.ms := by
  simp only [State.pollAged, Bool.and_eq_true, beq_iff_eq, Option.any_eq_true, decide_eq_true_eq]

theorem State.offers_agedPoll_iff {s : State} {p : Ped} :
    s.offers (.agedPoll p) ↔ s.mayStart p = true ∧ s.pollAged p = true := by
  rw [State.mayStart_iff, State.pollAged_iff, and_assoc]
  exact Iff.rfl

theorem State.class2At_some {s : State} {n : Conn} {w : Work} (h : s.class2At n = some w) :
    s.offers w ∧ w.cls = 2 ∧ w.place = n.val ∧ ∀ m, w = .decrease m → ¬ s.offers (.openSlot m) := by
  unfold State.class2At at h
  dsimp only at h
  split at h
  · cases h
  next away =>
  have reach := State.reachable_iff.1 away
  split at h
  · next resync =>
    split at h
    · next atA =>
      cases h
      have place := congrArg Fin.val (connOf_letterOf n)
      rw [atA] at place
      exact ⟨⟨reach, resync⟩, rfl, place, nofun⟩
    · cases h
  next resync =>
  have quiet := Bool.eq_false_iff.2 resync
  split at h
  · next set =>
    cases h
    exact ⟨⟨reach, quiet, set⟩, rfl, rfl, nofun⟩
  next unset =>
  split at h
  · next dec =>
    cases h
    refine ⟨⟨reach, quiet, dec⟩, rfl, rfl, fun m hm offer => ?_⟩
    cases hm
    exact unset offer.2.2
  · cases h

theorem State.class2At_of_offers {s : State} {x : Work} (h : s.offers x) (hc : x.cls = 2) :
    ∃ n : Conn, n.val = x.place ∧ s.class2At n ≠ none := by
  cases x with
  | resyncPoll p =>
    refine ⟨connOf p .a, rfl, ?_⟩
    obtain ⟨reach, resync⟩ := h
    simp only [State.class2At, pedOf_connOf, letterOf_connOf, if_neg (State.reachable_iff.2 reach), resync]
    simp
  | openSlot n =>
    refine ⟨n, rfl, ?_⟩
    obtain ⟨reach, resync, set⟩ := h
    simp only [State.class2At, if_neg (State.reachable_iff.2 reach), resync, set]
    simp
  | decrease n =>
    refine ⟨n, rfl, ?_⟩
    obtain ⟨reach, resync, set⟩ := h
    simp only [State.class2At, if_neg (State.reachable_iff.2 reach), resync, set]
    cases (s.slots n).openSet <;> simp
  | latch | agedPoll | head | setpoint | duePoll | rollCall => cases hc

theorem State.class3At_some {s : State} {p : Ped} {w : Work} (h : s.class3At p = some w) :
    s.offers w ∧ (w = .agedPoll p ∨ ∃ e, w = .head p e ∧ ¬ s.offers (.agedPoll p)) := by
  unfold State.class3At at h
  split at h
  · next may =>
    split at h
    · next aged =>
      cases h
      exact ⟨State.offers_agedPoll_iff.2 ⟨may, aged⟩, .inl rfl⟩
    · next young =>
      split at h
      · next e rest queue =>
        cases h
        obtain ⟨reach, resync⟩ := State.mayStart_iff.1 may
        exact ⟨⟨reach,
          resync, by rw [queue]; rfl⟩, .inr ⟨e, rfl, fun aged => young (State.offers_agedPoll_iff.1 aged).2⟩⟩
      · cases h
  · cases h

theorem State.class3At_of_offers {s : State} {q : Ped} {e : QueueEntry}
    (h : s.offers (.agedPoll q) ∨ s.offers (.head q e)) : s.class3At q ≠ none := by
  unfold State.class3At
  rcases h with aged | ⟨reach, resync, queue⟩
  · obtain ⟨may, aged⟩ := State.offers_agedPoll_iff.1 aged
    rw [may, aged]
    simp
  · rw [State.mayStart_iff.2 ⟨reach, resync⟩]
    cases hq : (s.ped q).queue with
    | nil => simp [hq] at queue
    | cons e rest => cases s.pollAged q <;> simp

theorem State.class5At_iff {s : State} {p : Ped} {w : Work} :
    s.class5At p = some w ↔ w = .duePoll p ∧ s.offers (.duePoll p) := by
  have due : (s.mayStart p && s.pollDue p && !s.pollAged p) = true ↔ s.offers (.duePoll p) := by
    simp only [Bool.and_eq_true, State.mayStart_iff, State.pollDue, State.pollAged, State.offers, beq_iff_eq,
      Bool.not_eq_true']
    constructor
    · rintro ⟨⟨⟨reach, resync⟩, link, due⟩, young⟩
      obtain ⟨d, hd, now⟩ := (Option.any_eq_true _ _).1 due
      simp only [link, hd, beq_self_eq_true, Bool.true_and, Option.any_some, decide_eq_false_iff_not, not_le] at young
      exact ⟨reach, resync, link, d, hd, of_decide_eq_true now, young⟩
    · rintro ⟨reach, resync, link, d, hd, now, young⟩
      simp only [link, hd, beq_self_eq_true, Bool.true_and, Option.any_some, decide_eq_false_iff_not, not_le,
        decide_eq_true_eq]
      exact ⟨⟨⟨reach, resync⟩, trivial, now⟩, young⟩
  rw [State.class5At]
  split
  · next h => simp [due.1 h, eq_comm]
  · next h => exact ⟨nofun, fun offer => absurd (due.2 offer.2) h⟩

/-- What the arbiter finds in a class is on offer there. -/
theorem State.classWork_some {s : State} {c : Nat} {w : Work} (h : s.classWork c = some w) : s.offers w ∧
    w.cls = c := by
  unfold State.classWork at h
  split at h
  · obtain ⟨e, he, rfl⟩ := Option.map_eq_some_iff.1 h
    exact ⟨he, rfl⟩
  · obtain ⟨n, hn, -⟩ := findSome?_finRange h
    exact ⟨(State.class2At_some hn).1, (State.class2At_some hn).2.1⟩
  · obtain ⟨p, hp, -⟩ := findSome?_roundRobin h
    obtain ⟨offer, rfl | ⟨e, rfl, -⟩⟩ := State.class3At_some hp
    · exact ⟨offer, rfl⟩
    · exact ⟨offer, rfl⟩
  · obtain ⟨x, hx, rfl⟩ := Option.map_eq_some_iff.1 h
    exact ⟨hx, rfl⟩
  · obtain ⟨p, hp, -⟩ := findSome?_roundRobin h
    obtain ⟨rfl, offer⟩ := State.class5At_iff.1 hp
    exact ⟨offer, rfl⟩
  · split at h
    · next due => cases h; exact ⟨due, rfl⟩
    · cases h
  · cases h

/-- While work of a class is on offer, the arbiter finds some in it. -/
theorem State.classWork_of_offers {s : State} {x : Work} (h : s.offers x) : s.classWork x.cls ≠ none := by
  cases x with
  | latch e =>
    have pending : s.line.pendingLatch = some e := h
    simp [Work.cls, State.classWork, pending]
  | resyncPoll | openSlot | decrease =>
    obtain ⟨n, -, hn⟩ := State.class2At_of_offers h rfl
    exact fun none_ => hn (findSome?_finRange_none.1 none_ n)
  | agedPoll p => exact fun none_ =>
      State.class3At_of_offers (e := ⟨.clear, .lineController⟩) (.inl h) (findSome?_roundRobin_none none_ p)
  | head p e => exact fun none_ => State.class3At_of_offers (.inr h) (findSome?_roundRobin_none none_ p)
  | setpoint w =>
    have work : s.setpointWork = some w := h
    simp [Work.cls, State.classWork, work]
  | duePoll p =>
    intro none_
    have found := State.class5At_iff.2 ⟨rfl, h⟩
    rw [findSome?_roundRobin_none none_ p] at found
    cases found
  | rollCall =>
    have due : s.rollCallDue = true := h
    simp [Work.cls, State.classWork, due]

theorem Work.one_le_cls (w : Work) : 1 ≤ w.cls := by cases w <;> simp [Work.cls]

theorem State.nextWork_class {s : State} {w : Work} (h : s.nextWork = some w) : s.classWork w.cls = some w ∧
    ∀ d, 1 ≤ d → d < w.cls → s.classWork d = none := by
  unfold State.nextWork at h
  split at h
  · obtain ⟨c, hc, lower⟩ := State.arbitrate_some h
    obtain ⟨-, rfl⟩ := State.classWork_some hc
    exact ⟨hc, lower⟩
  · cases h

/-- Settles O52. -/
theorem arbiterServesClassesInOrder : Obligations.ArbiterServesClassesInOrder := by
  refine ⟨fun s w h => ?_, fun s x inflight window offer none_ => ?_⟩
  · obtain ⟨inflight, window⟩ := State.nextWork_free h
    obtain ⟨found, lower⟩ := State.nextWork_class h
    refine ⟨inflight, window, (State.classWork_some found).1, fun x offer => ?_, fun hc x offer hx => ?_, fun n hn =>
      ?_,
      fun p e hp => ?_, fun p q e hp offer => ?_, fun p q hp offer => ?_⟩
    · by_contra hlt
      exact State.classWork_of_offers offer (lower _ x.one_le_cls (not_le.1 hlt))
    · rw [hc] at found
      obtain ⟨n, hn, before⟩ := findSome?_finRange found
      obtain ⟨m, hm, work⟩ := State.class2At_of_offers offer hx
      rw [(State.class2At_some hn).2.2.1, ← hm]
      by_contra hlt
      exact work (before m (not_le.1 hlt))
    · subst hn
      obtain ⟨m, hm, -⟩ := findSome?_finRange found
      exact (State.class2At_some hm).2.2.2 n rfl
    · subst hp
      obtain ⟨q, hq, -⟩ := findSome?_roundRobin found
      obtain ⟨-, h | ⟨x, h, young⟩⟩ := State.class3At_some hq
      · cases h
      · cases h
        exact young
    · have three : w.cls = 3 := by
        rcases hp with rfl | ⟨x, rfl⟩ <;> rfl
      rw [three] at found
      obtain ⟨p', hp', first⟩ := findSome?_roundRobin found
      have same : p' = p := by
        rcases (State.class3At_some hp').2 with h | ⟨x, h, -⟩ <;> rcases hp with h' |
          ⟨y, h'⟩ <;> rw [h] at h' <;> cases h' <;> rfl
      rw [← same]
      exact first q (State.class3At_of_offers offer)
    · subst hp
      obtain ⟨p', hp', first⟩ := findSome?_roundRobin found
      obtain ⟨same, -⟩ := State.class5At_iff.1 hp'
      cases same
      refine first q ?_
      rw [State.class5At_iff.2 ⟨rfl, offer⟩]
      exact nofun
  · have free : s.lineFree = true := by simp [State.lineFree, inflight, window]
    rw [State.nextWork, if_pos free] at none_
    exact State.classWork_of_offers offer (State.arbitrate_none none_ _)

/-! ### What the arbiter starts (R8, R14, R16, R17, R152) -/

/-- A transaction starts with the record R8 creates, judged in the state before its own bookkeeping. -/
theorem State.startTxn_eq {s t : State} (target : Option Ped) (k : TxnKind) (o : Originator) (clock : t.clock = s.clock)
    (timeout : t.line.replyTimeout = s.line.replyTimeout) (disposition : ∀ p, (t.ped p).disposition =
    (s.ped p).disposition) :
    t.startTxn target k o = { t with line := { t.line with inflight := some (s.freshTxn target k o) } } := by
  have fresh : t.freshTxn target k o = s.freshTxn target k o := by
    unfold State.freshTxn
    rw [clock, timeout]
    cases target with
    | none => rfl
    | some p => exact congrArg (fun d => ({ frame := txnFrame (some p) d k, .. } : Txn)) (disposition p)
  rw [← fresh]
  rfl

/-- Settles O53. -/
theorem arbiterStartsBroadcastsPollsAndSlots : Obligations.ArbiterStartsBroadcastsPollsAndSlots := by
  intro s
  refine ⟨fun e h => ?_, fun h => ?_, fun p h => ?_, fun p h => ?_, fun p h => ?_, fun n h => ?_, fun n h => ?_⟩
  · show execSendLatch s = _
    simp only [execSendLatch, h]
    rfl
  · show execSendRollCall s = _
    simp only [execSendRollCall, h]
    rfl
  · show execSendPoll s = _
    simp only [execSendPoll, h]
    rfl
  · show execSendPoll s = _
    simp only [execSendPoll, h]
    rfl
  · show execSendPoll s = _
    simp only [execSendPoll, h]
    rfl
  · show execSendOpen s = _
    simp only [execSendOpen, h]
    rfl
  · show execSendDecrease s = _
    simp only [execSendDecrease, h]
    rfl

theorem State.startHead_eq (p : Ped) (e : QueueEntry) (s : State) : s.startHead p e = { s with line := { s.line with
    peds := tset s.line.peds p { s.ped p with queue := (s.ped p).queue.tail }
    pointer3 := p
    inflight := some (s.freshTxn (some p) (.queued e.cmd) e.originator) } } := by
  unfold State.startHead
  have emptied (q : Ped) : (((s.updPed p fun x => { x with queue := x.queue.tail }).served3 p).ped q).disposition =
      (s.ped q).disposition := by
    show (tget (tset s.line.peds p _) q).disposition = _
    rw [tget_tset]
    split
    · next hq => rw [hq]
    · rfl
  exact State.startTxn_eq (some p) _ _ rfl rfl emptied

theorem State.increaseReady_iff {s : State} {n : Conn} : s.increaseReady n = true ↔
    (s.setpoint n).state = .increaseDeferred ∧
      s.committedSum + ((s.setpoint n).target - (s.setpoint n).grant) ≤ s.effLimit := by
  simp only [State.increaseReady, Bool.and_eq_true, beq_iff_eq, decide_eq_true_eq]

theorem State.renewalReady_iff {s : State} {n : Conn} : s.renewalReady n = true ↔
    ((s.setpoint n).state = .steady ∨ (s.setpoint n).state = .increaseDeferred) ∧
      ∃ e, (s.setpoint n).holdExpiry = some e ∧ e < s.sec + s.alloc.renew := by
  unfold State.renewalReady
  dsimp only
  generalize (s.setpoint n).holdExpiry = expiry
  cases expiry <;> simp

/-- The setpoint work is of the lowest connector that has one to send (R152). -/
theorem State.setpointWork_some {s : State} {w : SetpointWork} (h : s.setpointWork = some w) :
    (if w.increase then s.increaseReady w.conn = true ∧ w.value = (s.setpoint w.conn).target
      else s.renewalReady w.conn = true ∧ w.value = (s.setpoint w.conn).grant) ∧
    ∀ m, m < w.conn → s.mayStart (pedOf m) = true → s.increaseReady m = false ∧ s.renewalReady m = false := by
  obtain ⟨n, hn, lower⟩ := findSome?_finRange h
  have own : w.conn = n ∧ if w.increase then s.increaseReady w.conn = true ∧ w.value = (s.setpoint w.conn).target
      else s.renewalReady w.conn = true ∧ w.value = (s.setpoint w.conn).grant := by
    split at hn
    · split at hn
      · next ready => cases hn; exact ⟨rfl, ready, rfl⟩
      · split at hn
        · next ready => cases hn; exact ⟨rfl, ready, rfl⟩
        · cases hn
    · cases hn
  refine ⟨own.2, fun m hm may => ?_⟩
  have idle := lower m (own.1 ▸ hm)
  rw [if_pos may] at idle
  split at idle
  · cases idle
  · next low =>
    split at idle
    · cases idle
    · next fresh => exact ⟨Bool.eq_false_iff.2 low, Bool.eq_false_iff.2 fresh⟩

/-- Settles O54. -/
theorem arbiterStartsQueueHeadsAndSetpoints : Obligations.ArbiterStartsQueueHeadsAndSetpoints := by
  intro s
  refine ⟨fun p e h => ?_, fun w h => ?_⟩
  · dsimp only
    rw [← State.startHead_eq p e s]
    obtain ⟨cmd, o⟩ := e
    refine ⟨?_, ?_, ?_, ?_⟩
    · rintro ⟨n, rfl⟩
      show execSendClose s = _
      simp only [execSendClose, h]
    · rintro ⟨l, k, text, rfl⟩
      show execSendDisplay s = _
      simp only [execSendDisplay, h]
    · rintro ⟨l, c, body, rfl⟩
      show execSendPassDown s = _
      simp only [execSendPassDown, h]
    · rintro rfl
      show execSendClear s = _
      simp only [execSendClear, h]
  · have work : s.setpointWork = some w := (State.classWork_some (State.nextWork_class h).1).1
    obtain ⟨ready, lower⟩ := State.setpointWork_some work
    refine ⟨fun inc => ?_, fun inc => ?_, lower, ?_⟩
    · rw [if_pos inc] at ready
      obtain ⟨state, room⟩ := State.increaseReady_iff.1 ready.1
      exact ⟨state, ready.2, room⟩
    · rw [if_neg (by simp [inc])] at ready
      obtain ⟨state, expiry⟩ := State.renewalReady_iff.1 ready.1
      exact ⟨state, ready.2, expiry⟩
    · show execSendSetpoint s = _
      simp only [execSendSetpoint, h]
      rfl

/-! ### Frames nothing waits for (R9, R22) -/

/-- Settles O59. -/
theorem strayAndDiscardedFramesHaveNoEffect : Obligations.StrayAndDiscardedFramesHaveNoEffect := by
  intro s frame
  refine ⟨fun idle => ?_, fun x p hx target discarded => ⟨?_, fun hlast => ?_⟩, rfl, rfl, rfl, rfl⟩
  · have received : s.receive frame = s := by
      unfold State.receive
      rcases idle with free | ⟨x, hx, target⟩
      · rw [free]
      · simp only [hx, target]
    have expired : s.replyDeadline = s := by
      unfold State.replyDeadline
      rcases idle with free | ⟨x, hx, target⟩
      · rw [free]
      · simp only [hx, target]
    have frames : (.next (s.receive frame) : Result) = .next s := congrArg Host.Outcome.next received
    exact ⟨frames, frames, frames, frames, frames, congrArg Host.Outcome.next expired⟩
  · refine congrArg Host.Outcome.next ?_
    simp only [State.receive, hx, target, discarded, if_true]
    rfl
  · refine ⟨(s.advanceTo x.deadline).setInflight none, ?_, fun b hb => ?_, s.advanceTo_clockAt hlast, ?_⟩
    · refine congrArg Host.Outcome.next ?_
      simp only [State.replyDeadline, hx, target, discarded, if_true]
    · have kept := SameBut.advanceTo x.deadline s b (by simp at hb ⊢; exact hb.2)
      cases b with
      | line | clock => simp at hb
      | _ => exact kept
    · rw [State.setInflight, State.advanceTo_line]

end Sys2Proof.Machine
end

section
/-! SUPPORT and PROOF. The bytes of frames: the check word (R182), the layouts the part sends (11.2, 11.3), and the
STATUS reply it reads (11.2, R183). -/

namespace Sys2Proof.Machine

/-! ### The check word is a sum modulo 65,535 (R182) -/

theorem onesAdd_modEq (x y : Nat) : onesAdd x y ≡ x + y [MOD 65535] := by
  unfold onesAdd
  split
  · rfl
  · exact (Nat.modEq_iff_dvd' (by omega)).2 ⟨1, by omega⟩

theorem onesAdd_le {x y : Nat} (hx : x ≤ 65535) (hy : y ≤ 65535) : onesAdd x y ≤ 65535 := by
  unfold onesAdd
  split <;> omega

theorem foldl_onesAdd_modEq (l : List Nat) (x : Nat) : l.foldl onesAdd x ≡ x + l.sum [MOD 65535] := by
  induction l generalizing x with
  | nil => exact Nat.ModEq.refl _
  | cons y l ih =>
    rw [List.foldl_cons, List.sum_cons, ← add_assoc]
    exact (ih _).trans ((onesAdd_modEq x y).add_right _)

theorem onesSum_modEq (bs : Frame) : onesSum bs ≡ (pairs bs).sum [MOD 65535] := by
  have folded := foldl_onesAdd_modEq (pairs bs) 0
  rwa [zero_add] at folded

theorem pairs_le (bs : Frame) : ∀ x ∈ pairs bs, x ≤ 65535 := by
  induction bs using pairs.induct with
  | case1 => simp [pairs]
  | case2 a =>
    have := a.isLt
    simp only [pairs, List.mem_singleton]
    omega
  | case3 a b rest ih =>
    have := a.isLt
    have := b.isLt
    intro x hx
    rcases List.mem_cons.1 hx with rfl | hx
    · omega
    · exact ih x hx

theorem onesSum_le (bs : Frame) : onesSum bs ≤ 65535 := by
  have fold (l : List Nat) (hl : ∀ x ∈ l, x ≤ 65535) (x : Nat) (hx : x ≤ 65535) : l.foldl onesAdd x ≤ 65535 := by
    induction l generalizing x with
    | nil => exact hx
    | cons y l ih =>
      exact ih (fun z hz => hl z (List.mem_cons_of_mem _ hz)) _ (onesAdd_le hx (hl y List.mem_cons_self))
  exact fold _ (pairs_le bs) 0 (by decide)

theorem checkGood_withCheck (body : Frame) : checkGood (withCheck body) = true := by
  have long : (withCheck body).length - 2 = body.length := by simp [withCheck]
  have bound := onesSum_le body
  have word : checkWord body < 256 ^ 2 := by
    unfold checkWord
    dsimp only
    split <;> omega
  rw [checkGood, long, withCheck, List.take_left, List.drop_left, num_be_of_lt word]
  have sum : onesAdd (onesSum body) (checkWord body) = 65535 := by
    unfold onesAdd checkWord
    dsimp only
    split <;> split <;> omega
  simp [sum]

/-- What one byte counts for in the sum: a high byte 256, a low byte 1. -/
theorem pairs_set_sum (bs : Frame) (i : Nat) (b : Byte) (h : i < bs.length) :
    ∃ w, (w = 1 ∨ w = 256) ∧ (pairs (bs.set i b)).sum + bs[i].toNat * w = (pairs bs).sum + b.toNat * w := by
  induction bs using pairs.induct generalizing i with
  | case1 => simp at h
  | case2 a =>
    obtain rfl : i = 0 := by simpa using h
    exact ⟨256, .inr rfl, by simp [pairs]; omega⟩
  | case3 a c rest ih =>
    match i with
    | 0 => exact ⟨256, .inr rfl, by simp [pairs]; omega⟩
    | 1 => exact ⟨1, .inl rfl, by simp [pairs]; omega⟩
    | i + 2 =>
      obtain ⟨w, hw, sum⟩ := ih i (by simpa using h)
      exact ⟨w, hw, by simp [pairs]; omega⟩

/-- The sum of the words of a frame cut before its check word. -/
def frameSum (frame : Frame) : Nat :=
  (pairs (frame.take (frame.length - 2))).sum + (pairs (frame.drop (frame.length - 2))).sum

theorem num_of_length_two {l : Frame} (h : l.length = 2) : num l = (pairs l).sum := by
  match l, h with
  | [a, b], _ => simp [num, pairs]

/-- A frame that passes the test has words that sum to a multiple of 65,535. -/
theorem checkGood_frameSum {frame : Frame} (h : checkGood frame = true) :
    2 ≤ frame.length ∧ frameSum frame ≡ 0 [MOD 65535] := by
  simp only [checkGood, Bool.and_eq_true, decide_eq_true_eq, beq_iff_eq] at h
  obtain ⟨long, sum⟩ := h
  have last : (frame.drop (frame.length - 2)).length = 2 := by
    rw [List.length_drop]
    omega
  rw [num_of_length_two last] at sum
  refine ⟨long, ?_⟩
  calc frameSum frame
      ≡ onesSum (frame.take (frame.length - 2)) + (pairs (frame.drop (frame.length - 2))).sum [MOD 65535] :=
        (onesSum_modEq _).symm.add_right _
    _ ≡ onesAdd (onesSum (frame.take (frame.length - 2))) (pairs (frame.drop (frame.length - 2))).sum [MOD 65535] :=
        (onesAdd_modEq _ _).symm
    _ ≡ 0 [MOD 65535] := by
        rw [sum]
        rfl

theorem frameSum_set (frame : Frame) (i : Nat) (b : Byte) (h : i < frame.length) :
    ∃ w, (w = 1 ∨ w = 256) ∧ frameSum (frame.set i b) + frame[i].toNat * w = frameSum frame + b.toNat * w := by
  unfold frameSum
  rw [List.length_set]
  by_cases front : i < frame.length - 2
  · rw [List.take_set, List.drop_set, if_pos front]
    obtain ⟨w, hw, sum⟩ := pairs_set_sum (frame.take (frame.length - 2)) i b (by rw [List.length_take]; omega)
    rw [List.getElem_take] at sum
    exact ⟨w, hw, by omega⟩
  · rw [List.drop_set, if_neg front, List.take_set_of_le (by omega)]
    obtain ⟨w, hw, sum⟩ := pairs_set_sum (frame.drop (frame.length - 2)) (i - (frame.length - 2)) b
      (by rw [List.length_drop]; omega)
    have same : (frame.drop (frame.length - 2))[i - (frame.length - 2)]'(by rw [List.length_drop]; omega) =
      frame[i] := by
      rw [List.getElem_drop]
      congr 1
      omega
    rw [same] at sum
    exact ⟨w, hw, by omega⟩

/-- Settles O11. -/
theorem checkWordCatchesOneWrongByte : Obligations.CheckWordCatchesOneWrongByte := by
  refine ⟨checkGood_withCheck, fun frame i b good inside changed => ?_⟩
  have differs : frame[i].toNat ≠ b.toNat := fun same =>
    changed (by rw [List.getElem?_eq_getElem inside, BitVec.eq_of_toNat_eq same])
  by_contra still
  obtain ⟨-, before⟩ := checkGood_frameSum good
  obtain ⟨-, after⟩ := checkGood_frameSum (Bool.eq_true_of_not_eq_false still)
  obtain ⟨w, hw, sum⟩ := frameSum_set frame i b inside
  have old := frame[i].isLt
  have new := b.isLt
  unfold Nat.ModEq at before after
  rcases hw with rfl | rfl <;> omega

/-! ### The frames the part sends (11.2, 11.3) -/

theorem lineFrame_eq (address kind : Nat) (body : Frame) : lineFrame address kind body =
    byte address :: byte (body.length + 5) :: byte kind ::
      (body ++ be 2 (checkWord (byte address :: byte (body.length + 5) :: byte kind :: body))) := rfl

theorem lineFrame_length (address kind : Nat) (body : Frame) : (lineFrame address kind body).length =
    body.length + 5 := by
  simp [lineFrame_eq]

theorem frameBody_lineFrame (address kind : Nat) (body : Frame) : frameBody (lineFrame address kind body) = body := by
  rw [frameBody, lineFrame_length, lineFrame_eq]
  exact List.take_left' rfl

/-- A frame whose body fits its kind passes the length test. -/
theorem lengthGood_lineFrame {address kind lo hi : Nat} {body : Frame} (short : body.length ≤ 59) (hk : kind < 256)
    (range : kindLengths kind = some (lo, hi)) (fits : lo ≤ body.length + 5 ∧ body.length + 5 ≤ hi)
    (read : kind = 129 → (parseStatusBody body).isSome = true) : lengthGood (lineFrame address kind body) = true := by
  have long := lineFrame_length address kind body
  have held := frameBody_lineFrame address kind body
  have number : (byte kind).toNat = kind := byte_toNat_of_lt hk
  have declared : (byte (body.length + 5)).toNat = body.length + 5 := byte_toNat_of_lt (by omega)
  have other : byte kind ≠ 129 ∨ (parseStatusBody body).isSome = true := by
    by_cases h : kind = 129
    · exact .inr (read h)
    · exact .inl fun e => h (by rw [← number, e]; rfl)
  unfold lengthGood
  rw [long, held, lineFrame_eq]
  simp only [declared, number, range, Bool.and_eq_true, Bool.or_eq_true, bne_iff_ne, beq_self_eq_true,
    decide_eq_true_eq]
  exact ⟨⟨by omega, trivial⟩, ⟨by omega, by omega⟩, other⟩

/-- What 11.2 says of the frame of a transaction: its length, its check word and its header. -/
theorem lineFrame_fits {address kind lo hi : Nat} {body : Frame} (ha : address < 256) (short : body.length ≤ 59)
    (hk : kind < 129) (range : kindLengths kind = some (lo, hi)) (fits : lo ≤ body.length + 5 ∧ body.length + 5 ≤ hi) :
    lengthGood (lineFrame address kind body) = true ∧ checkGood (lineFrame address kind body) = true ∧
      ∃ a len k rest, lineFrame address kind body = a :: len :: k :: rest ∧ a.toNat = address ∧
        len.toNat = (lineFrame address kind body).length ∧ k.toNat = kind := by
  refine ⟨lengthGood_lineFrame short (by omega) range fits (by omega), checkGood_withCheck _, _, _, _, _,
    lineFrame_eq address kind body, byte_toNat_of_lt ha, ?_, byte_toNat_of_lt (by omega)⟩
  rw [lineFrame_length]
  exact byte_toNat_of_lt (by omega)

/-- The body of a transaction that is no broadcast fits its kind with the disposition before it. -/
theorem body_fits {k : TxnKind} (addressed : ¬ (k = .rollCall ∨ ∃ e, k = .latch e))
    (text : ∀ l x text, k = .queued (.display l x text) → text.length ≤ 40)
    (payload : ∀ l c body, k = .queued (.passDown l c body) → body.length ≤ 40) :
    k.body.1 < 129 ∧ k.body.2.length + 1 ≤ 59 ∧
      ∃ lo hi, kindLengths k.body.1 = some (lo, hi) ∧ lo ≤ k.body.2.length + 1 + 5 ∧ k.body.2.length + 1 + 5 ≤ hi := by
  cases k with
  | poll => exact ⟨by decide, by decide, 6, 6, rfl, by decide, by decide⟩
  | openSlot n => exact ⟨by simp [TxnKind.body], by simp [TxnKind.body], 7, 7, rfl,
    by simp [TxnKind.body], by simp [TxnKind.body]⟩
  | decrease n v h | increase n v h | renewal n v h =>
    exact ⟨by simp [TxnKind.body], by simp [TxnKind.body], 10, 10, rfl, by simp [TxnKind.body], by simp [TxnKind.body]⟩
  | queued cmd =>
    cases cmd with
    | close n => exact ⟨by simp [TxnKind.body], by simp [TxnKind.body], 7, 7, rfl,
      by simp [TxnKind.body], by simp [TxnKind.body]⟩
    | display l x t =>
      have short := text l x t rfl
      exact ⟨by simp [TxnKind.body], by simp [TxnKind.body]; omega, 8, 48, rfl, by simp [TxnKind.body],
        by simp [TxnKind.body]; omega⟩
    | passDown l c b =>
      have short := payload l c b rfl
      exact ⟨by simp [TxnKind.body], by simp [TxnKind.body]; omega, 8, 48, rfl, by simp [TxnKind.body],
        by simp [TxnKind.body]; omega⟩
    | clear => exact ⟨by decide, by decide, 6, 6, rfl, by decide, by decide⟩
  | latch e => exact absurd (.inr ⟨e, rfl⟩) addressed
  | rollCall => exact absurd (.inl rfl) addressed

theorem uplinkFrame_fits (kind tag : Byte) (payload : Frame) :
    declaredLength (uplinkFrame kind tag payload) = some (BitVec.ofNat 16 (uplinkFrame kind tag payload).length) ∧
      checkGood (uplinkFrame kind tag payload) = true := by
  refine ⟨?_, checkGood_withCheck _⟩
  have long : (uplinkFrame kind tag payload).length = payload.length + 6 := by
    simp only [uplinkFrame, withCheck, List.length_append, List.length_cons, be_length]
    omega
  rw [long]
  refine congrArg some (BitVec.eq_of_toNat_eq ?_)
  rw [BitVec.toNat_append, byte_toNat, byte_toNat, BitVec.toNat_ofNat, Nat.shiftLeft_eq,
    ← Nat.shiftLeft_eq, ← Nat.shiftLeft_add_eq_or_of_lt (Nat.mod_lt _ (by decide)), Nat.shiftLeft_eq, pow_one, pow_zero,
    Nat.div_one]
  omega

/-- Settles O12. -/
theorem sentFramesFitTheirLayout : Obligations.SentFramesFitTheirLayout := by
  refine ⟨fun target d k broadcast text payload => ?_, fun f _ => ?_⟩
  · suffices fits : lengthGood (txnFrame target d k) = true ∧ checkGood (txnFrame target d k) = true ∧
        ∃ a len kind rest, txnFrame target d k = a :: len :: kind :: rest ∧ a.toNat = target.elim 0 (·.val + 1) ∧
          len.toNat = (txnFrame target d k).length ∧ kind.toNat = k.body.1 by
      obtain ⟨long, check, a, len, kind, rest, frame, address, declared, number⟩ := fits
      refine ⟨long, check, a, len, kind, rest, frame, address.trans ?_, declared, number.trans ?_⟩
      · cases target <;> rfl
      · cases k with
        | queued cmd => cases cmd <;> rfl
        | _ => rfl
    cases target with
    | none =>
      obtain rfl | ⟨e, rfl⟩ := broadcast.1 rfl
      · exact lineFrame_fits (lo := 5) (hi := 5) (by decide) (by decide) (by decide) rfl (by decide)
      · exact lineFrame_fits (kind := 8) (body := [e]) (lo := 6) (hi := 6) (by decide) (by simp) (by decide) rfl
          (by simp)
    | some p =>
      have addressed := mt broadcast.2 (by simp)
      obtain ⟨hk, short, lo, hi, range, fits⟩ := body_fits addressed text payload
      exact lineFrame_fits (by omega) short hk range fits
  · cases f with
    | response r => exact uplinkFrame_fits _ _ _
    | notice a b => exact uplinkFrame_fits _ _ _
    | query h => exact uplinkFrame_fits _ _ _
    | passUp e live => exact uplinkFrame_fits _ _ _

/-! ### The STATUS reply (11.2, R183) -/

/-- The fields of a state word (11.2). -/
theorem stateWord_fields {p r c l t d q w : Nat} (hp : p < 2) (hr : r < 2) (hc : c < 2) (hl : l < 2) (ht : t < 3)
    (hd : d ≤ 400) (hq : q < 512)
    (hw : p * 2 ^ 23 + r * 2 ^ 22 + c * 2 ^ 21 + l * 2 ^ 20 + t * 2 ^ 18 + d * 2 ^ 9 + q = w) :
    w < 256 ^ 3 ∧ w / 2 ^ 23 % 2 = p ∧ w / 2 ^ 22 % 2 = r ∧ w / 2 ^ 21 % 2 = c ∧ w / 2 ^ 20 % 2 = l ∧
      w / 2 ^ 18 % 4 = t ∧ w / 2 ^ 9 % 512 = d ∧ w % 512 = q := by
  omega

theorem testBit_of_toNat {w k : Nat} {b : Bool} (h : w / 2 ^ k % 2 = b.toNat) : w.testBit k = b := by
  rw [Nat.testBit_eq_decide_div_mod_eq, h]
  cases b <;> rfl

/-- The connector block of a report, and whether it announces a latch. -/
theorem parseBlock_blockBytes (r : ConnReport) (hd : r.demand ≤ 400) (hp : r.power < 512) :
    ∃ b0 b1 b2 r0 r1 r2 r3, blockBytes r = [b0, b1, b2, r0, r1, r2, r3] ∧
      parseBlock b0 b1 b2 r0 r1 r2 r3 = ({ r with latch := none }, r.latch.isSome) := by
  have bit (b : Bool) (k : Nat) : (if b then 2 ^ k else 0) = b.toNat * 2 ^ k := by cases b <;> simp
  obtain ⟨w, hw⟩ : ∃ w, r.plugged.toNat * 2 ^ 23 + r.ready.toNat * 2 ^ 22 + r.complete.toNat * 2 ^ 21 +
    r.latch.isSome.toNat * 2 ^ 20 + r.contact.number * 2 ^ 18 + r.demand * 2 ^ 9 + r.power = w := ⟨_, rfl⟩
  have state : r.contact.number < 3 := by cases r.contact <;> decide
  obtain ⟨bound, plugged, ready, complete, latch, contact, demand, power⟩ := stateWord_fields (Bool.toNat_lt _)
    (Bool.toNat_lt _) (Bool.toNat_lt _) (Bool.toNat_lt _) state hd hp hw
  have block : blockBytes r = be 3 w ++ be 4 r.reading.toNat := by
    simp only [blockBytes, bit, hw]
  have word : num [byte (w / 256 ^ 2), byte (w / 256 ^ 1), byte (w / 256 ^ 0)] = w := num_be_of_lt bound
  have reading : BitVec.ofNat 32 (num (be 4 r.reading.toNat)) = r.reading := by
    rw [num_be_of_lt r.reading.isLt, BitVec.ofNat_toNat, BitVec.setWidth_eq]
  refine ⟨_, _, _, _, _, _, _, block, ?_⟩
  unfold parseBlock
  dsimp only
  rw [word, show num [_, _, _, _] = num (be 4 r.reading.toNat) from rfl, reading, testBit_of_toNat plugged,
    testBit_of_toNat ready, testBit_of_toNat complete, testBit_of_toNat latch, contact, demand, power, min_eq_right hd]
  cases r.contact <;> rfl

/-- The latched readings the flags announce are read back, with what follows. -/
theorem parseLatches_latchBytes (a b : ConnReport) (rest : Frame)
    (one : ∀ x y, a.latch = some x → b.latch = some y → x.1 = y.1) :
    parseLatches a.latch.isSome b.latch.isSome (latchBytes a b ++ rest) = some (a.latch, b.latch, rest) := by
  have reading (x : BitVec 32) : BitVec.ofNat 32 (num (be 4 x.toNat)) = x := by
    rw [num_be_of_lt x.isLt, BitVec.ofNat_toNat, BitVec.setWidth_eq]
  unfold latchBytes
  rcases ha : a.latch with - | ⟨e, x⟩ <;> rcases hb : b.latch with - | ⟨f, y⟩
  · rfl
  · exact congrArg (fun z => some (none, some (f, z), rest)) (reading y)
  · exact congrArg (fun z => some (some (e, z), none, rest)) (reading x)
  · have same : e = f := one _ _ ha hb
    subst same
    exact congrArg₂ (fun z u => some (some (e, z), some (e, u), rest)) (reading x) (reading y)

theorem parseMessage_messageBytes (m : Option Message) (h : ∀ x, m = some x → x.number ≠ 0 ∧ x.payload.length ≤ 40) :
    parseMessage (messageBytes m) = some m := by
  cases m with
  | none => rfl
  | some x =>
    obtain ⟨number, code, letter, payload⟩ := x
    obtain ⟨given, short⟩ := h _ rfl
    dsimp only at given short
    have read (k : Nat) (hk : k < 3) : parseMessage (number :: byte (code.val + 64 * k) :: payload) =
        some (some ⟨number, code, if k = 1 then some .a else if k = 2 then some .b else none, payload⟩) := by
      have head : (byte (code.val + 64 * k)).toNat = code.val + 64 * k := byte_toNat_of_lt (by omega)
      have high : (code.val + 64 * k) / 64 = k := by omega
      have low : (code.val + 64 * k) % 64 = code.val := by omega
      simp only [parseMessage, if_neg given, if_pos short, head, high, low, Fin.eta]
    rcases letter with - | - | -
    · exact read 0 (by decide)
    · exact read 1 (by decide)
    · exact read 2 (by decide)

/-- Settles O13. -/
theorem statusRepliesAreReadAsSent : Obligations.StatusRepliesAreReadAsSent := by
  intro p r ⟨available, demandA, demandB, powerA, powerB, latch, message, short⟩
  obtain ⟨a0, a1, a2, a3, a4, a5, a6, blockA, parseA⟩ := parseBlock_blockBytes r.a demandA powerA
  obtain ⟨b0, b1, b2, b3, b4, b5, b6, blockB, parseB⟩ := parseBlock_blockBytes r.b demandB powerB
  have power : min 600 (num (be 2 r.available)) = r.available := by
    rw [num_be_of_lt (by omega), min_eq_right available]
  have body : parseStatusBody (statusBody r) = some r := by
    unfold statusBody
    rw [blockA, blockB, List.append_assoc]
    show parseStatusBody (_ :: _ :: a0 :: a1 :: a2 :: a3 :: a4 :: a5 :: a6 :: b0 :: b1 :: b2 :: b3 :: b4 :: b5 :: b6 ::
      (latchBytes r.a r.b ++ messageBytes r.message)) = _
    simp only [parseStatusBody, parseA, parseB, parseLatches_latchBytes r.a r.b _ latch,
      parseMessage_messageBytes r.message message]
    exact congrArg (fun x => some ({ r with available := x } : StatusReply)) power
  have long : 17 ≤ (statusBody r).length := by
    simp only [statusBody, blockA, blockB, List.length_append, be_length, List.length_cons, List.length_nil]
    cases r.message <;> simp [messageBytes]; omega
  have good : lengthGood (statusFrame p r) = true :=
    lengthGood_lineFrame short (by decide) rfl (by omega) fun _ => by rw [body]; rfl
  have check : checkGood (statusFrame p r) = true := checkGood_withCheck _
  have held : frameBody (statusFrame p r) = statusBody r := frameBody_lineFrame _ _ _
  have address : (byte (p.val + 1)).toNat = p.val + 1 := byte_toNat_of_lt (by omega)
  have header : statusFrame p r = byte (p.val + 1) :: byte ((statusBody r).length + 5) :: 129 :: _ := rfl
  unfold classifyFrame
  rw [good, check, held, body, header]
  simp [address]

end Sys2Proof.Machine
end

section
/-! SUPPORT. Closing a contactor (R16, R41): the close condition, the CLOSE it starts where the queue has room, and the
entry to OPEN. Lock sources (R50) and fault causes (R52): what each leaves of its connector. -/

namespace Sys2Proof.Machine

/-! ### A pedestal woken by local activity (R5) -/

/-- What neither a local activity nor a queue entry changes of a pedestal's entry. -/
structure Pedestal.Woken (e f : Pedestal) : Prop where
  resync : f.resync = e.resync
  reportA : f.reportA = e.reportA
  reportB : f.reportB = e.reportB
  unreachable : f.link = .unreachable ↔ e.link = .unreachable
  unconfigured : f.link = .unconfigured ↔ e.link = .unconfigured

theorem Pedestal.Woken.refl (e : Pedestal) : e.Woken e := ⟨rfl, rfl, rfl, Iff.rfl, Iff.rfl⟩

theorem Pedestal.Woken.trans {e f g : Pedestal} (h : e.Woken f) (h' : f.Woken g) : e.Woken g :=
  ⟨h'.resync.trans h.resync, h'.reportA.trans h.reportA, h'.reportB.trans h.reportB,
    h'.unreachable.trans h.unreachable, h'.unconfigured.trans h.unconfigured⟩

theorem State.localActivity_woken (p q : Ped) (s : State) : (s.ped q).Woken ((s.localActivity p).ped q) := by
  rcases State.localActivity_ped_cases p s with ⟨idle, e⟩ | ⟨-, e⟩
  · rw [e, State.updPed_ped]
    split
    · next h =>
      subst h
      rcases idle with idle | idle <;> exact ⟨rfl, rfl, rfl, by simp [idle], by simp [idle]⟩
    · exact .refl _
  · rw [e]
    exact .refl _

theorem State.setContactor_woken (n : Conn) (c : ContactorState) (q : Ped) (s : State) :
    (s.ped q).Woken ((s.setContactor n c).ped q) := by
  unfold State.setContactor
  dsimp only
  split
  · exact State.localActivity_woken (pedOf n) q (s.updSeq n fun r => { r with contactor := c })
  · exact .refl _

theorem State.enqueue_woken (p : Ped) (e : QueueEntry) (q : Ped) (s : State) :
    (s.ped q).Woken ((s.enqueue p e).ped q) := by
  rw [State.enqueue_ped]
  split
  · next h =>
    subst h
    exact ⟨rfl, rfl, rfl, Iff.rfl, Iff.rfl⟩
  · exact .refl _

theorem State.closable_congr {s t : State} {n : Conn} (h : (s.ped (pedOf n)).Woken (t.ped (pedOf n))) :
    t.closable n ↔ s.closable n := by
  unfold State.closable State.linkOf State.report
  rw [h.resync, h.reportA, h.reportB]
  exact and_congr_left' (not_congr h.unreachable)

/-! ### The close condition and the CLOSE it starts (R16, R41) -/

theorem State.closeCondition_iff {s : State} {n : Conn} : s.closeCondition n = true ↔
    s.readyToClose n ∧ (s.sess n).state = .authorized ∧ s.sequencer.parkStop = false := by
  simp only [State.closeCondition, State.readyToClose, State.closable, Bool.and_eq_true, beq_iff_eq, Bool.not_eq_true',
    bne_iff_ne]
  generalize s.report n = report
  cases report with
  | none => simp
  | some r =>
    simp only [Bool.and_eq_true, beq_iff_eq, Option.some.injEq, exists_eq_left']
    tauto

theorem State.queueTakes_iff {s : State} {n : Conn} : s.queueTakes (pedOf n) = true ↔ s.roomForClose n := by
  simp only [State.queueTakes, State.roomForClose, State.linkOf, Bool.and_eq_true, bne_iff_ne, decide_eq_true_eq]
  rfl

/-- The close of connector n with its CLOSE at the tail of the pedestal's queue. -/
def State.startsClose (n : Conn) (s : State) : State :=
  ((s.updSeq n fun r => { r with attempt := 1, openPending := false }).setContactor n .closing).enqueue (pedOf n)
    (Machine.closeEntry n)

theorem State.testClose_of_not {s : State} {n : Conn} (h : s.closeCondition n = false) : s.testClose n = s := by
  rw [State.testClose, h]
  rfl

theorem State.testClose_closes {s : State} {n : Conn} (h : s.closeCondition n = true) (room : s.roomForClose n) :
    s.testClose n = s.startsClose n := by
  have woken := State.setContactor_woken n .closing (pedOf n)
    (s.updSeq n fun r => { r with attempt := 1, openPending := false })
  have takes : ((s.updSeq n fun r => { r with attempt := 1, openPending := false }).setContactor n .closing).queueTakes
      (pedOf n) = true := by
    refine State.queueTakes_iff.2 ⟨(not_congr woken.unconfigured).2 room.1, ?_⟩
    rw [State.setContactor_queue]
    exact room.2
  rw [State.testClose, if_pos h, State.offerClose, if_pos takes]
  rfl

section startsClose

variable (n : Conn) (s : State)

theorem State.startsClose_seq (m : Conn) :
    (s.startsClose n).seq m = if m = n then (s.seq n).startClose else s.seq m := by
  show (((s.updSeq n _).setContactor n .closing).seq m) = _
  rw [State.setContactor_seq, State.updSeq_seq, if_pos rfl, State.updSeq_seq]
  split <;> rfl

theorem State.startsClose_woken (q : Ped) : (s.ped q).Woken ((s.startsClose n).ped q) :=
  (State.setContactor_woken n .closing q (s.updSeq n _)).trans (State.enqueue_woken _ _ _ _)

theorem State.startsClose_queue : ((s.startsClose n).ped (pedOf n)).queue =
    (s.ped (pedOf n)).queue ++ [Machine.closeEntry n] := by
  rw [State.startsClose, State.enqueue_ped, if_pos rfl]
  exact congrArg (· ++ [Machine.closeEntry n]) (State.setContactor_queue n .closing (pedOf n) (s.updSeq n _))

theorem State.startsClose_ped_of_ne {q : Ped} (h : q ≠ pedOf n) : (s.startsClose n).ped q = s.ped q := by
  rw [State.startsClose, State.enqueue_ped, if_neg h, State.setContactor_ped_of_ne n q _ _ h]
  rfl

theorem State.startsClose_closeWaits : (s.startsClose n).closeWaits n = true := by
  rw [State.closeWaits, State.startsClose_queue]
  simp [Machine.closeEntry, QueueEntry.isClose]

theorem State.startsClose_closeWaits_of_ne {m : Conn} (h : m ≠ n) : (s.startsClose n).closeWaits m =
    s.closeWaits m := by
  by_cases same : pedOf m = pedOf n
  · have other : (Machine.closeEntry n).isClose m = false := QueueEntry.isClose_unique (n := n)
      (by simp [Machine.closeEntry, QueueEntry.isClose]) h
    rw [State.closeWaits, same, State.startsClose_queue, List.any_append, List.any_cons, other, State.closeWaits, same]
    simp
  · exact State.closeWaits_congr (by rw [State.startsClose_ped_of_ne n s same])

theorem State.localActivity_line_slots (p : Ped) : (s.localActivity p).line.slots = s.line.slots := by
  rcases State.localActivity_ped_cases p s with ⟨-, e⟩ | ⟨-, e⟩
  · rw [e]
    rfl
  · rw [e]

theorem State.startsClose_kept : SameBut [.line, .sequencer] s (s.startsClose n) ∧
    (s.startsClose n).line.slots = s.line.slots ∧ (s.startsClose n).line.inflight = s.line.inflight ∧
    (s.startsClose n).sequencer.parkStop = s.sequencer.parkStop := by
  obtain ⟨u, hu⟩ : ∃ u, (s.updSeq n fun r => { r with attempt := 1, openPending := false }) = u := ⟨_, rfl⟩
  have kept : SameBut [.line, .sequencer] s (u.setContactor n .closing) := by
    intro b hb
    rw [← hu]
    cases b with
    | line | sequencer => simp at hb
    | classifier => exact State.setContactor_classifier n _ _
    | auth => exact State.setContactor_auth n _ _
    | sessions => exact State.setContactor_sessions n _ _
    | tariff => exact State.setContactor_tariff n _ _
    | clock => exact State.setContactor_clock n _ _
    | metering => exact State.setContactor_metering n _ _
    | alloc => exact State.setContactor_alloc n _ _
    | settlement => exact State.setContactor_settlement n _ _
    | uplink => exact State.setContactor_uplink n _ _
    | pending => exact State.setContactor_pending n _ _
  have contactor : (u.setContactor n .closing).line.slots = u.line.slots ∧
      (u.setContactor n .closing).line.inflight = u.line.inflight ∧
      (u.setContactor n .closing).sequencer.parkStop = u.sequencer.parkStop := by
    unfold State.setContactor
    dsimp only
    split
    · exact ⟨State.localActivity_line_slots _ _, by rw [State.localActivity_inflight]; rfl,
        by rw [State.localActivity_sequencer]; rfl⟩
    · exact ⟨rfl, rfl, rfl⟩
  have same : s.startsClose n =
    (u.setContactor n .closing).enqueue (pedOf n) (Machine.closeEntry n) := by rw [← hu]; rfl
  have line : u.line = s.line ∧ u.sequencer.parkStop = s.sequencer.parkStop := by rw [← hu]; exact ⟨rfl, rfl⟩
  rw [same]
  refine ⟨kept.trans fun b hb => ?_, ?_, ?_, ?_⟩
  · cases b with
    | line | sequencer => simp at hb
    | _ => rfl
  · exact contactor.1.trans (congrArg LineState.slots line.1)
  · exact contactor.2.1.trans (congrArg LineState.inflight line.1)
  · exact contactor.2.2.trans line.2

end startsClose

/-- What a test of the close condition at an OPEN contactor leaves. -/
theorem State.testClose_entered {s : State} {n : Conn} (opened : (s.seq n).contactor = .opened)
    (room : (s.sess n).state = .authorized → s.roomForClose n) : OpenEntered (s.seq n) n s (s.testClose n) := by
  refine ⟨fun ⟨authorized, free, closable⟩ => ?_, fun stays => ?_⟩
  · rw [State.testClose_closes (State.closeCondition_iff.2 ⟨⟨opened, closable⟩, authorized, free⟩) (room authorized)]
    exact ⟨(State.startsClose_seq n s n).trans (if_pos rfl), State.startsClose_closeWaits n s⟩
  · have not : s.closeCondition n = false := Bool.eq_false_iff.2 fun h => by
      obtain ⟨⟨-, closable⟩, authorized, free⟩ := State.closeCondition_iff.1 h
      exact stays ⟨authorized, free, closable⟩
    rw [State.testClose_of_not not]

/-- A test of the close condition changes the line and the sequencer alone where the queue has room. -/
theorem State.testClose_kept {s : State} {n : Conn} (room : (s.sess n).state = .authorized → s.roomForClose n) :
    SameBut [.line, .sequencer] s (s.testClose n) := by
  cases h : s.closeCondition n with
  | true =>
    rw [State.testClose_closes h (room (State.closeCondition_iff.1 h).2.1)]
    exact (State.startsClose_kept n s).1
  | false =>
    rw [State.testClose_of_not h]
    exact .refl _ _

theorem OpenEntered.congr {r : SeqRecord} {n : Conn} {s s' t t' : State} (h : OpenEntered r n s t)
    (sessions : s'.sessions = s.sessions) (park : s'.sequencer.parkStop = s.sequencer.parkStop)
    (line : s'.line = s.line)
    (seq : t'.seq n = t.seq n) (queue : t'.line = t.line) : OpenEntered r n s' t' := by
  have closable : s'.closable n ↔ s.closable n := State.closable_congr
    (by rw [State.ped, State.ped, line]; exact .refl _)
  have waits : t'.closeWaits n = t.closeWaits n := State.closeWaits_congr (by rw [State.ped, queue, State.ped])
  unfold OpenEntered at h ⊢
  rw [State.sess, sessions, park, closable, seq, waits]
  exact h

/-! ### Lock sources (R50) -/

theorem State.withdraw_line (n : Conn) (s : State) : (s.withdraw n).line = s.line := s.withdraw_kept n .line (by simp)

theorem State.stopCause_closeWaits_of_not_stops {why : EndReason} {n : Conn} {s : State}
    (h : why.stops (s.sess n).state = false) (m : Conn) : (s.stopCause why n).closeWaits m = s.closeWaits m := by
  by_cases he : why.ends (s.sess n).state
  · rw [State.stopCause_ends he]
    exact State.closeWaits_congr (by rw [State.ped, State.withdraw_line, State.ped])
  · rw [State.stopCause_none h he]

theorem State.stopCause_closeWaits {why : EndReason} {n : Conn} {s : State}
    (h : why.stops (s.sess n).state = true) (live : (s.seq n).contactor.live = true) :
    (s.stopCause why n).closeWaits n = false := by
  have stopped : (s.stoppedAt why n).closeWaits n = false := by
    rw [State.stoppedAt_of_not_empty why n s (EndReason.stops_not_empty h)]
    exact State.openCause_closeWaits live
  rw [State.stopCause_stops h]
  rcases State.beginStop_cases why n s with ⟨-, e⟩ | ⟨-, e⟩
  · rw [e, State.pass_closeWaits, stopped]
  · rw [e, stopped]

/-- What the first lock source leaves of the contactor, after the stop of the session (R50). -/
def State.lockedOpen (n : Conn) (s : State) : State :=
  match (s.seq n).contactor with
  | .opened => s.setContactor n .locked
  | .closing | .verifying | .closed => s.openCause n
  | .opening | .faulted | .locked => s

theorem State.lockedOpen_sess (n : Conn) (s : State) :
    (s.lockedOpen n).sessions = s.sessions ∧ (s.lockedOpen n).auth = s.auth := by
  unfold State.lockedOpen
  split <;> simp

theorem State.addLock_of_locked {n : Conn} {src : LockSource} {s : State} (h : (s.seq n).locks ≠ ⟨false, false⟩) :
    s.addLock n src = s.updSeq n fun r => { r with locks := r.locks.put true src } := by
  rw [State.addLock]
  exact if_neg fun e => h ((Locks.isEmpty_iff _).1 e)

theorem State.addLock_of_free {n : Conn} {src : LockSource} {s : State} (h : (s.seq n).locks = ⟨false, false⟩) :
    s.addLock n src =
      ((s.updSeq n fun r => { r with locks := r.locks.put true src }).stopCause .lockout n).lockedOpen n := by
  rw [State.addLock]
  exact if_pos ((Locks.isEmpty_iff _).2 h)

/-- A connector record after the open of a lock, given whether its CLOSE waits in the queue (R50). -/
def SeqRecord.lockedBy (waits : Bool) (r : SeqRecord) : SeqRecord :=
  match r.contactor with
  | .opened => { r with contactor := .locked }
  | .closing | .verifying | .closed => r.openCaused waits
  | .opening | .faulted | .locked => r

theorem State.lockedOpen_seq (n : Conn) (s : State) :
    (s.lockedOpen n).seq n = (s.seq n).lockedBy (s.closeWaits n) := by
  unfold State.lockedOpen SeqRecord.lockedBy
  cases (s.seq n).contactor with
  | opened => exact (State.setContactor_seq n n _ s).trans (if_pos rfl)
  | closing | verifying | closed => exact State.openCause_seq n s
  | opening | faulted | locked => rfl

theorem State.lockedOpen_openSet {n : Conn} {s : State}
    (h : (s.seq n).contactor.live = true ∨ (s.slots n).openSet = true) : ((s.lockedOpen n).slots n).openSet = true := by
  unfold State.lockedOpen
  cases hc : (s.seq n).contactor with
  | opened =>
    rw [hc] at h
    dsimp only
    rw [State.setContactor_slots]
    exact h.resolve_left nofun
  | closing | verifying | closed => exact State.openCause_openSet (by rw [hc]; rfl)
  | opening | faulted | locked =>
    rw [hc] at h
    exact h.resolve_left nofun

/-- The open of a lock does the same whether the stop of the session has taken its open cause already or not. -/
theorem SeqRecord.lockedBy_facts (r r' : SeqRecord) (waits waits' : Bool)
    (h : (r' = r ∧ waits' = waits) ∨ (r' = r.openCaused waits ∧ (r.contactor.live = true → waits' = false))) :
    (r'.lockedBy waits').locks = r.locks ∧ (r'.lockedBy waits').fault = r.fault ∧
    (r'.lockedBy waits').contactor = (if r.contactor = .opened then .locked else (r.openCaused waits).contactor) ∧
    (r.contactor = .closing → (r'.lockedBy waits').openPending = !waits) := by
  obtain ⟨contactor, attempt, settle, pending, acked, replies, idle, released, rest, locks, fault⟩ := r
  rcases h with ⟨rfl, rfl⟩ | ⟨rfl, h⟩
  · cases contactor with
    | closing => cases waits' <;> exact ⟨rfl, rfl, rfl, fun _ => rfl⟩
    | opened | verifying | closed | opening | faulted | locked => exact ⟨rfl, rfl, rfl, nofun⟩
  · cases contactor with
    | closing =>
      cases h rfl
      cases waits <;> exact ⟨rfl, rfl, rfl, fun _ => rfl⟩
    | opened | verifying | closed | opening | faulted | locked => exact ⟨rfl, rfl, rfl, nofun⟩

/-- What the first lock source leaves of a connector (R50). -/
structure LockTaken (n : Conn) (locks : Locks) (s t : State) : Prop where
  locks : (t.seq n).locks = locks
  fault : (t.seq n).fault = (s.seq n).fault
  contactor : (t.seq n).contactor = if (s.seq n).contactor = .opened then .locked else s.contactorAfterOpen n
  openSet : (s.seq n).contactor.live = true → (t.slots n).openSet = true
  pending : (s.seq n).contactor = .closing → (t.seq n).openPending = !(s.closeWaits n)
  stop : StopTaken .lockout n s.sec s t

theorem State.stopCause_lockedOpen (n : Conn) (s : State) :
    LockTaken n (s.seq n).locks s ((s.stopCause .lockout n).lockedOpen n) := by
  have stop := State.stopCause_taken .lockout n s
  have seq := State.stopCause_seq .lockout n s
  have openSet (live : (s.seq n).contactor.live = true) (h : EndReason.lockout.stops (s.sess n).state = true) :=
    State.stopCause_openSet h live
  have cases : ((s.stopCause .lockout n).seq n = s.seq n ∧ (s.stopCause .lockout n).closeWaits n = s.closeWaits n) ∨
      ((s.stopCause .lockout n).seq n = (s.seq n).openCaused (s.closeWaits n) ∧
        ((s.seq n).contactor.live = true → (s.stopCause .lockout n).closeWaits n = false)) := by
    by_cases stops : EndReason.lockout.stops (s.sess n).state = true
    · exact .inr ⟨seq.trans (if_pos stops), fun live => State.stopCause_closeWaits stops live⟩
    · exact .inl ⟨seq.trans (if_neg stops), State.stopCause_closeWaits_of_not_stops (Bool.not_eq_true _ ▸ stops) n⟩
  obtain ⟨locks, fault, contactor, pending⟩ := SeqRecord.lockedBy_facts (s.seq n) _ _ _ cases
  have after := s.openCaused_contactor n
  generalize s.stopCause .lockout n = v at stop seq openSet cases locks fault contactor pending
  have locked := State.lockedOpen_seq n v
  refine ⟨by rw [locked, locks], by rw [locked, fault], by rw [locked, contactor, after], fun live => ?_,
    fun hc => by rw [locked, pending hc], ?_⟩
  · refine State.lockedOpen_openSet ?_
    by_cases stops : EndReason.lockout.stops (s.sess n).state = true
    · exact .inr (openSet live stops)
    · rw [if_neg stops] at seq
      exact .inl (by rw [seq, live])
  · obtain ⟨sessions, auth⟩ := State.lockedOpen_sess n v
    exact stop.congr rfl rfl (by rw [State.sess, sessions, State.sess]) auth

/-- The first lock source takes the LOCKOUT stop, and locks or opens the contactor (R50). -/
theorem State.addLock_taken {n : Conn} (src : LockSource) {s : State} (h : (s.seq n).locks = ⟨false, false⟩) :
    LockTaken n ((s.seq n).locks.put true src) s (s.addLock n src) := by
  rw [State.addLock_of_free h]
  obtain ⟨u, hu⟩ : ∃ u, s.updSeq n (fun r => { r with locks := r.locks.put true src }) = u := ⟨_, rfl⟩
  have seq : u.seq n = { s.seq n with locks := (s.seq n).locks.put true src } := by
    rw [← hu, State.updSeq_seq, if_pos rfl]
  have line : u.line = s.line := by rw [← hu]; rfl
  have sessions : u.sessions = s.sessions := by rw [← hu]; rfl
  have clock : u.clock = s.clock := by rw [← hu]; rfl
  rw [hu]
  have waits : u.closeWaits n = s.closeWaits n := State.closeWaits_congr (by rw [State.ped, line, State.ped])
  have after : u.contactorAfterOpen n = s.contactorAfterOpen n := by
    rw [State.contactorAfterOpen, waits, seq, State.contactorAfterOpen]
  obtain ⟨locks, fault, contactor, openSet, pending, stop⟩ := State.stopCause_lockedOpen n u
  rw [after] at contactor
  rw [waits] at pending
  rw [State.sec, clock, ← State.sec] at stop
  rw [seq] at locks fault contactor openSet pending
  exact ⟨locks, fault, contactor, openSet, pending,
    stop.congr (congrArg (fun x : SessionTable => tget x.entries n) sessions).symm (by rw [sessions]) rfl rfl⟩

/-! ### Fault causes (R52) -/

theorem State.stopCause_openSet_of_not_live {why : EndReason} {n : Conn} {s : State}
    (h : (s.seq n).contactor.live = false) : ((s.stopCause why n).slots n).openSet = (s.slots n).openSet := by
  by_cases stops : why.stops (s.sess n).state = true
  · have stopped : ((s.stoppedAt why n).slots n).openSet = (s.slots n).openSet := by
      rw [State.stoppedAt_of_not_empty why n s (EndReason.stops_not_empty stops)]
      refine (congrArg (fun t : State => (t.slots n).openSet) (State.openCause_of_not_live ?_)).trans rfl
      exact h
    rw [State.stopCause_stops stops]
    rcases State.beginStop_cases why n s with ⟨-, e⟩ | ⟨-, e⟩
    · rw [e, State.pass_openSet, stopped]
    · rw [e, stopped]
  · by_cases he : why.ends (s.sess n).state
    · rw [State.stopCause_ends he, State.slots, State.withdraw_line, State.slots]
    · rw [State.stopCause_none (Bool.not_eq_true _ ▸ stops) he]

/-- The connector of a fault cause, before the stop of its session. -/
def State.faulted (n : Conn) (k : FaultKind) (s : State) : State :=
  (((s.setContactor n .faulted).updSeq n fun r =>
    { r with
      fault := some k
      attempt := 1
      openPending := false
      openAcked := false
      released := false
      settleDeadline := none
      idleCount := 0
      restCount := 0
      repliesSinceOpen := 0 }).setOpenSlot n).raise .connectorFault

theorem State.enterFaulted_of_not {n : Conn} {s : State} (k : FaultKind) (h : (s.seq n).contactor ≠ .faulted) :
    s.enterFaulted n k = (s.faulted n k).stopCause .pedestalFault n := if_neg h

theorem State.enterFaulted_of_faulted {n : Conn} {s : State} (k : FaultKind) (h : (s.seq n).contactor = .faulted) :
    s.enterFaulted n k = s := if_pos h

theorem State.faulted_facts (n : Conn) (k : FaultKind) (s : State) :
    (s.faulted n k).seq n = (s.seq n).faultedBy k ∧ ((s.faulted n k).slots n).openSet = true ∧
    (s.faulted n k).sessions = s.sessions ∧ (s.faulted n k).clock = s.clock ∧
    (s.faulted n k).uplink = s.uplink.withRaised .connectorFault := by
  unfold State.faulted
  obtain ⟨u, hu⟩ : ∃ u, s.setContactor n .faulted = u := ⟨_, rfl⟩
  have seq : u.seq n = { s.seq n with contactor := .faulted } := by rw [← hu, State.setContactor_seq, if_pos rfl]
  have sessions : u.sessions = s.sessions := by rw [← hu, State.setContactor_sessions]
  have clock : u.clock = s.clock := by rw [← hu, State.setContactor_clock]
  have uplink : u.uplink = s.uplink := by rw [← hu, State.setContactor_uplink]
  rw [hu]
  refine ⟨?_, ?_, ?_, ?_, ?_⟩
  · rw [State.seq, State.raise_sequencer, ← State.seq, State.setOpenSlot_seq, State.updSeq_seq, if_pos rfl, seq]
    rfl
  · rw [State.slots, State.raise_line, ← State.slots, State.setOpenSlot_slots, if_pos rfl]
  · rw [State.raise_sessions, State.setOpenSlot_sessions, State.updSeq_sessions, sessions]
  · rw [State.raise_clock, State.setOpenSlot_clock, State.updSeq_clock, clock]
  · rw [State.raise_uplink, State.setOpenSlot_uplink, State.updSeq_uplink, uplink]

/-- The stop of a FAULTED connector's session leaves its record. -/
theorem SeqRecord.openCaused_faultedBy (waits : Bool) (k : FaultKind) (r : SeqRecord) :
    (r.faultedBy k).openCaused waits = r.faultedBy k := rfl

/-- What a fault cause leaves of its connector, and what it raises. -/
theorem State.enterFaulted_taken (n : Conn) (k : FaultKind) (s : State) : FaultTaken k n s (s.enterFaulted n k) := by
  unfold FaultTaken
  by_cases h : (s.seq n).contactor = .faulted
  · rw [if_pos h, State.enterFaulted_of_faulted k h]
    exact ⟨rfl, rfl⟩
  rw [if_neg h, State.enterFaulted_of_not k h]
  obtain ⟨seq, openSet, sessions, clock, uplink⟩ := s.faulted_facts n k
  have stop := State.stopCause_taken .pedestalFault n (s.faulted n k)
  generalize s.faulted n k = u at seq openSet sessions clock uplink stop
  refine ⟨?_, ?_, ?_, ?_⟩
  · rw [State.stopCause_seq, seq, SeqRecord.openCaused_faultedBy, ite_self]
  · rw [State.stopCause_openSet_of_not_live (by rw [seq]; rfl), openSet]
  · rw [State.stopCause_uplink, uplink]
    show hasEvent .connectorFault (s.uplink.pendingSet ||| EventKind.only .connectorFault) = true
    rw [hasEvent_or_only]
    rfl
  · rw [State.sec, clock, ← State.sec] at stop
    exact stop.congr (congrArg (fun x : SessionTable => tget x.entries n) sessions).symm (by rw [sessions]) rfl rfl

end Sys2Proof.Machine
end

section
/-! SUPPORT and PROOF. The requests of the connector sequencer: LOCKOUT and UNLOCK (R51), CLEAR_FAULT (R53), PARK_STOP
and
PARK_RESUME (R54). -/

namespace Sys2Proof.Machine

/-! ### The entries of two states that differ in the uplink -/

section answered

variable {s t : State} (h : SameBut [.uplink] s t)

include h

theorem SameBut.seq (n : Conn) : t.seq n = s.seq n := congrArg (fun x : SequencerState => tget x.recs n) h.sequencer
theorem SameBut.sess (n : Conn) : t.sess n = s.sess n := congrArg (fun x : SessionTable => tget x.entries n) h.sessions
theorem SameBut.decision (n : Conn) : t.decision n = s.decision n :=
  congrArg (fun x : AuthState => tget x.decisions n) h.auth
theorem SameBut.slots (n : Conn) : t.slots n = s.slots n := congrArg (fun x : LineState => tget x.slots n) h.line
theorem SameBut.ped (p : Ped) : t.ped p = s.ped p := congrArg (fun x : LineState => tget x.peds p) h.line
theorem SameBut.plan (k : PlanSlot) : t.plan k = s.plan k :=
  congrArg (fun x : TariffState => tget x.plans k) (h .tariff (by simp))
theorem SameBut.clock : t.clock = s.clock := h .clock (by simp)
theorem SameBut.closeWaits (n : Conn) : t.closeWaits n = s.closeWaits n := State.closeWaits_congr (by rw [h.ped])

end answered

/-! ### The park stop flag -/

theorem State.setContactor_parkStop (n : Conn) (c : ContactorState) (s : State) :
    (s.setContactor n c).sequencer.parkStop = s.sequencer.parkStop := by
  unfold State.setContactor
  dsimp only
  split
  · rw [State.localActivity_sequencer]
    rfl
  · rfl

theorem State.openCause_parkStop (n : Conn) (s : State) : (s.openCause n).sequencer.parkStop =
    s.sequencer.parkStop := by
  have opening (u : State) : (u.enterOpening n).sequencer.parkStop = u.sequencer.parkStop :=
    State.setContactor_parkStop n _ _
  have slot (u : State) : (u.setOpenSlot n).sequencer.parkStop =
    u.sequencer.parkStop := by rw [State.setOpenSlot_sequencer]
  unfold State.openCause
  dsimp only
  split
  · split
    · exact (opening _).trans (slot _)
    · exact slot _
  · exact (opening _).trans (slot (s.updSeq n _))
  · exact (opening _).trans (slot (s.updSeq n _))
  all_goals rfl

theorem State.stopCause_parkStop (why : EndReason) (n : Conn) (s : State) :
    (s.stopCause why n).sequencer.parkStop = s.sequencer.parkStop := by
  by_cases stops : why.stops (s.sess n).state = true
  · have stopped : (s.stoppedAt why n).sequencer.parkStop = s.sequencer.parkStop := by
      rw [State.stoppedAt, State.openCause_parkStop, State.setSess_sequencer]
    rw [State.stopCause_stops stops]
    rcases State.beginStop_cases why n s with ⟨-, e⟩ | ⟨-, e⟩
    · rw [e, State.pass_sequencer, stopped]
    · rw [e, stopped]
  · by_cases he : why.ends (s.sess n).state
    · rw [State.stopCause_ends he, State.withdraw_sequencer]
    · rw [State.stopCause_none (Bool.not_eq_true _ ▸ stops) he]

theorem State.addLock_parkStop (n : Conn) (src : LockSource) (s : State) :
    (s.addLock n src).sequencer.parkStop = s.sequencer.parkStop := by
  by_cases h : (s.seq n).locks = ⟨false, false⟩
  · rw [State.addLock_of_free h]
    have stop := State.stopCause_parkStop .lockout n (s.updSeq n fun r => { r with locks := r.locks.put true src })
    generalize (s.updSeq n fun r => { r with locks := r.locks.put true src }).stopCause .lockout n = v at stop
    have locked : (v.lockedOpen n).sequencer.parkStop = v.sequencer.parkStop := by
      unfold State.lockedOpen
      cases (v.seq n).contactor with
      | opened => exact State.setContactor_parkStop n _ v
      | closing | verifying | closed => exact State.openCause_parkStop n v
      | opening | faulted | locked => rfl
    rw [locked, stop]
    rfl
  · rw [State.addLock_of_locked h]
    rfl

/-- The blocks a lock source leaves alone. -/
theorem State.addLock_kept (n : Conn) (src : LockSource) (s : State) :
    SameBut [.line, .sequencer, .auth, .sessions, .alloc] s (s.addLock n src) := by
  intro b hb
  cases b with
  | line | sequencer | auth | sessions | alloc => simp at hb
  | classifier => exact State.addLock_classifier n src s
  | tariff => exact State.addLock_tariff n src s
  | clock => exact State.addLock_clock n src s
  | metering => exact State.addLock_metering n src s
  | settlement => exact State.addLock_settlement n src s
  | uplink => exact State.addLock_uplink n src s
  | pending => exact State.addLock_pending n src s

/-- Settles O27. -/
theorem lockoutAddsTheHostSource : Obligations.LockoutAddsTheHostSource := by
  intro s n tag hr
  have owner : ownerOf (.lockout tag [byte n.val]) s.taken = ownLockout n s.taken :=
    connOperand_index s.taken n ownLockout
  refine ⟨fun b hb => exec_refused .badIndex rfl (by simp) hr (connOperand_out _ _ hb), fun away => ?_,
    fun reach locked => ?_,
    fun reach free => ?_⟩
  · exact exec_refused .wrongState rfl (by simp) hr (owner.trans (if_pos away))
  · have adds : s.taken.addLock n .host = _ := State.addLock_of_locked (s := s.taken) locked
    have owner : ownerOf (.lockout tag [byte n.val]) s.taken = (_, Reply.bare .ok) :=
      owner.trans ((if_neg reach).trans (congrArg (fun u => (u, Reply.bare .ok)) adds))
    exact exec_owner_answered rfl (by simp) hr owner rfl
  · have owner : ownerOf (.lockout tag [byte n.val]) s.taken = (s.taken.addLock n .host, Reply.bare .ok) :=
      owner.trans (if_neg reach)
    have taken := State.addLock_taken .host (s := s.taken) free
    have keeps := Keeps.addLock (M := atConn n) .host s.taken (touches_atConn n)
    have kept := State.addLock_kept n .host s.taken
    have park := State.addLock_parkStop n .host s.taken
    generalize s.taken.addLock n .host = u at owner taken keeps kept park
    obtain ⟨t, run, answer, same⟩ := exec_owned rfl (by simp) hr owner (kept .uplink (by simp))
    have freed : (s.taken.seq n).locks = ⟨false, false⟩ := free
    refine ⟨t, run, (kept.answered same).mono (by simp), answer, ?_, ?_, fun live => ?_, fun closing => ?_, ?_, ?_,
      fun m hm => ⟨?_, ?_, ?_⟩, fun q hq => ?_, ?_⟩
    · rw [same.seq, taken.locks, freed]
      rfl
    · rw [same.seq, taken.contactor]
      rfl
    · rw [same.slots]
      exact taken.openSet live
    · rw [same.seq]
      exact taken.pending closing
    · exact taken.stop.congr rfl rfl (same.sess n) same.auth
    · rw [same.seq, taken.fault]
      rfl
    · exact (same.seq m).trans (keeps.seq_of_ne hm)
    · exact (same.sess m).trans (keeps.sess_of_ne hm)
    · exact (same.decision m).trans (keeps.decision_of_ne hm)
    · exact (same.ped q).trans (keeps.ped_of_ne hq)
    · rw [same.sequencer, park]
      rfl

/-! ### UNLOCK and CLEAR_FAULT (R50, R51, R53) -/

theorem tset_tset {α : Type} {n : Nat} (t : Table α n) (i : Fin n) (x y : α) : tset (tset t i x) i y = tset t i y := by
  apply Vector.ext
  intro k hk
  simp only [tset, Vector.getElem_set]
  split <;> rfl

theorem State.updSeq_eq_withSeq (n : Conn) (f : SeqRecord → SeqRecord) (s : State) :
    s.updSeq n f = s.withSeq n (f (s.seq n)) := rfl

theorem State.withSeq_seq (n : Conn) (x : SeqRecord) (s : State) : (s.withSeq n x).seq n = x := tget_tset_same ..

theorem State.withSeq_withSeq (n : Conn) (x y : SeqRecord) (s : State) : (s.withSeq n x).withSeq n y = s.withSeq n y :=
  congrArg (fun l => ({ s with sequencer := { s.sequencer with recs := l } } : State)) (tset_tset ..)

/-- A contactor that comes back to OPEN changes its record alone. -/
theorem State.setContactor_opened (n : Conn) (s : State) :
    s.setContactor n .opened = s.withSeq n { s.seq n with contactor := .opened } := by
  unfold State.setContactor
  exact if_neg fun h => h.2 rfl

/-- The entry to OPEN of a connector whose session may not start its CLOSE. -/
theorem State.enterOpen_of_not_authorized {n : Conn} {s : State} (h : (s.sess n).state ≠ .authorized) :
    s.enterOpen n = s.withSeq n { s.seq n with contactor := .opened } := by
  rw [State.enterOpen, State.setContactor_opened]
  exact State.testClose_of_not (Bool.eq_false_iff.2 fun e => h (State.closeCondition_iff.1 e).2.1)

/-- The entry to OPEN, where the queue has room for the CLOSE it may start. -/
theorem State.enterOpen_entered {n : Conn} {s : State} (room : (s.sess n).state = .authorized → s.roomForClose n) :
    OpenEntered { s.seq n with contactor := .opened } n s (s.enterOpen n) ∧
      SameBut [.line, .sequencer] s (s.enterOpen n) := by
  rw [State.enterOpen, State.setContactor_opened]
  obtain ⟨u, hu⟩ : ∃ u, s.withSeq n { s.seq n with contactor := .opened } = u := ⟨_, rfl⟩
  have seq : u.seq n = { s.seq n with contactor := .opened } := by rw [← hu, State.withSeq_seq]
  have sessions : u.sessions = s.sessions := by rw [← hu]; rfl
  have line : u.line = s.line := by rw [← hu]; rfl
  have park : u.sequencer.parkStop = s.sequencer.parkStop := by rw [← hu]; rfl
  have room' : (u.sess n).state = .authorized → u.roomForClose n := fun h => by
    have there := room (by rwa [State.sess, sessions] at h)
    rwa [State.roomForClose, State.linkOf, State.ped, line]
  have entered := State.testClose_entered (by rw [seq]) room'
  have kept := State.testClose_kept room'
  rw [seq] at entered
  rw [hu]
  refine ⟨entered.congr sessions.symm park.symm line.symm rfl rfl, SameBut.trans ?_ kept⟩
  intro b hb
  rw [← hu]
  cases b with
  | line | sequencer => simp at hb
  | _ => rfl

theorem State.withSeq_kept (n : Conn) (r : SeqRecord) (s : State) : SameBut [.sequencer] s (s.withSeq n r) := by
  intro b hb
  cases b with
  | sequencer => simp at hb
  | _ => rfl

theorem State.withSeq_seq_of_ne {n m : Conn} (r : SeqRecord) (s : State) (h : m ≠ n) :
    (s.withSeq n r).seq m = s.seq m := tget_tset_of_ne _ _ _ _ h

theorem State.withSeq_enterOpen {n : Conn} {s : State} (h : (s.sess n).state ≠ .authorized) (r : SeqRecord) :
    (s.withSeq n r).enterOpen n = s.withSeq n { r with contactor := .opened } := by
  rw [State.enterOpen_of_not_authorized (s := s.withSeq n r) h, State.withSeq_withSeq, State.withSeq_seq]

/-- The opening of a connector with its OPEN slot set. -/
theorem State.setOpenSlot_enterOpening (n : Conn) (s : State) :
    SameBut [.line, .sequencer] s ((s.setOpenSlot n).enterOpening n) ∧
    ((s.setOpenSlot n).enterOpening n).seq n = (s.seq n).toOpening ∧
    (((s.setOpenSlot n).enterOpening n).slots n).openSet = true ∧
    ∀ m, m ≠ n → ((s.setOpenSlot n).enterOpening n).slots m = s.slots m := by
  refine ⟨fun b hb => ?_, ?_, ?_, fun m hm => ?_⟩
  · cases b with
    | line | sequencer => simp at hb
    | classifier => exact (State.enterOpening_classifier n _).trans (State.setOpenSlot_classifier n s)
    | auth => exact (State.enterOpening_auth n _).trans (State.setOpenSlot_auth n s)
    | sessions => exact (State.enterOpening_sessions n _).trans (State.setOpenSlot_sessions n s)
    | tariff => exact (State.enterOpening_tariff n _).trans (State.setOpenSlot_tariff n s)
    | clock => exact (State.enterOpening_clock n _).trans (State.setOpenSlot_clock n s)
    | metering => exact (State.enterOpening_metering n _).trans (State.setOpenSlot_metering n s)
    | alloc => exact (State.enterOpening_alloc n _).trans (State.setOpenSlot_alloc n s)
    | settlement => exact (State.enterOpening_settlement n _).trans (State.setOpenSlot_settlement n s)
    | uplink => exact (State.enterOpening_uplink n _).trans (State.setOpenSlot_uplink n s)
    | pending => exact (State.enterOpening_pending n _).trans (State.setOpenSlot_pending n s)
  · rw [State.enterOpening_seq, if_pos rfl, State.setOpenSlot_seq]
    rfl
  · rw [State.enterOpening_slots, State.setOpenSlot_slots, if_pos rfl]
  · rw [State.enterOpening_slots, State.setOpenSlot_slots, if_neg hm]

/-- A request whose owner returns the connector to OPEN. -/
theorem exec_enterOpen {c : Instr} {place : Nat} {tag : Byte} {payload : Frame} {s : State} {n : Conn} {r : SeqRecord}
    (h : requestOf c = some (place, tag, payload)) (hp : payload.length ≤ 250) (hr : s.hasRoom)
    (owner : ownerOf c s.taken = ((s.taken.withSeq n r).enterOpen n, .bare .ok)) (free : r.locks = ⟨false, false⟩)
    (room : s.roomForClose n) :
    ∃ t, exec c s = .next t ∧ SameBut [.line, .sequencer, .uplink] s t ∧
      t.uplink = s.answered (byte (place + 128)) tag .ok [] ∧ OpenEntered { r with contactor := .opened } n s t ∧
      (∀ m, m ≠ n → t.seq m = s.seq m) ∧ ∀ q, q ≠ pedOf n → t.ped q = s.ped q := by
  obtain ⟨entered, kept⟩ := State.enterOpen_entered (s := s.taken.withSeq n r) fun _ => room
  have keeps := Keeps.enterOpen (M := atConn n) (s.taken.withSeq n r) (touches_atConn n)
    (by rw [State.withSeq_seq]; exact (Locks.isEmpty_iff _).2 free)
  rw [State.withSeq_seq] at entered
  have before := State.withSeq_kept n r s.taken
  have others (m : Conn) (hm : m ≠ n) := State.withSeq_seq_of_ne r s.taken hm
  generalize hv : (s.taken.withSeq n r).enterOpen n = v at owner entered kept keeps
  have all : SameBut [.line, .sequencer] s.taken v := (before.mono (by simp)).trans kept
  obtain ⟨t, run, answer, same⟩ := exec_owned h hp hr owner (all .uplink (by simp))
  exact ⟨t, run, (all.answered same).mono (by simp), answer, entered.congr rfl rfl rfl (same.seq n) same.line,
    fun m hm => (same.seq m).trans ((keeps.seq_of_ne hm).trans (others m hm)),
    fun q hq => (same.ped q).trans (keeps.ped_of_ne hq)⟩

theorem Locks.put_host_false (l : Locks) : l.put false .host = { l with host := false } := rfl

/-- Whether a connector leaves LOCKED with its HOST source (R50). -/
theorem State.removeLock_host (n : Conn) (s : State) :
    let freed := { s.seq n with locks := { (s.seq n).locks with host := false } }
    s.removeLock n .host = if (s.seq n).locks = ⟨true, false⟩ ∧ (s.seq n).contactor = .locked
      then (s.withSeq n freed).enterOpen n else s.withSeq n freed := by
  intro freed
  have test : ((!(s.seq n).locks.isEmpty && ((s.seq n).locks.put false .host).isEmpty &&
      ((s.withSeq n freed).seq n).contactor == .locked) = true) ↔
      ((s.seq n).locks = ⟨true, false⟩ ∧ (s.seq n).contactor = .locked) := by
    rw [State.withSeq_seq, Locks.put_host_false]
    obtain ⟨host, switch⟩ := (s.seq n).locks
    cases host <;> cases switch <;> simp [Locks.isEmpty, freed]
  show (if _ then _ else _) = _
  exact if_congr test rfl rfl

/-- Settles O28. -/
theorem unlockAndClearFaultReturnAConnector : Obligations.UnlockAndClearFaultReturnAConnector := by
  refine ⟨fun s tag b hr hb => ⟨exec_refused .badIndex rfl (by simp) hr (connOperand_out _ _ hb),
    exec_refused .badIndex rfl (by simp) hr (connOperand_out _ _ hb)⟩, fun s n tag hr => ?_, fun s n tag hr => ?_⟩
  · have owner : ownerOf (.unlock tag [byte n.val]) s.taken = (s.taken.removeLock n .host, Reply.bare .ok) :=
      connOperand_index s.taken n ownUnlock
    rw [State.removeLock_host n s.taken] at owner
    refine ⟨fun not => ?_, fun unlocked authorized => ?_, fun unlocked authorized room => ?_⟩
    · rw [if_neg (show ¬ ((s.taken.seq n).locks = ⟨true, false⟩ ∧ (s.taken.seq n).contactor = .locked) from not)]
        at owner
      exact exec_owner_answered rfl (by simp) hr owner rfl
    all_goals rw [if_pos (show (s.taken.seq n).locks = ⟨true, false⟩ ∧ (s.taken.seq n).contactor =
      .locked from unlocked)] at owner
    · rw [State.withSeq_enterOpen (s := s.taken) authorized] at owner
      exact exec_owner_answered rfl (by simp) hr owner rfl
    · refine exec_enterOpen rfl (by simp) hr owner ?_ room
      show ({ (s.seq n).locks with host := false } : Locks) = _
      rw [unlocked.1]
  · have owner : ownerOf (.clearFault tag [byte n.val]) s.taken = ownClearFault n s.taken :=
      connOperand_index s.taken n ownClearFault
    have cleared (faulted : (s.seq n).contactor = .faulted) :
        ownerOf (.clearFault tag [byte n.val]) s.taken = (s.taken.clearFaultAt n, Reply.bare .ok) :=
      owner.trans (if_pos faulted)
    have free (locks : (s.seq n).locks = ⟨false, false⟩) : s.taken.clearFaultAt n =
        (s.taken.withSeq n { s.seq n with fault := none }).enterOpen n := by
      refine if_pos ?_
      show (((s.taken.withSeq n { s.seq n with fault := none }).seq n).locks).isEmpty = true
      rw [State.withSeq_seq]
      exact (Locks.isEmpty_iff _).2 locks
    refine ⟨fun other => ?_, fun faulted locks authorized => ?_, fun faulted locks authorized room => ?_,
      fun faulted locks => ?_⟩
    · exact exec_refused .wrongState rfl (by simp) hr (owner.trans (if_neg other))
    · have owner := cleared faulted
      rw [free locks, State.withSeq_enterOpen (s := s.taken) authorized] at owner
      exact exec_owner_answered rfl (by simp) hr owner rfl
    · have owner := cleared faulted
      rw [free locks] at owner
      exact exec_enterOpen rfl (by simp) hr owner locks room
    · have opens : s.taken.clearFaultAt n =
          ((s.taken.withSeq n { s.seq n with fault := none }).setOpenSlot n).enterOpening n := by
        refine if_neg ?_
        show ¬ (((s.taken.withSeq n { s.seq n with fault := none }).seq n).locks).isEmpty = true
        rw [State.withSeq_seq]
        exact fun e => locks ((Locks.isEmpty_iff _).1 e)
      have owner := cleared faulted
      rw [opens] at owner
      have before := State.withSeq_kept n { s.seq n with fault := none } s.taken
      have others (m : Conn) (hm : m ≠ n) := State.withSeq_seq_of_ne { s.seq n with fault := none } s.taken hm
      obtain ⟨kept, seq, openSet, slots⟩ :=
        State.setOpenSlot_enterOpening n (s.taken.withSeq n { s.seq n with fault := none })
      have keeps : Keeps (atConn n) (s.taken.withSeq n { s.seq n with fault := none }) _ :=
        (Keeps.setOpenSlot _ (touches_atConn n)).trans (Keeps.enterOpening _ (touches_atConn n))
      rw [State.withSeq_seq] at seq
      generalize (((s.taken.withSeq n { s.seq n with fault := none }).setOpenSlot n).enterOpening n) = v
        at owner kept seq openSet slots keeps
      have all : SameBut [.line, .sequencer] s.taken v := (before.mono (by simp)).trans kept
      obtain ⟨t, run, answer, same⟩ := exec_owned rfl (by simp) hr owner (all .uplink (by simp))
      exact ⟨t, run, (all.answered same).mono (by simp), answer, (same.seq n).trans seq, by rw [same.slots, openSet],
        fun m hm => ⟨(same.seq m).trans ((keeps.seq_of_ne hm).trans (others m hm)), (same.slots m).trans (slots m hm)⟩,
        fun q hq => (same.ped q).trans (keeps.ped_of_ne hq)⟩

end Sys2Proof.Machine
end

section
/-! SUPPORT and PROOF. PARK_STOP and PARK_RESUME (R54): what a fold over the connectors leaves of each. -/

namespace Sys2Proof.Machine

/-! ### PARK_RESUME (R54) -/

/-- A pedestal has two connectors. -/
theorem pedOf_two {m m' n : Conn} (h : pedOf m = pedOf n) (h' : pedOf m' = pedOf n) (hm : m ≠ n) : m' = m ∨ m' = n := by
  have e := congrArg Fin.val h
  have e' := congrArg Fin.val h'
  have ne : m.val ≠ n.val := fun x => hm (Fin.ext x)
  simp only [pedOf] at e e'
  rcases Nat.lt_or_ge m'.val n.val with lt | ge
  · exact .inl (Fin.ext (by omega))
  · by_cases x : m'.val = n.val
    · exact .inr (Fin.ext x)
    · exact .inl (Fin.ext (by omega))

theorem State.startsClose_closeCondition (n : Conn) (s : State) : (s.startsClose n).closeCondition n = false := by
  refine Bool.eq_false_iff.2 fun h => ?_
  have opened := (State.closeCondition_iff.1 h).1.1
  rw [State.startsClose_seq, if_pos rfl] at opened
  cases opened

theorem State.startsClose_closeCondition_of_ne {n m : Conn} (s : State) (h : m ≠ n) :
    (s.startsClose n).closeCondition m = s.closeCondition m := by
  obtain ⟨kept, -, -, park⟩ := State.startsClose_kept n s
  have sess : (s.startsClose n).sess m = s.sess m :=
    congrArg (fun x : SessionTable => tget x.entries m) (kept .sessions (by simp))
  rw [Bool.eq_iff_iff, State.closeCondition_iff, State.closeCondition_iff, State.readyToClose, State.readyToClose,
    State.closable_congr (State.startsClose_woken n s _), State.startsClose_seq, if_neg h, sess, park]

/-- Every connector that meets the close condition has room for its CLOSE, beside that of the other connector. -/
def State.Roomy (s : State) : Prop := ∀ n, s.closeCondition n = true → s.roomForClose n ∧
  ((∀ m, pedOf m = pedOf n → s.closeCondition m = true) → (s.ped (pedOf n)).queue.length ≤ 2)

theorem State.startsClose_roomy {n : Conn} {s : State} (h : s.Roomy) (meets : s.closeCondition n = true) :
    (s.startsClose n).Roomy := by
  intro m hm
  have ne : m ≠ n := fun e => by
    subst e
    rw [State.startsClose_closeCondition] at hm
    cases hm
  rw [State.startsClose_closeCondition_of_ne s ne] at hm
  by_cases same : pedOf m = pedOf n
  · have both : ∀ k, pedOf k = pedOf n → s.closeCondition k = true := fun k hk => by
      rcases pedOf_two same hk ne with rfl | rfl
      · exact hm
      · exact meets
    have short := (h n meets).2 both
    refine ⟨⟨?_, ?_⟩, fun all => ?_⟩
    · rw [State.linkOf, same]
      exact (not_congr (State.startsClose_woken n s _).unconfigured).2 (h n meets).1.1
    · rw [same, State.startsClose_queue, List.length_append]
      simp only [List.length_cons, List.length_nil]
      omega
    · have closed := all n same.symm
      rw [State.startsClose_closeCondition] at closed
      cases closed
  · obtain ⟨⟨reach, room⟩, short⟩ := h m hm
    have ped := State.startsClose_ped_of_ne n s same
    refine ⟨⟨by rwa [State.linkOf, ped], by rwa [ped]⟩, fun all => ?_⟩
    rw [ped]
    refine short fun k hk => ?_
    have other : k ≠ n := fun e => same (by rw [← hk, e])
    rw [← State.startsClose_closeCondition_of_ne s other]
    exact all k hk

/-- What the tests of the close condition leave alone. -/
def Tested (s t : State) : Prop := SameBut [.line, .sequencer] s t ∧ t.line.slots = s.line.slots ∧
  t.line.inflight = s.line.inflight ∧ t.sequencer.parkStop = s.sequencer.parkStop

theorem State.testClose_tested {n : Conn} {s t : State} (room : t.Roomy) (h : Tested s t) :
    (t.testClose n).Roomy ∧ Tested s (t.testClose n) := by
  cases meets : t.closeCondition n with
  | false =>
    rw [State.testClose_of_not meets]
    exact ⟨room, h⟩
  | true =>
    rw [State.testClose_closes meets (room n meets).1]
    obtain ⟨kept, slots, inflight, park⟩ := State.startsClose_kept n t
    obtain ⟨kept', slots', inflight', park'⟩ := h
    exact ⟨State.startsClose_roomy room meets, kept'.trans kept, slots.trans slots', inflight.trans inflight',
      park.trans park'⟩

/-- The tests of every connector: each that meets the condition starts its CLOSE, the others stay, and so do the
pedestals where none meets it. -/
theorem State.testAll {s : State} (room : s.Roomy) :
    let t := allConns.foldl (fun s n => s.testClose n) s
    Tested s t ∧ (∀ n, (s.closeCondition n = true → t.seq n = (s.seq n).startClose ∧ t.closeWaits n = true) ∧
      (s.closeCondition n = false → t.seq n = s.seq n)) ∧
    ∀ p, (∀ n, pedOf n = p → s.closeCondition n = false) → t.ped p = s.ped p := by
  intro t
  have start : s.Roomy ∧ Tested s s := ⟨room, SameBut.refl _ _, rfl, rfl, rfl⟩
  obtain ⟨⟨-, tested⟩, each, -⟩ := foldl_each (fun s n => s.testClose n)
    (fun t n => (t.seq n, t.closeWaits n, t.closeCondition n)) (fun t => t.Roomy ∧ Tested s t)
    (fun _ v v' => (v.2.2 = true → v'.1 = v.1.startClose ∧ v'.2.1 = true) ∧ (v.2.2 = false → v'.1 = v.1))
    (fun t n h => State.testClose_tested h.1 h.2)
    (fun t n m h hm => by
      cases meets : t.closeCondition n with
      | false => rw [State.testClose_of_not meets]
      | true =>
        rw [State.testClose_closes meets (h.1 n meets).1, State.startsClose_seq, if_neg hm,
          State.startsClose_closeWaits_of_ne n t hm, State.startsClose_closeCondition_of_ne t hm])
    (fun t n h => by
      cases meets : t.closeCondition n with
      | false =>
        rw [State.testClose_of_not meets]
        exact ⟨nofun, fun _ => rfl⟩
      | true =>
        rw [State.testClose_closes meets (h.1 n meets).1]
        exact ⟨fun _ => ⟨(State.startsClose_seq n t n).trans (if_pos rfl), State.startsClose_closeWaits n t⟩, nofun⟩)
    allConns s start allConns_nodup
  have own (n : Conn) := each n (mem_allConns n)
  dsimp only at own
  refine ⟨tested, own, fun p none_ => ?_⟩
  have kept := List.foldlRecOn
    (motive := fun v : State => v.Roomy ∧ (∀ n, pedOf n = p → v.closeCondition n = false) ∧ v.ped p = s.ped p)
    allConns (fun s n => s.testClose n) ⟨room, none_, rfl⟩ fun u ⟨roomy, idle, same⟩ n _ => by
      cases meets : u.closeCondition n with
      | false =>
        rw [State.testClose_of_not meets]
        exact ⟨roomy, idle, same⟩
      | true =>
        have away : p ≠ pedOf n := fun e => by
          rw [idle n e.symm] at meets
          cases meets
        rw [State.testClose_closes meets (roomy n meets).1]
        refine ⟨State.startsClose_roomy roomy meets, fun m hm => ?_, (State.startsClose_ped_of_ne n u away).trans same⟩
        rw [State.startsClose_closeCondition_of_ne u fun e => away (by rw [← hm, e])]
        exact idle m hm
  exact kept.2.2

/-- Settles O30. -/
theorem parkResumeTestsTheCloseCondition : Obligations.ParkResumeTestsTheCloseCondition := by
  intro s tag hr
  refine ⟨fun free => ?_, fun stopped room => ?_⟩
  · exact exec_answered (.bare .ok) rfl (by simp) hr
      (congrArg (fun u => (u, Reply.bare .ok))
      (if_neg (by rw [show s.taken.sequencer.parkStop = false from free]; decide)))
  · obtain ⟨u, hu⟩ : ∃ u : State, { s.taken with sequencer := { s.taken.sequencer with parkStop := false } } =
      u := ⟨_, rfl⟩
    have line : u.line = s.line := by rw [← hu]; rfl
    have recs : u.sequencer.recs = s.sequencer.recs := by rw [← hu]; rfl
    have sessions : u.sessions = s.sessions := by rw [← hu]; rfl
    have park : u.sequencer.parkStop = false := by rw [← hu]
    have kept : SameBut [.sequencer] s.taken u := by
      intro b hb
      rw [← hu]
      cases b with
      | sequencer => simp at hb
      | _ => rfl
    have owner : ownerOf (.parkResume tag []) s.taken =
      (allConns.foldl (fun s n => s.testClose n) u, Reply.bare .ok) := by
      rw [← hu]
      exact congrArg (fun u => (u, Reply.bare .ok)) (if_pos stopped)
    have meets (n : Conn) : u.closeCondition n = true ↔ s.readyToClose n ∧ (s.sess n).state = .authorized := by
      rw [State.closeCondition_iff, State.readyToClose, State.closable_congr (s := s)
        (by rw [State.ped, State.ped, line]; exact .refl _),
        State.seq, recs, State.sess, sessions, park]
      exact ⟨fun h => ⟨h.1, h.2.1⟩, fun h => ⟨h.1, h.2, rfl⟩⟩
    have roomy : u.Roomy := fun n hn => by
      obtain ⟨there, both⟩ := room n ((meets n).1 hn)
      rw [State.roomForClose, State.linkOf, State.ped, line]
      exact ⟨there, fun all => both fun m hm => (meets m).1 (all m hm)⟩
    obtain ⟨tested, each, peds⟩ := State.testAll roomy
    generalize allConns.foldl (fun s n => s.testClose n) u = v at owner tested each peds
    obtain ⟨kept', slots, inflight, parked⟩ := tested
    have all : SameBut [.line, .sequencer] s.taken v := (kept.mono (by simp)).trans kept'
    obtain ⟨t, run, answer, same⟩ := exec_owned rfl (by simp) hr owner (all .uplink (by simp))
    refine ⟨t, run, (all.answered same).mono (by simp), answer, ?_, ?_, ?_, fun n => ⟨fun hn => ?_, fun hn => ?_⟩,
      fun p hp => ?_⟩
    · rw [same.sequencer, parked, park]
    · rw [same.line, slots, line]
    · rw [same.line, inflight, line]
    · obtain ⟨seq, waits⟩ := (each n).1 ((meets n).2 hn)
      refine ⟨(same.seq n).trans (seq.trans ?_), (same.closeWaits n).trans waits⟩
      rw [State.seq, recs, State.seq]
    · refine (same.seq n).trans (((each n).2 (Bool.eq_false_iff.2 fun h => hn ((meets n).1 h))).trans ?_)
      rw [State.seq, recs, State.seq]
    · refine (same.ped p).trans ((peds p fun n hn => Bool.eq_false_iff.2 fun h => hp n hn ((meets n).1 h)).trans ?_)
      rw [State.ped, line, State.ped]

/-! ### PARK_STOP (R54, R73) -/

/-- What is seen of a connector while a park stop opens it. -/
structure Parked where
  seq : SeqRecord
  waits : Bool
  openSet : Bool
  sess : Session

/-- The view of a connector a park stop is about. -/
def State.parked (s : State) (n : Conn) : Parked := ⟨s.seq n, s.closeWaits n, (s.slots n).openSet, s.sess n⟩

theorem State.parkOpen_kept (n : Conn) (s : State) : SameBut [.line, .sequencer] s (s.parkOpen n) ∧
    (s.parkOpen n).sequencer.parkStop = s.sequencer.parkStop := by
  unfold State.parkOpen
  split
  · refine ⟨fun b hb => ?_, State.openCause_parkStop n s⟩
    cases b with
    | line | sequencer => simp at hb
    | classifier => exact State.openCause_classifier n s
    | auth => exact State.openCause_auth n s
    | sessions => exact State.openCause_sessions n s
    | tariff => exact State.openCause_tariff n s
    | clock => exact State.openCause_clock n s
    | metering => exact State.openCause_metering n s
    | alloc => exact State.openCause_alloc n s
    | settlement => exact State.openCause_settlement n s
    | uplink => exact State.openCause_uplink n s
    | pending => exact State.openCause_pending n s
  · exact ⟨.refl _ _, rfl⟩

/-- What the open cause of a park stop leaves of its connector. -/
theorem State.parkOpen_parked (n : Conn) (s : State) : (s.parkOpen n).parked n =
    if (s.seq n).contactor.live = true
    then ⟨(s.seq n).openCaused (s.closeWaits n), false, true, s.sess n⟩ else s.parked n := by
  unfold State.parkOpen
  by_cases live : (s.seq n).contactor.live = true
  · rw [if_pos live, if_pos live, State.parked, State.openCause_seq, State.openCause_closeWaits live,
      State.openCause_openSet live, State.openCause_sess]
  · rw [if_neg live, if_neg live]

theorem Parked.eq_of {s t : State} {m : Conn} (seq : t.seq m = s.seq m) (waits : t.closeWaits m = s.closeWaits m)
    (openSet : (t.slots m).openSet = (s.slots m).openSet) (sess : t.sess m = s.sess m) : t.parked m = s.parked m := by
  rw [State.parked, seq, waits, openSet, sess, State.parked]

theorem State.parkOpen_parked_of_ne {n m : Conn} (s : State) (h : m ≠ n) : (s.parkOpen n).parked m = s.parked m := by
  unfold State.parkOpen
  split
  · have keeps := Keeps.openCause (M := atConn n) s (touches_atConn n)
    exact Parked.eq_of (keeps.seq_of_ne h) (State.openCause_closeWaits_of_ne s h) (keeps.openSet_of_ne h)
      (keeps.sess_of_ne h)
  · rfl

/-- What a PARK_STOP leaves of a session. -/
def Session.parkStopped (now wait : Nat) (e : Session) : Session :=
  if EndReason.parkStop.stops e.state = true then e.stoppedAt .parkStop (now + wait) else e

theorem EndReason.parkStop_not_ends (k : SessionKind) : ¬ EndReason.parkStop.ends k := nofun

theorem State.stopCause_parkStop_sess (n : Conn) (s : State) :
    (s.stopCause .parkStop n).sess n = (s.sess n).parkStopped s.sec s.sessions.stopWait := by
  unfold Session.parkStopped
  split
  · next h => rw [State.stopCause_stops h, State.beginStop_sess]
  · next h => rw [State.stopCause_none (Bool.not_eq_true _ ▸ h) (EndReason.parkStop_not_ends _)]

theorem State.beginStop_stopWait (why : EndReason) (n : Conn) (s : State) :
    (s.beginStop why n).sessions.stopWait = s.sessions.stopWait := by
  have stopped : (s.stoppedAt why n).sessions.stopWait = s.sessions.stopWait := by
    rw [State.stoppedAt, State.openCause_sessions]
    unfold State.setSess
    dsimp only
    split
    · rw [State.localActivity_sessions]
      rfl
    · rfl
  rcases s.beginStop_cases why n with ⟨-, e⟩ | ⟨-, e⟩
  · rw [e, State.pass_sessions, stopped]
  · rw [e, stopped]

/-- The blocks the stop of a session by a PARK_STOP leaves alone. -/
theorem State.stopCause_parkStop_kept (n : Conn) (s : State) :
    SameBut [.line, .sequencer, .sessions, .alloc] s (s.stopCause .parkStop n) ∧
    (s.stopCause .parkStop n).sessions.stopWait = s.sessions.stopWait ∧
    (s.stopCause .parkStop n).sequencer.parkStop = s.sequencer.parkStop := by
  refine ⟨?_, ?_, State.stopCause_parkStop .parkStop n s⟩
  · by_cases h : EndReason.parkStop.stops (s.sess n).state = true
    · rw [State.stopCause_stops h]
      exact (State.beginStop_kept .parkStop n s).1
    · rw [State.stopCause_none (Bool.not_eq_true _ ▸ h) (EndReason.parkStop_not_ends _)]
      exact .refl _ _
  · by_cases h : EndReason.parkStop.stops (s.sess n).state = true
    · rw [State.stopCause_stops h, State.beginStop_stopWait]
    · rw [State.stopCause_none (Bool.not_eq_true _ ▸ h) (EndReason.parkStop_not_ends _)]

/-- Another open cause does not move a contactor whose open cause has been taken. -/
theorem SeqRecord.openCaused_again {r : SeqRecord} {waits : Bool} (verifying : r.contactor ≠ .verifying)
    (closed : r.contactor ≠ .closed) (closing : r.contactor = .closing → waits = false) :
    (r.openCaused waits).contactor = r.contactor := by
  obtain ⟨contactor, attempt, settle, pending, acked, replies, idle, released, rest, locks, fault⟩ := r
  cases contactor with
  | closing =>
    cases closing rfl
    rfl
  | verifying => exact absurd rfl verifying
  | closed => exact absurd rfl closed
  | opened | opening | faulted | locked => rfl

theorem State.contactorAfterOpen_of_not_live {s : State} {n : Conn} (h : (s.seq n).contactor.live = false) :
    s.contactorAfterOpen n = (s.seq n).contactor := by
  unfold State.contactorAfterOpen
  cases hc : (s.seq n).contactor with
  | closing | verifying | closed => rw [hc] at h; cases h
  | opened | opening | faulted | locked => rfl

theorem State.contactorAfterOpen_ne (s : State) (n : Conn) :
    s.contactorAfterOpen n ≠ .verifying ∧ s.contactorAfterOpen n ≠ .closed := by
  unfold State.contactorAfterOpen
  cases (s.seq n).contactor with
  | closing => cases s.closeWaits n <;> exact ⟨nofun, nofun⟩
  | verifying | closed | opened | opening | faulted | locked => exact ⟨nofun, nofun⟩

theorem State.stopCause_parkStop_parked_of_ne {n m : Conn} (s : State) (h : m ≠ n) :
    (s.stopCause .parkStop n).parked m = s.parked m := by
  by_cases stops : EndReason.parkStop.stops (s.sess n).state = true
  · have keeps := Keeps.stopCause (M := atConn n) .parkStop s (touches_atConn n)
    have waits : (s.stopCause .parkStop n).closeWaits m = s.closeWaits m := by
      have stopped : (s.stoppedAt .parkStop n).closeWaits m = s.closeWaits m := by
        rw [State.stoppedAt_of_not_empty .parkStop n s (EndReason.stops_not_empty stops)]
        exact State.openCause_closeWaits_of_ne _ h
      rw [State.stopCause_stops stops]
      rcases s.beginStop_cases .parkStop n with ⟨-, e⟩ | ⟨-, e⟩
      · rw [e, State.pass_closeWaits, stopped]
      · rw [e, stopped]
    exact Parked.eq_of (keeps.seq_of_ne h) waits (keeps.openSet_of_ne h) (keeps.sess_of_ne h)
  · rw [State.stopCause_none (Bool.not_eq_true _ ▸ stops) (EndReason.parkStop_not_ends _)]

/-- What the stop of a PARK_STOP leaves of its connector. -/
theorem State.stopCause_parkStop_parked (n : Conn) (s : State) :
    let v := s.parked n
    let v' := (s.stopCause .parkStop n).parked n
    v'.seq = (if EndReason.parkStop.stops v.sess.state = true then v.seq.openCaused v.waits else v.seq) ∧
    (v.openSet = true → v'.openSet = true) ∧ v'.sess = v.sess.parkStopped s.sec s.sessions.stopWait := by
  refine ⟨State.stopCause_seq .parkStop n s, fun set => ?_, State.stopCause_parkStop_sess n s⟩
  show ((s.stopCause .parkStop n).slots n).openSet = true
  by_cases live : (s.seq n).contactor.live = true
  · by_cases stops : EndReason.parkStop.stops (s.sess n).state = true
    · exact State.stopCause_openSet stops live
    · rw [State.stopCause_none (Bool.not_eq_true _ ▸ stops) (EndReason.parkStop_not_ends _)]
      exact set
  · rw [State.stopCause_openSet_of_not_live (Bool.not_eq_true _ ▸ live)]
    exact set

/-- The withdrawal of every connector of a list takes their entries from the held list. -/
theorem State.withdrawAll_held (l : List Conn) (s : State) :
    (l.foldl (fun s n => s.withdraw n) s).auth.held = s.auth.held.filter fun h => !l.contains h.conn := by
  induction l generalizing s with
  | nil => simp
  | cons n l ih =>
    rw [List.foldl_cons, ih, State.withdraw_auth_held, List.filter_filter]
    refine List.filter_congr fun h _ => ?_
    rw [List.contains_cons, Bool.not_or, Bool.and_comm]
    rfl

/-- What is seen of a connector while held queries are withdrawn. -/
def State.queried (s : State) (n : Conn) : Session × Option Decision × Option HeldEntry := (s.sess n, s.decision n,
    s.heldOf n)

theorem State.withdraw_heldOf_of_ne {n m : Conn} (s : State) (h : m ≠ n) : (s.withdraw n).heldOf m = s.heldOf m := by
  rw [State.heldOf, State.withdraw_auth_held, List.find?_filter, State.heldOf]
  refine congrArg (fun p => s.auth.held.find? p) (funext fun x => ?_)
  by_cases e : x.conn = m
  · simp [e, h]
  · simp [e]

/-- What the withdrawal of held queries leaves. -/
theorem State.withdrawAll (l : List Conn) (s : State) (nodup : l.Nodup) :
    let t := l.foldl (fun s n => s.withdraw n) s
    SameBut [.auth, .sessions] s t ∧
    (∀ n ∈ l, t.sess n = Session.initial ∧ ∀ h, s.heldOf n = some h → t.decision n = some ⟨.withdrawn h.tag, s.sec⟩) ∧
    ∀ n, n ∉ l → t.sess n = s.sess n := by
  obtain ⟨kept, mine, others⟩ := foldl_each (fun s n => s.withdraw n) State.queried (SameBut [.auth, .sessions] s)
    (fun _ v v' => v'.1 = Session.initial ∧ ∀ h, v.2.2 = some h → v'.2.1 = some ⟨.withdrawn h.tag, s.sec⟩)
    (fun t n h => h.trans (State.withdraw_kept n t))
    (fun t n m _ hm => by
      rw [State.queried, State.withdraw_sess, if_neg hm, State.withdraw_decision_of_ne t hm,
        State.withdraw_heldOf_of_ne t hm,
        State.queried])
    (fun t n h => ⟨(State.withdraw_sess n n t).trans (if_pos rfl), fun x hx => by
      have clock : t.clock = s.clock := h .clock (by simp)
      rw [State.sec, ← clock]
      exact State.withdraw_decision hx⟩)
    l s (SameBut.refl _ _) nodup
  exact ⟨kept, mine, fun n hn => congrArg Prod.fst (others n hn)⟩

theorem State.HeldSound.heldOf_eq {s : State} (h : s.HeldSound) {x : HeldEntry} (hx : x ∈ s.auth.held) :
    s.heldOf x.conn = some x := by
  cases found : s.heldOf x.conn with
  | none => exact absurd (List.find?_eq_none.1 found x hx) (by simp)
  | some y =>
    obtain ⟨mem, conn⟩ := State.heldOf_mem found
    exact congrArg some (List.inj_on_of_nodup_map h.1 mem hx conn)

/-- What the beginning of a park stop leaves (R54, R73). -/
theorem State.beginParkStop_facts (s : State) (sound : s.HeldSound) :
    let t := s.beginParkStop
    SameBut [.line, .sequencer, .auth, .sessions, .alloc] s t ∧ t.sequencer.parkStop = true ∧ t.auth.held = [] ∧
    ∀ n, (t.seq n).contactor = s.contactorAfterOpen n ∧ (t.seq n).locks = (s.seq n).locks ∧
      ((s.seq n).contactor.live = true → (t.slots n).openSet = true) ∧
      (n ∈ s.auth.held.map (·.conn) → t.sess n = Session.initial) ∧
      (n ∉ s.auth.held.map (·.conn) → t.sess n = (s.sess n).parkStopped s.sec s.sessions.stopWait) ∧
      ∀ h ∈ s.auth.held, h.conn = n → t.decision n = some ⟨.withdrawn h.tag, s.sec⟩ := by
  unfold State.beginParkStop
  dsimp only
  obtain ⟨a, ha⟩ : ∃ a : State, { s with sequencer := { s.sequencer with parkStop := true } } = a := ⟨_, rfl⟩
  have aKept : SameBut [.sequencer] s a := by
    intro b hb
    rw [← ha]
    cases b with
    | sequencer => simp at hb
    | _ => rfl
  have aPark : a.sequencer.parkStop = true := by rw [← ha]
  have aParked (n : Conn) : a.parked n = s.parked n := by rw [← ha]; rfl
  rw [ha]
  obtain ⟨⟨bKept, bPark⟩, bOwn, -⟩ := foldl_each State.parkOpen State.parked
    (fun t => SameBut [.line, .sequencer] a t ∧ t.sequencer.parkStop = true)
    (fun _ v v' => v' = if v.seq.contactor.live = true then ⟨v.seq.openCaused v.waits, false, true, v.sess⟩ else v)
    (fun t n h => ⟨h.1.trans (State.parkOpen_kept n t).1, (State.parkOpen_kept n t).2.trans h.2⟩)
    (fun t n m _ hm => State.parkOpen_parked_of_ne t hm)
    (fun t n _ => State.parkOpen_parked n t) allConns a ⟨SameBut.refl _ _, aPark⟩ allConns_nodup
  generalize allConns.foldl State.parkOpen a = b at bKept bPark bOwn
  have bSec : b.sec = s.sec := by
    rw [State.sec, bKept .clock (by simp), aKept .clock (by simp), State.sec]
  have bWait : b.sessions.stopWait = s.sessions.stopWait := by
    rw [bKept .sessions (by simp), aKept .sessions (by simp)]
  obtain ⟨⟨cKept, -, -, cPark⟩, cOwn, -⟩ := foldl_each (fun t n => t.stopCause .parkStop n) State.parked
    (fun t => SameBut [.line, .sequencer, .sessions, .alloc] b t ∧ t.sec = s.sec ∧
      t.sessions.stopWait = s.sessions.stopWait ∧ t.sequencer.parkStop = true)
    (fun _ v v' => v'.seq = (if EndReason.parkStop.stops v.sess.state = true then v.seq.openCaused v.waits else v.seq) ∧
      (v.openSet = true → v'.openSet = true) ∧ v'.sess = v.sess.parkStopped s.sec s.sessions.stopWait)
    (fun t n h => by
      obtain ⟨kept, sec, wait, park⟩ := h
      obtain ⟨kept', wait', park'⟩ := State.stopCause_parkStop_kept n t
      refine ⟨kept.trans kept', ?_, wait'.trans wait, park'.trans park⟩
      rw [State.sec, kept' .clock (by simp), ← State.sec, sec])
    (fun t n m _ hm => State.stopCause_parkStop_parked_of_ne t hm)
    (fun t n h => by
      obtain ⟨-, sec, wait, -⟩ := h
      rw [← sec, ← wait]
      exact State.stopCause_parkStop_parked n t) allConns b ⟨SameBut.refl _ _, bSec, bWait, bPark⟩ allConns_nodup
  generalize allConns.foldl (fun t n => t.stopCause .parkStop n) b = c at cKept cPark cOwn
  have cAuth : c.auth = s.auth := by rw [cKept .auth (by simp), bKept .auth (by simp), aKept .auth (by simp)]
  have cSec : c.sec = s.sec := by rw [State.sec, cKept .clock (by simp), ← State.sec, bSec]
  have upTo : SameBut [.line, .sequencer, .auth, .sessions, .alloc] s c :=
    (aKept.mono (by simp)).trans ((bKept.mono (by simp)).trans (cKept.mono (by simp)))
  have heldGone := State.withdrawAll_held (c.auth.held.map (·.conn)) c
  obtain ⟨dKept, dMine, dOther⟩ := State.withdrawAll (c.auth.held.map (·.conn)) c (by rw [cAuth]; exact sound.1)
  generalize (c.auth.held.map (·.conn)).foldl (fun s n => s.withdraw n) c = d at heldGone dKept dMine dOther
  have line : d.line = c.line := dKept .line (by simp)
  have sequencer : d.sequencer = c.sequencer := dKept .sequencer (by simp)
  refine ⟨upTo.trans (dKept.mono (by simp)), by rw [sequencer, cPark], ?_, fun n => ?_⟩
  · rw [heldGone, List.filter_eq_nil_iff]
    intro h hh
    simp only [Bool.not_eq_true', Bool.not_eq_false, List.contains_iff_mem]
    exact List.mem_map_of_mem hh
  have opened := bOwn n (mem_allConns n)
  obtain ⟨stopSeq, stopSet, stopSess⟩ := cOwn n (mem_allConns n)
  rw [aParked n] at opened
  have caused : (b.parked n).seq.contactor = s.contactorAfterOpen n ∧ (b.parked n).seq.locks = (s.seq n).locks ∧
      ((s.seq n).contactor.live = true → (b.parked n).openSet = true) ∧ (b.parked n).sess = s.sess n ∧
      ((b.parked n).seq.contactor = .closing → (b.parked n).waits = false) := by
    by_cases live : (s.seq n).contactor.live = true
    · rw [opened, if_pos (show (s.parked n).seq.contactor.live = true from live)]
      exact ⟨s.openCaused_contactor n, ((s.seq n).openCaused_kept _).1, fun _ => rfl, rfl, fun _ => rfl⟩
    · rw [opened, if_neg (show ¬ (s.parked n).seq.contactor.live = true from live)]
      refine ⟨(State.contactorAfterOpen_of_not_live (Bool.not_eq_true _ ▸ live)).symm, rfl, fun h => absurd h live,
        rfl, fun h => ?_⟩
      exact absurd (by rw [show (s.seq n).contactor = .closing from h]; rfl) live
  obtain ⟨contactor, locks, openSet, sess, waits⟩ := caused
  have again : ((b.parked n).seq.openCaused (b.parked n).waits).contactor = (b.parked n).seq.contactor := by
    obtain ⟨verifying, closed⟩ := s.contactorAfterOpen_ne n
    exact SeqRecord.openCaused_again (by rwa [contactor]) (by rwa [contactor]) waits
  have seq : d.seq n = (c.parked n).seq := by rw [State.seq, sequencer]; rfl
  refine ⟨?_, ?_, fun live => ?_, fun hn => ?_, fun hn => ?_, fun h hh hc => ?_⟩
  · rw [seq, stopSeq, ← contactor]
    split
    · exact again
    · rfl
  · rw [seq, stopSeq, ← locks]
    split
    · exact ((b.parked n).seq.openCaused_kept _).1
    · rfl
  · rw [State.slots, line]
    exact stopSet (openSet live)
  · rw [cAuth] at dMine
    exact (dMine n hn).1
  · rw [cAuth] at dOther
    rw [dOther n hn, ← sess]
    exact stopSess
  · rw [cAuth] at dMine
    subst hc
    have held : c.heldOf h.conn = some h := by
      rw [State.heldOf, cAuth]
      exact sound.heldOf_eq hh
    rw [← cSec]
    exact (dMine h.conn (List.mem_map_of_mem hh)).2 h held

theorem StopTaken.of_parkStopped {n : Conn} {now : Nat} {s t : State}
    (h : t.sess n = (s.sess n).parkStopped now s.sessions.stopWait) : StopTaken .parkStop n now s t := by
  unfold Session.parkStopped at h
  unfold StopTaken
  cases hk : (s.sess n).state with
  | charging | complete => rw [hk] at h; exact h
  | empty | awaitingAuth | authorized | stopping | closed => rw [hk] at h; exact h

/-- Settles O29. -/
theorem parkStopStopsThePark : Obligations.ParkStopStopsThePark := by
  intro s tag hr sound
  refine ⟨fun stopped => ?_, fun free => ?_⟩
  · exact exec_answered (.bare .ok) rfl (by simp) hr
      (congrArg (fun u => (u, Reply.bare .ok)) (if_pos stopped))
  · have owner : ownerOf (.parkStop tag []) s.taken = (s.taken.beginParkStop, Reply.bare .ok) :=
      congrArg (fun u => (u, Reply.bare .ok))
        (if_neg (by rw [show s.taken.sequencer.parkStop = false from free]; decide))
    obtain ⟨kept, park, held, each⟩ := s.taken.beginParkStop_facts sound
    generalize s.taken.beginParkStop = u at owner kept park held each
    obtain ⟨t, run, answer, same⟩ := exec_owned rfl (by simp) hr owner (kept .uplink (by simp))
    refine ⟨t, run, (kept.answered same).mono (by simp), answer, by rw [same.sequencer, park], by rw [same.auth, held],
      fun n => ?_⟩
    obtain ⟨contactor, locks, openSet, withdrawn, stays, decision⟩ := each n
    refine ⟨?_, ?_, fun live => ?_, fun ⟨h, hh, hc⟩ => ?_, fun none_ => ?_, fun h hh hc => (same.decision n).trans
      (decision h hh hc)⟩
    · rw [same.seq, contactor]
      rfl
    · rw [same.seq, locks]
      rfl
    · rw [same.slots]
      exact openSet live
    · exact (same.sess n).trans (withdrawn (List.mem_map.2 ⟨h, hh, hc⟩))
    · have sess := (same.sess n).trans (stays fun x => by
        obtain ⟨h, hh, hc⟩ := List.mem_map.1 x
        exact none_ h hh hc)
      exact StopTaken.of_parkStopped sess

end Sys2Proof.Machine
end

section
/-! SUPPORT and PROOF. The token table and the watch bitmap (R77): token fields and table entries read back as
written. -/

namespace Sys2Proof.Machine

/-! ### Token fields (R59, R184) -/

/-- The kind byte of a token field (11). -/
def TokenKind.byteOf : TokenKind → Byte
  | .card => 1
  | .payment => 2

theorem tokenKindByte_byteOf (k : TokenKind) : tokenKindByte k.byteOf = some k := by cases k <;> rfl

theorem tokenKindByte_some {b : Byte} {k : TokenKind} (h : tokenKindByte b = some k) : b = k.byteOf := by
  unfold tokenKindByte at h
  split at h
  · next e => cases h; exact e
  · split at h
    · next e => cases h; exact e
    · cases h

theorem idLengthOk_iff {k : Nat} : idLengthOk k = true ↔ k = 4 ∨ k = 7 ∨ k = 10 := by
  simp only [idLengthOk, Bool.or_eq_true, beq_iff_eq, or_assoc]

theorem tokenBytes_some (t : Token) : tokenBytes (some t) =
    t.kind.byteOf :: byte t.id.length :: (t.id ++ List.replicate (10 - t.id.length) 0) := by
  obtain ⟨kind, id⟩ := t
  cases kind <;> rfl

theorem Token.fits.length_le {t : Token} (h : t.fits) : t.id.length ≤ 10 := by
  rcases h with h | h | h <;> omega

/-- A token field reads back as the token it was written for. -/
theorem makeToken_written {t : Token} (h : t.fits) :
    makeToken t.kind.byteOf (byte t.id.length) (t.id ++ List.replicate (10 - t.id.length) 0) = some t := by
  have long : (byte t.id.length).toNat = t.id.length := byte_toNat_of_lt (by have := h.length_le; omega)
  have ok : (idLengthOk t.id.length && ((t.id ++ List.replicate (10 - t.id.length) 0).drop t.id.length).all (· == 0)) =
    true := by
    rw [List.drop_left, Bool.and_eq_true]
    exact ⟨idLengthOk_iff.2 h, by simp⟩
  rw [makeToken, tokenKindByte_byteOf]
  dsimp only
  rw [long, if_pos ok, List.take_left]

/-- A field that reads as a token is the field of that token. -/
theorem makeToken_some {kind len : Byte} {id : Frame} {t : Token} (hid : id.length = 10)
    (h : makeToken kind len id = some t) : t.fits ∧ tokenBytes (some t) = kind :: len :: id := by
  unfold makeToken at h
  split at h
  · cases h
  · next k hk =>
    split at h
    · next ok =>
      cases h
      obtain ⟨length, rest⟩ := Bool.and_eq_true_iff.1 ok
      have short : len.toNat ≤ 10 := by rcases idLengthOk_iff.1 length with h | h | h <;> omega
      have taken : (id.take len.toNat).length = len.toNat := by rw [List.length_take, hid, min_eq_left short]
      have zeros : id.drop len.toNat = List.replicate (10 - len.toNat) 0 := by
        refine List.eq_replicate_iff.2 ⟨by rw [List.length_drop, hid], fun b hb => ?_⟩
        simpa using List.all_eq_true.1 rest b hb
      refine ⟨?_, ?_⟩
      · show (id.take len.toNat).length = 4 ∨ _
        rw [taken]
        exact idLengthOk_iff.1 length
      · rw [tokenBytes_some]
        dsimp only
        rw [taken, ← zeros, List.take_append_drop, ← tokenKindByte_some hk]
        exact congrArg (fun b => kind :: b :: id) (BitVec.eq_of_toNat_eq (byte_toNat_of_lt (by omega)))
    · cases h

theorem makeToken_none {kind len : Byte} {id : Frame} (hid : id.length = 10)
    (h : ∀ k : Token, k.fits → tokenBytes (some k) ≠ kind :: len :: id) : makeToken kind len id = none := by
  cases made : makeToken kind len id with
  | none => rfl
  | some t => exact absurd (makeToken_some hid made).2 (h t (makeToken_some hid made).1)

/-! ### Table entries (11.4) -/

theorem boolByte_flagByte (b : Bool) : boolByte (flagByte b) = some b := by cases b <;> rfl

theorem boolByte_none {b : Byte} (h : 2 ≤ b.toNat) : boolByte b = none := by
  have h0 : b ≠ 0 := fun e => by rw [e] at h; exact absurd h (by decide)
  have h1 : b ≠ 1 := fun e => by rw [e] at h; exact absurd h (by decide)
  rw [boolByte, if_neg h0, if_neg h1]

/-- The byte of a plan slot or of its absence (R184). -/
def optSlotOf : Option PlanSlot → Byte
  | some s => byte s
  | none => 255

theorem optSlotByte_optSlotOf (o : Option PlanSlot) : optSlotByte (optSlotOf o) = some o := by
  cases o with
  | none => rfl
  | some k =>
    have number : (byte k.val).toNat = k.val := byte_toNat_of_lt (by omega)
    have given : byte k.val ≠ 255 := fun e => by
      have := congrArg BitVec.toNat e
      rw [number] at this
      have : k.val = 255 := this
      omega
    rw [optSlotByte, optSlotOf, if_neg given, indexByte_of_toNat number]
    rfl

theorem optSlotByte_none {b : Byte} (h : 16 ≤ b.toNat) (given : b ≠ 255) : optSlotByte b = none := by
  rw [optSlotByte, if_neg given, indexByte_of_le h]
  rfl

theorem entryBytes_some (e : TokenEntry) : entryBytes (some e) =
    1 :: e.token.kind.byteOf :: byte e.token.id.length ::
      ((e.token.id ++ List.replicate (10 - e.token.id.length) 0) ++
        (flagByte e.blocked :: byte e.cls :: (be 4 e.limit ++ [optSlotOf e.override]))) := by
  have bytes := tokenBytes_some e.token
  obtain ⟨token, blocked, cls, limit, override⟩ := e
  cases override <;> simp [entryBytes, bytes, optSlotOf]

/-- An entry field is read as its token, its status, its class, its limit and its override, each of good form. -/
theorem parseEntry_present {id : Frame} (kind len status cls l0 l1 l2 l3 ovr : Byte) (hid : id.length = 10) :
    parseEntry (1 :: kind :: len :: (id ++ [status, cls, l0, l1, l2, l3, ovr])) =
      (makeToken kind len id).bind fun token => (boolByte status).bind fun blocked => (indexByte 4 cls).bind fun cls =>
        (optSlotByte ovr).map fun override => some ⟨token, blocked, cls, num [l0, l1, l2, l3], override⟩ := by
  have present : ¬ (1 : Byte) = 0 := by decide
  rw [parseEntry, if_neg present, if_pos rfl, List.take_left' hid, List.drop_left' hid]
  cases makeToken kind len id with
  | none => rfl
  | some token =>
    dsimp only [Option.bind_some]
    cases boolByte status with
    | none => rfl
    | some blocked =>
      cases indexByte 4 cls with
      | none => rfl
      | some cls => cases optSlotByte ovr <;> rfl

/-- A table entry reads back as written. -/
theorem parseEntry_entryBytes {e : Option TokenEntry}
    (h : ∀ x, e = some x → x.token.fits ∧ x.limit < 4294967296) : parseEntry (entryBytes e) = some e := by
  cases e with
  | none => rfl
  | some e =>
    obtain ⟨fits, limit⟩ := h e rfl
    have long : (e.token.id ++ List.replicate (10 - e.token.id.length) (0 : Byte)).length = 10 := by
      have := fits.length_le
      simp; omega
    have cls : indexByte 4 (byte e.cls.val) = some e.cls := indexByte_of_toNat (byte_toNat_of_lt (by omega))
    have number : num (be 4 e.limit) = e.limit := num_be_of_lt limit
    rw [entryBytes_some]
    refine (parseEntry_present _ _ _ _ _ _ _ _ _ long).trans ?_
    rw [makeToken_written fits, boolByte_flagByte, cls, optSlotByte_optSlotOf]
    exact congrArg (fun l => some (some (⟨e.token, e.blocked, e.cls, l, e.override⟩ : TokenEntry))) number

/-- An entry out of form. -/
theorem parseEntry_malformed {flag status cls b3 b2 b1 b0 plan : Byte} {token : Frame} (ht : token.length = 12)
    (bad : 2 ≤ flag.toNat ∨ (flag = 1 ∧ (2 ≤ status.toNat ∨ 4 ≤ cls.toNat ∨ (16 ≤ plan.toNat ∧ plan ≠ 255) ∨
      ∀ k : Token, k.fits → tokenBytes (some k) ≠ token))) :
    parseEntry (flag :: (token ++ [status, cls, b3, b2, b1, b0, plan])) = none := by
  match token, ht with
  | kind :: len :: id, ht =>
    rcases bad with bad | ⟨rfl, bad⟩
    · have h0 : flag ≠ 0 := fun e => by rw [e] at bad; exact absurd bad (by decide)
      have h1 : flag ≠ 1 := fun e => by rw [e] at bad; exact absurd bad (by decide)
      exact (if_neg h0).trans (if_neg h1)
    · have hid : id.length = 10 := by simpa using ht
      refine (parseEntry_present _ _ _ _ _ _ _ _ _ hid).trans ?_
      rcases bad with bad | bad | ⟨bad, given⟩ | bad
      · rw [boolByte_none bad]
        simp
      · rw [indexByte_of_le bad]
        simp
      · rw [optSlotByte_none bad given]
        simp
      · rw [makeToken_none hid bad]
        rfl

/-! ### LOAD_TOKENS, LOAD_WATCH and CLEAR_TOKENS (R77) -/

/-- Entries are written from their first index to the end of the table. -/
theorem writeEntries_facts (es : List (Option TokenEntry)) (first : Nat) (t : Table (Option TokenEntry) 512) :
    (writeEntries es first t).2 = es.length - (512 - first) ∧
    ∀ i : Fin 512, tget (writeEntries es first t).1 i =
      if first ≤ i.val then (es[i.val - first]?).getD (tget t i) else tget t i := by
  induction es generalizing first t with
  | nil => exact ⟨by simp [writeEntries], fun i => by simp [writeEntries]⟩
  | cons e es ih =>
    rw [writeEntries]
    by_cases h : first < 512
    · rw [dif_pos h]
      obtain ⟨left, at_⟩ := ih (first + 1) (tset t ⟨first, h⟩ e)
      refine ⟨by rw [left, List.length_cons]; omega, fun i => ?_⟩
      rw [at_]
      rcases Nat.lt_trichotomy i.val first with lt | eq | gt
      · rw [if_neg (by omega), if_neg (by omega),
          tget_tset_of_ne _ _ _ _ fun x => by rw [x] at lt; exact absurd lt (lt_irrefl _)]
      · obtain rfl : i = ⟨first, h⟩ := Fin.ext eq
        rw [if_neg (by simp), if_pos (le_refl _), tget_tset_same]
        simp
      · rw [if_pos (by omega), if_pos (by omega),
          tget_tset_of_ne _ _ _ _ fun x => by rw [x] at gt; exact absurd gt (lt_irrefl _),
          show i.val - first = i.val - (first + 1) + 1 by omega, List.getElem?_cons_succ]
    · rw [dif_neg h]
      refine ⟨by simp only [List.length_cons]; omega, fun i => (if_neg (by omega)).symm⟩

theorem chunks_cons {k : Nat} {x : Frame} (c : Nat) (rest : Frame) (h : x.length = k) :
    chunks k (c + 1) (x ++ rest) = x :: chunks k c rest := by
  rw [chunks, List.take_left' h, List.drop_left' h]

/-- Settles O32. -/
theorem tokenTableAndWatchAreWritten : Obligations.TokenTableAndWatchAreWritten := by
  refine ⟨fun s tag first es hr hfirst h1 h8 form => ?_,
    fun s tag i1 i0 count flag status cls b3 b2 b1 b0 plan before token rest hr h1 h8 ht hb hl bad => ?_,
    fun s tag hr => ⟨fun k bits hbits => ?_, fun b bits hbits hb => ?_, ?_⟩⟩
  · have width : ∀ e ∈ es, (entryBytes e).length = 20 := fun e he => entryBytes_length fun x hx => by
      subst hx
      exact (form x he).1
    have total : (es.flatMap entryBytes).length = 20 * es.length := by
      rw [List.length_flatMap, List.map_congr_left width, List.map_const', List.sum_replicate, smul_eq_mul,
        Nat.mul_comm]
    have count : (byte es.length).toNat = es.length := byte_toNat_of_lt (by omega)
    have parsed : (chunks 20 es.length (es.flatMap entryBytes)).mapM parseEntry = some es := by
      rw [chunks_flatMap width]
      exact mapM_eq_some fun e he => parseEntry_entryBytes fun x hx => form x (hx ▸ he)
    have index : num (be 2 first) = first := num_be_of_lt hfirst
    obtain ⟨left, entries⟩ := writeEntries_facts es first s.auth.tokens
    have owner : ownerOf (.loadTokens tag (be 2 first ++ [byte es.length] ++ es.flatMap entryBytes)) s.taken =
        s.taken.loadEntries first es := by
      show ownLoadTokens (byte (first / 256 ^ 1) :: byte (first / 256 ^ 0) :: byte es.length :: es.flatMap entryBytes)
        s.taken = _
      simp only [ownLoadTokens, count, h1, h8, total, parsed, and_self, if_true]
      rw [show num [byte (first / 256 ^ 1), byte (first / 256 ^ 0)] = first from index]
    have short : (be 2 first ++ [byte es.length] ++ es.flatMap entryBytes).length ≤ 250 := by
      rw [List.length_append, total, List.length_append, be_length, List.length_singleton]
      omega
    refine ⟨_, exec_owner_answered rfl short hr owner rfl, ?_, rfl, fun i => entries i, ?_⟩
    · intro b hb
      cases b with
      | auth | uplink => simp at hb
      | _ => rfl
    · show s.answered 146 tag (if (writeEntries es first s.auth.tokens).2 = 0 then .ok else .badIndex)
        [byte (es.length - (writeEntries es first s.auth.tokens).2)] = _
      rw [left]
      refine congrArg₂ (fun c n => s.answered 146 tag c [byte n]) (if_congr ?_ rfl rfl) ?_
      · omega
      · omega
  · have parse := parseEntry_malformed (b3 := b3) (b2 := b2) (b1 := b1) (b0 := b0) ht bad
    obtain ⟨a, ha⟩ : ∃ a, before.length = 20 * a := ⟨before.length / 20, by omega⟩
    have total : (before ++ (flag :: token) ++ [status, cls, b3, b2, b1, b0, plan] ++ rest).length =
      20 * count.toNat := by
      simp only [List.length_append, List.length_cons, List.length_nil]
      omega
    have parts : chunks 20 count.toNat (before ++ (flag :: token) ++ [status, cls, b3, b2, b1, b0, plan] ++ rest) =
        chunks 20 a before ++ (flag :: (token ++ [status, cls, b3, b2, b1, b0, plan])) ::
          chunks 20 (count.toNat - a - 1) rest := by
      have entry : (flag :: (token ++ [status, cls, b3, b2, b1, b0, plan])).length = 20 := by
        simp only [List.length_append, List.length_cons, List.length_nil]
        omega
      obtain ⟨c, hc⟩ : ∃ c, count.toNat = a + (c + 1) := ⟨count.toNat - a - 1, by omega⟩
      rw [hc, List.append_assoc, List.append_assoc, chunks_append _ _ ha, show a + (c + 1) - a - 1 = c by omega,
        ← chunks_cons c rest entry]
      simp
    have owner : ownerOf (.loadTokens tag
        ([i1, i0, count] ++ before ++ (flag :: token) ++ [status, cls, b3, b2, b1, b0, plan] ++ rest)) s.taken =
        refuseWith .badRequest s.taken := by
      show ownLoadTokens
        (i1 :: i0 :: count :: (before ++ (flag :: token) ++ [status, cls, b3, b2, b1, b0, plan] ++ rest))
        s.taken = _
      simp only [ownLoadTokens, h1, h8, total, and_self, if_true]
      rw [parts, mapM_eq_none (x := flag :: (token ++ [status, cls, b3, b2, b1, b0, plan])) (by simp) parse]
    refine exec_refused .badRequest rfl ?_ hr owner
    simp only [List.length_append, List.length_cons, List.length_nil] at total ⊢
    omega
  · refine ⟨segmentOf bits, fun j => ?_, ?_⟩
    · exact (BitVec.getLsbD_ofFnLE _ _).trans (dif_pos j.isLt)
    · have owner : ownerOf (.loadWatch tag (byte k.val :: bits)) s.taken = ({ s.taken with
          auth := { s.taken.auth with watch := tset s.taken.auth.watch k (segmentOf bits) } }, Reply.bare .ok) := by
        show ownLoadWatch (byte k.val :: bits) s.taken = _
        simp only [ownLoadWatch, hbits, if_true, indexByte_of_toNat (byte_toNat_of_lt (by omega : k.val < 256))]
      exact exec_owner_answered rfl (by simp [hbits]) hr owner rfl
  · refine exec_refused .badIndex rfl (by simp [hbits]) hr ?_
    show ownLoadWatch (b :: bits) s.taken = _
    simp only [ownLoadWatch, hbits, if_true, indexByte_of_le hb]
  · have owner : ownerOf (.clearTokens tag []) s.taken =
        ({ s.taken with auth := { s.taken.auth with tokens := Vector.replicate 512 none } }, Reply.bare .ok) := rfl
    exact exec_owner_answered rfl (by simp) hr owner rfl

end Sys2Proof.Machine
end

section
/-! SUPPORT. What ends a decision on a token: an acceptance (R68, R83), a refusal (R69), the offline rule (R66). -/

namespace Sys2Proof.Machine

/-! ### Refusals (R69) -/

theorem State.offerDisplay_of (n : Conn) (k : DisplayKind) (s : State) : s.offerDisplay n k =
    if s.linkOf n ≠ .unconfigured ∧ (s.ped (pedOf n)).queue.length < 4
    then s.enqueue (pedOf n) ⟨.display (some (letterOf n)) k [], .authorization⟩ else s := by
  rw [State.offerDisplay]
  exact if_congr State.queueTakes_iff rfl rfl

theorem State.setSess_initial (n : Conn) (s : State) : s.setSess n Session.initial = s.withSess n Session.initial :=
  State.setSess_to_empty n _ s rfl

/-- The DISPLAY of a refusal (R35, R69). -/
def refusalEntry (n : Conn) (why : RefuseReason) : QueueEntry :=
  ⟨.display (some (letterOf n)) (if why = .busy then .tryAgain else .refused) [], .authorization⟩

/-- The state a refusal leaves. -/
def State.refusedAt (s : State) (n : Conn) (why : RefuseReason) (held : Bool) : State :=
  { s with
    line := if s.linkOf n ≠ .unconfigured ∧ (s.ped (pedOf n)).queue.length < 4
      then (s.enqueue (pedOf n) (refusalEntry n why)).line
      else s.line
    auth := { s.auth with decisions := tset s.auth.decisions n (some ⟨.refused why, s.sec⟩) }
    sessions := if held then { s.sessions with entries := tset s.sessions.entries n Session.initial } else s.sessions }

theorem State.refuse_eq (n : Conn) (why : RefuseReason) (held : Bool) (s : State) :
    s.refuse n why held = s.refusedAt n why held := by
  have display (k : DisplayKind) (u : State) := u.offerDisplay_of n k
  unfold State.refuse State.refusedAt
  dsimp only
  rw [State.setSess_initial, display]
  by_cases room : s.linkOf n ≠ .unconfigured ∧ (s.ped (pedOf n)).queue.length < 4
  · rw [if_pos room]
    cases held <;> exact (if_pos room).trans rfl
  · rw [if_neg room]
    cases held <;> exact (if_neg room).trans rfl

theorem State.refusedAt_refused (s : State) (n : Conn) (why : RefuseReason) (held : Bool) :
    Refused n why s (s.refusedAt n why held) := by
  have line : (s.refusedAt n why held).ped (pedOf n) = tget (if s.linkOf n ≠ .unconfigured ∧
      (s.ped (pedOf n)).queue.length < 4 then (s.enqueue (pedOf n) (refusalEntry n why)).line else s.line).peds
      (pedOf n) := rfl
  refine ⟨tget_tset_same _ _ _, line.trans ?_, rfl⟩
  split
  · exact (State.enqueue_ped (pedOf n) (pedOf n) _ s).trans (if_pos rfl)
  · rfl

theorem State.refusedAt_kept (s : State) (n : Conn) (why : RefuseReason) (held : Bool) :
    SameBut [.line, .auth, .sessions] s (s.refusedAt n why held) ∧
    (held = false → SameBut [.line, .auth] s (s.refusedAt n why held)) := by
  constructor
  · intro b hb
    cases b with
    | line | auth | sessions => simp at hb
    | _ => rfl
  · rintro rfl b hb
    cases b with
    | line | auth => simp at hb
    | _ => rfl

theorem State.refusedAt_sess (s : State) (n m : Conn) (why : RefuseReason) (held : Bool) :
    (s.refusedAt n why held).sess m = if held = true ∧ m = n then Session.initial else s.sess m := by
  cases held with
  | false => rfl
  | true =>
    rw [if_congr (and_iff_right rfl) rfl rfl]
    exact tget_tset s.sessions.entries n m Session.initial

/-- What a decision records depends on the line, the decisions, the sequencer and the second count alone. -/
theorem Refused.congr {n : Conn} {why : RefuseReason} {s s' t t' : State} (h : Refused n why s t)
    (line : s'.line = s.line) (seq : s'.sequencer = s.sequencer) (line' : t'.line = t.line) (auth : t'.auth = t.auth)
    (seq' : t'.sequencer = t.sequencer) (clock : t'.clock = t.clock) : Refused n why s' t' := by
  obtain ⟨decision, ped, same⟩ := h
  refine ⟨?_, ?_, ?_⟩
  · rw [State.decision, auth, State.sec, clock]
    exact decision
  · rw [State.ped, line', State.linkOf, State.ped, line]
    exact ped
  · rw [State.seq, seq', State.seq, seq]
    exact same

/-! ### Acceptances (R67, R68, R83) -/

theorem State.choosePlan_eq (s : State) (n : Conn) (t : Token) (given : Option PlanSlot) :
    s.choosePlan n (some t) given = planTaken (s.lookup t) given (s.defaultPlan n) := by
  unfold State.choosePlan planTaken
  rw [Option.bind_some]
  cases (s.lookup t).bind (·.override) with
  | some k => rfl
  | none => cases given <;> rfl

theorem State.acceptedSession_eq (s : State) (n : Conn) (a : Acceptance) : s.acceptedSession n a =
    { Session.initial with
      state := .authorized
      token := a.token
      source := some a.source
      cls := a.cls
      plan := some (a.plan, (s.plan a.plan).revision)
      budget := a.budget
      threshold := a.budget - s.metering.headroom
      lateTag := a.lateTag
      startWall := s.clock.wall
      startSec := some s.sec
      readyDeadline := some (s.sec + s.sessions.readyWait)
      plugSeen := s.plugSeenNow n
      flags := (if a.source.isOffline then 64 else 0) ||| (if s.clock.wall = none then 128 else 0) } := by
  have flags : addFlagIf s.clock.wall.isNone .clockUnset (addFlagIf a.source.isOffline .offline 0) =
      (if a.source.isOffline then 64 else 0) ||| (if s.clock.wall = none then 128 else 0) := by
    cases s.clock.wall with
    | none =>
      rw [if_pos rfl]
      cases a.source.isOffline <;> decide
    | some w =>
      rw [if_neg (show ¬ some w = none from nofun)]
      cases a.source.isOffline <;> rfl
  unfold State.acceptedSession thresholdOf
  rw [flags]

theorem State.setSess_woken (n : Conn) (e : Session) (q : Ped) (s : State) :
    (s.ped q).Woken ((s.setSess n e).ped q) ∧ ((s.setSess n e).ped q).queue = (s.ped q).queue := by
  unfold State.setSess
  dsimp only
  split
  · exact ⟨State.localActivity_woken (pedOf n) q (s.updSess n fun _ => e), State.localActivity_queue _ _ _⟩
  · exact ⟨.refl _, rfl⟩

/-- The state before an accepted session is entered. -/
def State.planned (n : Conn) (a : Acceptance) (s : State) : State :=
  (s.updPlan a.plan fun p => { p with useCount := p.useCount + 1 }).decide n (.accepted a.source)

theorem State.startSession_eq (n : Conn) (a : Acceptance) (s : State) :
    s.startSession n a = (s.planned n a).setSess n (s.acceptedSession n a) := rfl

theorem State.startSession_kept (n : Conn) (a : Acceptance) (s : State) :
    SameBut [.line, .auth, .sessions, .tariff] s (s.startSession n a) ∧
    (s.startSession n a).auth =
    { s.auth with decisions := tset s.auth.decisions n (some ⟨.accepted a.source, s.sec⟩) } := by
  have planned : SameBut [.auth, .tariff] s (s.planned n a) := by
    intro b hb
    cases b with
    | auth | tariff => simp at hb
    | _ => rfl
  have auth : (s.planned n a).auth =
      { s.auth with decisions := tset s.auth.decisions n (some ⟨.accepted a.source, s.sec⟩) } := rfl
  rw [State.startSession_eq]
  generalize s.planned n a = u at planned auth
  refine ⟨(planned.mono (by simp)).trans fun b hb => ?_, (State.setSess_auth n _ u).trans auth⟩
  cases b with
  | line | auth | sessions | tariff => simp at hb
  | classifier => exact State.setSess_classifier n _ u
  | sequencer => exact State.setSess_sequencer n _ u
  | clock => exact State.setSess_clock n _ u
  | metering => exact State.setSess_metering n _ u
  | alloc => exact State.setSess_alloc n _ u
  | settlement => exact State.setSess_settlement n _ u
  | uplink => exact State.setSess_uplink n _ u
  | pending => exact State.setSess_pending n _ u

theorem State.startSession_woken (n : Conn) (a : Acceptance) (q : Ped) (s : State) :
    (s.ped q).Woken ((s.startSession n a).ped q) ∧ ((s.startSession n a).ped q).queue = (s.ped q).queue :=
  State.setSess_woken n _ q (s.planned n a)

/-- What an acceptance leaves where the queue has room for the CLOSE it may bring. -/
theorem State.accept_accepted {n : Conn} (a : Acceptance) {s : State} (room : s.roomForClose n) :
    Accepted n a s (s.accept n a) ∧ SameBut [.line, .sequencer, .auth, .sessions, .tariff] s (s.accept n a) ∧
    (s.accept n a).auth.held = s.auth.held ∧ (s.accept n a).auth.nextTag = s.auth.nextTag ∧
    (∀ m, m ≠ n → (s.accept n a).sess m = s.sess m ∧ (s.accept n a).seq m = s.seq m) := by
  obtain ⟨kept, auth⟩ := State.startSession_kept n a s
  obtain ⟨woken, queue⟩ := State.startSession_woken n a (pedOf n) s
  have sess (m : Conn) := State.startSession_sess n m a s
  have plan (k : PlanSlot) := State.startSession_plan n a s k
  have sequencer := State.startSession_sequencer n a s
  rw [State.accept_eq]
  generalize s.startSession n a = u at kept auth woken queue sess plan sequencer
  have authorized : (u.sess n).state = .authorized := by rw [sess, if_pos rfl]; rfl
  have room' : (u.sess n).state = .authorized → u.roomForClose n := fun _ => by
    refine ⟨(not_congr woken.unconfigured).2 room.1, ?_⟩
    rw [queue]
    exact room.2
  have after := State.testClose_kept room'
  have keeps := Keeps.testClose (M := atConn n) u (touches_atConn n)
  have seq : u.seq n = s.seq n := by rw [State.seq, sequencer, State.seq]
  have closes : u.closeCondition n = true ↔ s.readyToClose n ∧ s.sequencer.parkStop = false := by
    rw [State.closeCondition_iff, State.readyToClose, seq, State.closable_congr woken, sequencer]
    exact ⟨fun h => ⟨h.1, h.2.2⟩, fun h => ⟨h.1, authorized, h.2⟩⟩
  have tested : (s.readyToClose n ∧ s.sequencer.parkStop = false →
        (u.testClose n).seq n = (s.seq n).startClose ∧ (u.testClose n).closeWaits n = true) ∧
      (¬ (s.readyToClose n ∧ s.sequencer.parkStop = false) → (u.testClose n).seq n = s.seq n) := by
    constructor
    · intro h
      rw [State.testClose_closes (closes.2 h) (room' authorized), State.startsClose_seq, if_pos rfl, seq]
      exact ⟨rfl, State.startsClose_closeWaits n u⟩
    · intro h
      rw [State.testClose_of_not (Bool.eq_false_iff.2 fun e => h (closes.1 e)), seq]
  generalize u.testClose n = t at after keeps tested
  have clock : t.clock = s.clock := (after .clock (by simp)).trans (kept .clock (by simp))
  have sec : t.sec = s.sec := by rw [State.sec, clock, State.sec]
  have tAuth : t.auth = _ := (after .auth (by simp)).trans auth
  have tariff : t.tariff = u.tariff := after .tariff (by simp)
  have sessions : t.sessions = u.sessions := after .sessions (by simp)
  refine ⟨⟨?_, ?_, fun k hk => ?_, ?_, tested⟩, (kept.mono (by simp)).trans
    (after.mono (by simp)), by rw [tAuth], by rw [tAuth],
    fun m hm => ⟨?_, ?_⟩⟩
  · rw [clock, sec, State.sess, sessions, ← State.sess, sess, if_pos rfl]
    exact s.acceptedSession_eq n a
  · rw [State.plan, tariff, ← State.plan, plan, if_pos rfl]
  · rw [State.plan, tariff, ← State.plan, plan, if_neg hk]
  · rw [State.decision, tAuth, sec]
    exact tget_tset_same ..
  · rw [State.sess, sessions, ← State.sess, sess, if_neg hm]
  · rw [keeps.seq_of_ne hm, State.seq, sequencer, State.seq]

end Sys2Proof.Machine
end

section
/-! PROOF. The decision on a presented token (O33). -/

namespace Sys2Proof.Machine

theorem State.refuse_refused (n : Conn) (why : RefuseReason) (s : State) :
    Refused n why s (s.refuse n why false) ∧ SameBut [.line, .auth] s (s.refuse n why false) := by
  rw [State.refuse_eq]
  exact ⟨s.refusedAt_refused n why false, (s.refusedAt_kept n why false).2 rfl⟩

theorem State.refuse_held (n : Conn) (why : RefuseReason) (held : Bool) (s : State) :
    (s.refuse n why held).auth.held = s.auth.held ∧ (s.refuse n why held).auth.nextTag = s.auth.nextTag := by
  rw [State.refuse_eq]
  exact ⟨rfl, rfl⟩

theorem State.acceptOrRefuse_loaded {n : Conn} {a : Acceptance} {s : State} (held : Bool)
    (h : (s.plan a.plan).loaded = true) : s.acceptOrRefuse n a held = s.accept n a := if_pos h

theorem State.acceptOrRefuse_empty {n : Conn} {a : Acceptance} {s : State} (held : Bool)
    (h : (s.plan a.plan).loaded = false) : s.acceptOrRefuse n a held = s.refuse n .noTariff held :=
  if_neg (Bool.not_eq_true _ ▸ h)

/-! ### An acceptance leaves the queries, whether its CLOSE finds room or not -/

theorem State.stopCause_auth {why : EndReason} {n : Conn} {s : State} (h : (s.sess n).state ≠ .awaitingAuth) :
    (s.stopCause why n).auth = s.auth := by
  by_cases stops : why.stops (s.sess n).state = true
  · rw [State.stopCause_stops stops, State.beginStop_auth]
  · rw [State.stopCause_none (Bool.not_eq_true _ ▸ stops) fun ends => h ends.1]

theorem State.enterFaulted_auth {n : Conn} {s : State} (k : FaultKind) (h : (s.sess n).state ≠ .awaitingAuth) :
    (s.enterFaulted n k).auth = s.auth := by
  by_cases faulted : (s.seq n).contactor = .faulted
  · rw [State.enterFaulted_of_faulted k faulted]
  · have sess : (s.faulted n k).sess n = s.sess n := by
      rw [State.sess, (s.faulted_facts n k).2.2.1, State.sess]
    rw [State.enterFaulted_of_not k faulted, State.stopCause_auth (by rw [sess]; exact h)]
    unfold State.faulted
    simp

theorem State.closeNak_auth (n : Conn) (fuel : Nat) :
    ∀ s : State, (s.sess n).state ≠ .awaitingAuth → (s.closeNak n fuel).auth = s.auth := by
  induction fuel with
  | zero => exact fun _ _ => rfl
  | succ fuel ih =>
    intro s h
    have again := ih (s.updSeq n fun r => { r with attempt := r.attempt + 1 }) h
    have faulted := State.enterFaulted_auth .closeRefused h
    unfold State.closeNak
    dsimp only
    split
    · rfl
    split
    · simp
    split
    · exact faulted
    split
    · split
      · simp
      · exact again
    · split
      · simp
      · exact again
    · simp
    all_goals rfl

theorem State.testClose_auth (n : Conn) (s : State) : (s.testClose n).auth = s.auth := by
  cases h : s.closeCondition n with
  | false => rw [State.testClose_of_not h]
  | true =>
    obtain ⟨-, authorized, -⟩ := State.closeCondition_iff.1 h
    rw [State.testClose, h, if_pos rfl]
    have sessions := State.setContactor_sessions n .closing
      (s.updSeq n fun r => { r with attempt := 1, openPending := false })
    have auth := State.setContactor_auth n .closing (s.updSeq n fun r => { r with attempt := 1, openPending := false })
    generalize (s.updSeq n fun r => { r with attempt := 1, openPending := false }).setContactor n .closing =
      u at sessions auth
    have kept : u.auth = s.auth := auth
    have waits : (u.sess n).state ≠ .awaitingAuth := by
      rw [State.sess, sessions]
      exact authorized ▸ nofun
    rw [State.offerClose, ← kept]
    split
    · exact State.enqueue_auth _ _ u
    · exact State.closeNak_auth n 3 u waits

theorem State.accept_auth (n : Conn) (a : Acceptance) (s : State) :
    (s.accept n a).auth.held = s.auth.held ∧ (s.accept n a).auth.nextTag = s.auth.nextTag := by
  rw [State.accept_eq, State.testClose_auth, (State.startSession_kept n a s).2]
  exact ⟨rfl, rfl⟩

theorem State.acceptOrRefuse_held (n : Conn) (a : Acceptance) (held : Bool) (s : State) :
    (s.acceptOrRefuse n a held).auth.held = s.auth.held ∧
    (s.acceptOrRefuse n a held).auth.nextTag = s.auth.nextTag := by
  unfold State.acceptOrRefuse
  split
  · exact s.accept_auth n a
  · exact s.refuse_held n .noTariff held

/-! ### The offline rule (R66) -/

/-- The source, class and budget the offline rule accepts a token with; absent where it refuses. -/
def State.offlineBought (s : State) (k : Token) : Option (Source × ClassNo × Nat) :=
  match s.lookup k, k.kind with
  | some e, _ => if e.blocked then none else some (.offlineTable, e.cls, e.limit)
  | none, .card => if s.auth.offlineAccept then some (.offlinePark, 0, s.auth.offlineLimit) else none
  | none, .payment => none

theorem State.offlineRule_eq (n : Conn) (k : Token) (late : Option Byte) (s : State) : s.offlineRule n k late =
    match s.offlineBought k with
    | some x => s.acceptOrRefuse n
        ⟨some k, x.1, x.2.1, x.2.2, planTaken (s.lookup k) none (s.defaultPlan n), late⟩ late.isSome
    | none => s.refuse n (if (s.lookup k).isSome then .blocked else .offline) late.isSome := by
  rw [State.offlineRule, State.choosePlan_eq, State.offlineBought]
  cases hl : s.lookup k with
  | some e =>
    dsimp only
    cases e.blocked <;> rfl
  | none =>
    cases k.kind with
    | payment => rfl
    | card =>
      dsimp only
      cases s.auth.offlineAccept <;> rfl

theorem State.offlineRule_held (n : Conn) (k : Token) (late : Option Byte) (s : State) :
    (s.offlineRule n k late).auth.held = s.auth.held ∧ (s.offlineRule n k late).auth.nextTag = s.auth.nextTag := by
  rw [State.offlineRule_eq]
  split
  · exact s.acceptOrRefuse_held n _ _
  · exact s.refuse_held n _ _

/-! ### The table decision and the queries (R62, R63) -/

/-- The reason of the query a token brings (R63). -/
def State.queryReason (s : State) (k : Token) : QueryReason :=
  match k.kind with
  | .payment => .payment
  | .card => if (s.lookup k).isSome then .watched else .notInTable

theorem State.decideByTable_asks {n : Conn} {k : Token} {s : State}
    (free : ∀ e, s.lookup k = some e → e.blocked = false)
    (asks : k.kind = .payment ∨ s.watched k.id = true ∨ s.lookup k = none) :
    s.decideByTable n k = s.askHost n k (s.queryReason k) := by
  unfold State.decideByTable State.queryReason
  cases hl : s.lookup k with
  | none => cases k.kind <;> rfl
  | some e =>
    dsimp only
    rw [free e hl, if_neg Bool.false_ne_true]
    cases hk : k.kind with
    | payment => rfl
    | card =>
      have watched : s.watched k.id = true := by
        rcases asks with h | h | h
        · rw [hk] at h
          cases h
        · exact h
        · rw [hl] at h
          cases h
      exact (if_pos watched).trans rfl

theorem State.openQuery_facts (n : Conn) (k : Token) (why : QueryReason) (s : State) :
    ((s.openQuery n k why).sess n).state = .awaitingAuth ∧ ((s.openQuery n k why).sess n).token = some k ∧
    (s.openQuery n k why).auth.nextTag = s.auth.nextTag + 1 ∧
    (s.openQuery n k why).decision n = some ⟨.held s.auth.nextTag, s.sec⟩ := by
  have sess := (s.openQuery_leaves n k why).1 n
  rw [if_pos rfl] at sess
  rw [sess]
  refine ⟨rfl, rfl, ?_, ?_⟩
  · rw [State.openQuery, State.setSess_auth]
    rfl
  · rw [State.openQuery, State.decision, State.setSess_auth]
    exact tget_tset_same ..

/-! ### The tests in their order (R61) -/

theorem Session.stoppedBy_iff {e : Session} {k : Token} :
    e.stoppedBy k = true ↔ (e.state = .charging ∨ e.state = .complete) ∧ e.token = some k := by
  simp [Session.stoppedBy]

section tests

variable {s : State} {n : Conn} {k : Token}

theorem Session.not_stoppedBy_of_empty {e : Session} (h : e.state = .empty) : e.stoppedBy k = false := by
  rw [Bool.eq_false_iff, ne_eq, Session.stoppedBy_iff, h]
  exact fun x => x.1.elim nofun nofun

theorem State.decideToken_stops (h : (s.sess n).stoppedBy k = true) :
    s.decideToken n k = (s.decide n .stop).stopCause .userStop n := if_pos h

theorem State.decideToken_present (h : (s.sess n).stoppedBy k = false) (present : (s.sess n).state ≠ .empty) :
    s.decideToken n k = s.refuse n .sessionPresent false := by
  rw [State.decideToken, h]
  exact if_pos present

theorem State.decideToken_of_empty (h : (s.sess n).state = .empty) : s.decideToken n k =
    if (s.seq n).locks.isEmpty = false then s.refuse n .locked false
    else if (s.seq n).contactor = .faulted then s.refuse n .faulted false
    else if s.sequencer.parkStop then s.refuse n .parkStop false
    else s.decideByTable n k := by
  rw [State.decideToken, Session.not_stoppedBy_of_empty h]
  refine (if_neg (not_not.2 h)).trans (if_congr ?_ rfl rfl)
  cases (s.seq n).locks.isEmpty <;> simp

theorem State.decideToken_locked (h : (s.sess n).state = .empty) (locked : (s.seq n).locks ≠ ⟨false, false⟩) :
    s.decideToken n k = s.refuse n .locked false := by
  rw [State.decideToken_of_empty h]
  exact if_pos (Bool.eq_false_iff.2 fun e => locked ((Locks.isEmpty_iff _).1 e))

theorem State.decideToken_unlocked (h : (s.sess n).state = .empty) (free : (s.seq n).locks = ⟨false, false⟩) :
    s.decideToken n k = if (s.seq n).contactor = .faulted then s.refuse n .faulted false
      else if s.sequencer.parkStop then s.refuse n .parkStop false else s.decideByTable n k := by
  rw [State.decideToken_of_empty h]
  exact if_neg (by rw [free]; decide)

end tests

/-- Settles O33, test by test in the order of R61 to R66. -/
theorem tokenDecisionsFollowTheirOrder : Obligations.TokenDecisionsFollowTheirOrder := by
  intro s n k
  dsimp only
  refine ⟨fun stops => ?_, fun stops present => ?_, fun empty locked => ?_, fun empty free faulted => ?_,
    fun empty free sound => ?_⟩
  · rw [State.decideToken_stops (Session.stoppedBy_iff.2 stops)]
    have notWaiting : ((s.decide n .stop).sess n).state ≠ .awaitingAuth := by
      show (s.sess n).state ≠ .awaitingAuth
      rcases stops.1 with h | h <;> rw [h] <;> exact nofun
    refine ⟨(State.stopCause_taken .userStop n (s.decide n .stop)).congr rfl rfl rfl rfl, ?_⟩
    rw [State.decision, State.stopCause_auth notWaiting]
    exact tget_tset_same ..
  · rw [State.decideToken_present (Bool.eq_false_iff.2 fun h => stops (Session.stoppedBy_iff.1 h)) present]
    exact s.refuse_refused n .sessionPresent
  · rw [State.decideToken_locked empty locked]
    exact s.refuse_refused n .locked
  · rw [State.decideToken_unlocked empty free, if_pos faulted]
    exact s.refuse_refused n .faulted
  rw [State.decideToken_unlocked empty free, if_neg sound]
  refine ⟨fun stop => ?_, fun stop => ?_⟩
  · rw [stop]
    exact s.refuse_refused n .parkStop
  rw [stop, if_neg Bool.false_ne_true]
  refine ⟨fun e found blocked => ?_, fun e found blocked card watched room => ?_, fun open_ asks online => ?_,
    fun open_ asks offline => ?_⟩
  · have decided : s.decideByTable n k = s.refuse n .blocked false := by
      rw [State.decideByTable, found]
      exact if_pos blocked
    rw [decided]
    exact s.refuse_refused n .blocked
  · have decided : s.decideByTable n k = s.acceptOrRefuse n
        ⟨some k, .here, e.cls, e.limit, planTaken (some e) none (s.defaultPlan n), none⟩ false := by
      rw [State.decideByTable, State.choosePlan_eq, found]
      dsimp only
      rw [blocked, card, watched]
      rfl
    rw [decided]
    refine ⟨fun vacant => ?_, fun loaded => ?_⟩
    · rw [State.acceptOrRefuse_empty _ vacant]
      exact s.refuse_refused n .noTariff
    · rw [State.acceptOrRefuse_loaded _ loaded]
      exact (State.accept_accepted _ room).1
  · rw [State.decideByTable_asks open_ asks, State.askHost, online]
    dsimp only
    refine ⟨fun full => ?_, fun room => ?_⟩
    · rw [if_neg (show ¬ s.auth.held.length < Config.heldSize from Nat.not_lt.2 full)]
      exact s.refuse_refused n .busy
    · rw [if_pos (show s.auth.held.length < Config.heldSize from room)]
      obtain ⟨state, token, nextTag, decision⟩ := s.openQuery_facts n k (s.queryReason k)
      refine ⟨state, token, nextTag, decision, s.queryReason k, (s.openQuery_leaves n k _).2.1, ?_, ?_, ?_⟩
      · intro payment
        rw [State.queryReason, payment]
      · intro card none_
        rw [State.queryReason, card, none_]
        rfl
      · intro card some_
        rw [State.queryReason, card]
        exact if_pos (Option.isSome_iff_ne_none.2 some_)
  · rw [State.decideByTable_asks open_ asks, State.askHost, offline]
    dsimp only
    obtain ⟨held, nextTag⟩ := s.offlineRule_held n k none
    refine ⟨held, nextTag, ?_⟩
    suffices tail : ∀ b, b = s.offlineBought k →
        (∀ x, b = some x → (s.plan (planTaken (s.lookup k) none (s.defaultPlan n))).loaded = true → s.roomForClose n →
          Accepted n ⟨some k, x.1, x.2.1, x.2.2, planTaken (s.lookup k) none (s.defaultPlan n), none⟩ s
            (s.offlineRule n k none)) ∧
        (∀ x, b = some x → (s.plan (planTaken (s.lookup k) none (s.defaultPlan n))).loaded = false →
          Refused n .noTariff s (s.offlineRule n k none) ∧ SameBut [.line, .auth] s (s.offlineRule n k none)) ∧
        (b = none → Refused n .offline s (s.offlineRule n k none) ∧ SameBut [.line, .auth] s
        (s.offlineRule n k none)) by
      refine tail _ ?_
      unfold State.offlineBought
      cases hl : s.lookup k with
      | none => cases k.kind <;> rfl
      | some e =>
        dsimp only
        rw [open_ e hl]
        rfl
    rintro _ rfl
    rw [State.offlineRule_eq]
    refine ⟨fun x hx loaded room => ?_, fun x hx vacant => ?_, fun hx => ?_⟩
    · rw [hx]
      dsimp only
      rw [State.acceptOrRefuse_loaded _ loaded]
      exact (State.accept_accepted _ room).1
    · rw [hx]
      dsimp only
      rw [State.acceptOrRefuse_empty _ vacant]
      exact s.refuse_refused n .noTariff
    · have missing : s.lookup k = none := by
        unfold State.offlineBought at hx
        cases hl : s.lookup k with
        | none => rfl
        | some e =>
          rw [hl] at hx
          dsimp only at hx
          rw [open_ e hl] at hx
          cases hx
      rw [hx, missing]
      exact s.refuse_refused n .offline

end Sys2Proof.Machine
end

section
/-! PROOF. Answers on time (O34), REMOTE_START (O36) and the deadline of a held query (O37). -/

namespace Sys2Proof.Machine

/-! ### What a decision's facts depend on -/

theorem SameBut.eq_with {s t : State} (h : SameBut [.clock, .uplink, .auth] s t) :
    t = { s with clock := t.clock, uplink := t.uplink, auth := t.auth } := by
  have line := h .line (by simp)
  have classifier := h .classifier (by simp)
  have sequencer := h .sequencer (by simp)
  have sessions := h .sessions (by simp)
  have tariff := h .tariff (by simp)
  have metering := h .metering (by simp)
  have alloc := h .alloc (by simp)
  have settlement := h .settlement (by simp)
  have pending := h .pending (by simp)
  cases t
  simp only [SameBut] at *
  rw [State.mk.injEq]
  exact ⟨line, classifier, sequencer, rfl, sessions, tariff, rfl, metering, alloc, settlement, rfl, pending⟩

theorem Accepted.from_same {n : Conn} {a : Acceptance} {s s' t : State} (h : Accepted n a s' t)
    (same : SameBut [.clock, .uplink, .auth] s s') : Accepted n a s t := by
  rw [same.eq_with] at h
  exact h

theorem Accepted.to_same {n : Conn} {a : Acceptance} {s t t' : State} (h : Accepted n a s t)
    (same : SameBut [.uplink] t t') : Accepted n a s t' := by
  have sec : t'.sec = t.sec := by rw [State.sec, same.clock, State.sec]
  unfold Accepted at h ⊢
  simp only [same.sess, same.plan, same.decision, same.seq, same.closeWaits, same.clock, sec]
  exact h

theorem Refused.to_same {n : Conn} {why : RefuseReason} {s t t' : State} (h : Refused n why s t)
    (same : SameBut [.uplink] t t') : Refused n why s t' :=
  h.congr rfl rfl same.line same.auth same.sequencer same.clock

theorem State.HeldSound.matchHeld_eq {s : State} (sound : s.HeldSound) {h : HeldEntry} (mem : h ∈ s.auth.held)
    {a : Answer} (conn : a.conn = h.conn) (tag : a.tag = h.tag) : s.matchHeld a = some h := by
  cases found : s.matchHeld a with
  | none =>
    refine absurd (List.find?_eq_none.1 found h mem) ?_
    simp [conn, tag]
  | some x =>
    obtain ⟨memx, connx, -⟩ := State.matchHeld_mem found
    have hx := sound.heldOf_eq memx
    rw [connx, conn, sound.heldOf_eq mem] at hx
    exact hx.symm

/-! ### An answer on time (R70) -/

/-- What a held query leaves when its decision refuses it. -/
theorem State.refuse_dropped (n : Conn) (why : RefuseReason) (s : State) :
    let t := (s.dropHeld n).refuse n why true
    SameBut [.line, .auth, .sessions] s t ∧ Refused n why s t ∧ t.sess n = Session.initial ∧
    t.auth.held = (s.auth.held.filter fun x => x.conn ≠ n) ∧ ∀ m, m ≠ n → t.sess m = s.sess m := by
  dsimp only
  have dropped : SameBut [.line, .auth, .sessions] s (s.dropHeld n) := by
    intro b hb
    cases b with
    | auth => simp at hb
    | _ => rfl
  have held : (s.dropHeld n).auth.held = s.auth.held.filter fun x => x.conn ≠ n :=
    List.filter_congr fun x _ => by rw [bne, beq_eq_decide, decide_not]
  have line : (s.dropHeld n).line = s.line := rfl
  have sequencer : (s.dropHeld n).sequencer = s.sequencer := rfl
  have sess (m : Conn) : (s.dropHeld n).sess m = s.sess m := rfl
  generalize s.dropHeld n = u at dropped held line sequencer sess
  rw [State.refuse_eq]
  refine ⟨dropped.trans (u.refusedAt_kept n why true).1,
    (u.refusedAt_refused n why true).congr line.symm sequencer.symm rfl rfl rfl rfl, ?_, held, fun m hm => ?_⟩
  · rw [State.refusedAt_sess, if_pos ⟨rfl, rfl⟩]
  · rw [State.refusedAt_sess, if_neg fun e => hm e.2, sess]

theorem State.takeAnswer_held {s : State} {a : Answer} {h : HeldEntry} (found : s.matchHeld a = some h) :
    s.takeAnswer a = if a.accept then
      ((s.dropHeld a.conn).acceptOrRefuse a.conn
        ⟨some h.token, .online, a.cls, a.budget, planTaken (s.lookup h.token) a.plan (s.defaultPlan a.conn), none⟩ true,
        if (s.plan (planTaken (s.lookup h.token) a.plan (s.defaultPlan a.conn))).loaded then .accepted
        else .refusedNoTariff)
    else ((s.dropHeld a.conn).refuse a.conn .rejected true, .rejected) := by
  have choice : (s.dropHeld a.conn).choosePlan a.conn (some h.token) a.plan =
      planTaken (s.lookup h.token) a.plan (s.defaultPlan a.conn) := State.choosePlan_eq (s.dropHeld a.conn) _ _ _
  rw [State.takeAnswer, found]
  dsimp only
  rw [State.answerOnTime]
  dsimp only
  rw [choice]
  rfl

theorem ownAuthAnswer_taken {n tag verdict b3 b2 b1 b0 cls plan : Byte} {s : State} {c : Conn} {p : Option PlanSlot}
    {v : Bool} {k : ClassNo} (hn : indexByte 48 n = some c) (hp : optSlotByte plan = some p)
    (hv : verdictByte verdict = some v) (hk : indexByte 4 cls = some k) :
    ownAuthAnswer [n, tag, verdict, b3, b2, b1, b0, cls, plan] s =
      ((s.takeAnswer ⟨c, tag, v, num [b3, b2, b1, b0], k, p⟩).1,
        .ok [byte (s.takeAnswer ⟨c, tag, v, num [b3, b2, b1, b0], k, p⟩).2.number]) := by
  rw [ownAuthAnswer]
  dsimp only
  rw [hn, hp, hv, hk]

/-- What an answer of good form leaves, where its decision raises nothing. -/
theorem exec_authAnswer_owned {n tag qtag verdict b3 b2 b1 b0 cls plan : Byte} {s u : State} {c : Conn}
    {p : Option PlanSlot} {v : Bool} {k : ClassNo} {d : AnswerDisposition} (hr : s.hasRoom)
    (hn : indexByte 48 n = some c)
    (hp : optSlotByte plan = some p) (hv : verdictByte verdict = some v) (hk : indexByte 4 cls = some k)
    (taken : s.taken.takeAnswer ⟨c, qtag, v, num [b3, b2, b1, b0], k, p⟩ = (u, d)) (same : u.uplink = s.taken.uplink) :
    ∃ t, exec (.authAnswer tag [n, qtag, verdict, b3, b2, b1, b0, cls, plan]) s = .next t ∧
      t.uplink = s.answered 151 tag .ok [byte d.number] ∧ SameBut [.uplink] u t := by
  have owner : ownerOf (.authAnswer tag [n, qtag, verdict, b3, b2, b1, b0, cls, plan]) s.taken =
      (u, .ok [byte d.number]) := by
    refine (ownAuthAnswer_taken hn hp hv hk).trans ?_
    rw [taken]
  exact exec_owned rfl (by simp) hr owner same

theorem verdictByte_none {b : Byte} (h : 2 ≤ b.toNat) : verdictByte b = none := by
  have h0 : b ≠ 0 := fun e => by rw [e] at h; exact absurd h (by decide)
  have h1 : b ≠ 1 := fun e => by rw [e] at h; exact absurd h (by decide)
  rw [verdictByte, if_neg h0, if_neg h1]

/-- The operands a connector byte and a plan byte of no meaning refuse. -/
theorem connPlan_out {n plan : Byte} (h : 48 ≤ n.toNat ∨ (16 ≤ plan.toNat ∧ plan ≠ 255)) :
    indexByte 48 n = none ∨ optSlotByte plan = none :=
  h.imp indexByte_of_le fun ⟨big, given⟩ => optSlotByte_none big given

theorem connPlan_in {n plan : Byte} (h : ¬ (48 ≤ n.toNat ∨ (16 ≤ plan.toNat ∧ plan ≠ 255))) :
    ∃ c p, indexByte 48 n = some c ∧ optSlotByte plan = some p := by
  obtain ⟨hn, hp⟩ := not_or.1 h
  by_cases given : plan = 255
  · exact ⟨_, none, indexByte_of_lt (Nat.not_le.1 hn), by rw [optSlotByte, if_pos given]⟩
  · have small : plan.toNat < 16 := Nat.not_le.1 fun big => hp ⟨big, given⟩
    exact ⟨_, some ⟨plan.toNat, small⟩, indexByte_of_lt (Nat.not_le.1 hn),
      by rw [optSlotByte, if_neg given, indexByte_of_lt small]; rfl⟩

theorem exec_authAnswer_refused {s : State} {tag n qtag verdict b3 b2 b1 b0 cls plan : Byte} (hr : s.hasRoom) :
    let answer := exec (.authAnswer tag [n, qtag, verdict, b3, b2, b1, b0, cls, plan]) s
    let outside := 48 ≤ n.toNat ∨ (16 ≤ plan.toNat ∧ plan ≠ 255)
    (outside → answer = .next { s with uplink := s.answered 151 tag .badIndex [] }) ∧
    (¬ outside → 2 ≤ verdict.toNat ∨ 4 ≤ cls.toNat →
      answer = .next { s with uplink := s.answered 151 tag .badRequest [] }) := by
  dsimp only
  constructor
  · intro out
    refine exec_refused .badIndex rfl (by simp) hr ?_
    show ownAuthAnswer [n, qtag, verdict, b3, b2, b1, b0, cls, plan] s.taken = _
    rw [ownAuthAnswer]
    dsimp only
    rcases connPlan_out out with h | h
    · rw [h]
    · rw [h]
      cases indexByte 48 n <;> rfl
  · intro inside bad
    obtain ⟨c, p, hc, hp⟩ := connPlan_in inside
    refine exec_refused .badRequest rfl (by simp) hr ?_
    show ownAuthAnswer [n, qtag, verdict, b3, b2, b1, b0, cls, plan] s.taken = _
    rw [ownAuthAnswer]
    dsimp only
    rw [hc, hp]
    dsimp only
    rcases bad with h | h
    · rw [verdictByte_none h]
    · rw [indexByte_of_le h]
      cases verdictByte verdict <;> rfl

theorem State.accept_uplink {n : Conn} (a : Acceptance) {s : State} (room : s.roomForClose n) :
    (s.accept n a).uplink = s.uplink := (State.accept_accepted a room).2.1 .uplink (by simp)

/-- Settles O34. -/
theorem answersOnTimeDecideTheQuery : Obligations.AnswersOnTimeDecideTheQuery := by
  refine ⟨fun s tag n qtag verdict b3 b2 b1 b0 cls plan hr => exec_authAnswer_refused hr, ?_⟩
  intro s h tag b3 b2 b1 b0 cls given hr sound mem
  dsimp only
  have plan := optSlotByte_optSlotOf given
  have conn := indexByte_byte h.conn (by decide)
  have class_ := indexByte_byte cls (by decide)
  have found (v : Bool) : s.taken.matchHeld ⟨h.conn, h.tag, v, num [b3, b2, b1, b0], cls, given⟩ = some h :=
    State.HeldSound.matchHeld_eq sound mem rfl rfl
  have answer (v : Bool) := State.takeAnswer_held (found v)
  refine ⟨?_, fun vacant => ?_, fun loaded room => ?_⟩
  · have taken := answer false
    rw [if_neg Bool.false_ne_true] at taken
    obtain ⟨kept, refused, sess, held, others⟩ := s.taken.refuse_dropped h.conn .rejected
    obtain ⟨t, run, uplink, same⟩ := exec_authAnswer_owned hr conn plan (verdict := 1) rfl class_ taken
      (State.refuse_uplink _ _ _ _)
    exact ⟨t, run, (kept.answered same).mono (by simp), refused.to_same same, (same.sess _).trans sess,
      (congrArg AuthState.held same.auth).trans held, uplink, fun m hm => (same.sess m).trans (others m hm)⟩
  · have taken := answer true
    rw [if_pos rfl, State.acceptOrRefuse_empty true vacant, if_neg (by exact Bool.eq_false_iff.1 vacant)] at taken
    obtain ⟨kept, refused, sess, held, others⟩ := s.taken.refuse_dropped h.conn .noTariff
    obtain ⟨t, run, uplink, same⟩ := exec_authAnswer_owned hr conn plan (verdict := 0) rfl class_ taken
      (State.refuse_uplink _ _ _ _)
    exact ⟨t, run, (kept.answered same).mono (by simp), refused.to_same same, (same.sess _).trans sess,
      (congrArg AuthState.held same.auth).trans held, uplink, fun m hm => (same.sess m).trans (others m hm)⟩
  · have taken := answer true
    rw [if_pos rfl, State.acceptOrRefuse_loaded true loaded, if_pos (by exact loaded)] at taken
    have dropped : SameBut [.clock, .uplink, .auth] s (s.taken.dropHeld h.conn) := by
      intro b hb
      cases b with
      | clock | uplink | auth => simp at hb
      | _ => rfl
    have keeps : SameBut [.line, .sequencer, .auth, .sessions, .tariff] s.taken (s.taken.dropHeld h.conn) := by
      intro b hb
      cases b with
      | auth => simp at hb
      | _ => rfl
    have held : (s.taken.dropHeld h.conn).auth.held = s.auth.held.filter fun x => x.conn ≠ h.conn :=
      List.filter_congr fun x _ => by rw [bne, beq_eq_decide, decide_not]
    have others (m : Conn) : (s.taken.dropHeld h.conn).sess m = s.sess m ∧ (s.taken.dropHeld h.conn).seq m = s.seq m :=
      ⟨rfl, rfl⟩
    obtain ⟨accepted, kept, heldKept, -, rest⟩ := State.accept_accepted (s := s.taken.dropHeld h.conn)
      ⟨some h.token, .online, cls, num [b3, b2, b1, b0], planTaken (s.lookup h.token) given (s.defaultPlan h.conn),
        none⟩ room
    obtain ⟨t, run, uplink, same⟩ := exec_authAnswer_owned hr conn plan (verdict := 0) rfl class_ taken
      (State.accept_uplink _ room)
    refine ⟨t, run, ((keeps.trans kept).answered same).mono (by simp), (accepted.from_same dropped).to_same same,
      (congrArg AuthState.held same.auth).trans (heldKept.trans held), uplink, fun m hm => ?_⟩
    obtain ⟨restSess, restSeq⟩ := rest m hm
    exact ⟨(same.sess m).trans (restSess.trans (others m).1), (same.seq m).trans (restSeq.trans (others m).2)⟩

end Sys2Proof.Machine
end

section
/-! PROOF. REMOTE_START (O36) and the deadline of a held query (O37). -/

namespace Sys2Proof.Machine

/-! ### The deadline of a held query (R66, R71) -/

theorem Refused.from_advanced {n : Conn} {why : RefuseReason} {s s' t : State} (h : Refused n why s' t)
    (line : s'.line = s.line) (seq : s'.sequencer = s.sequencer) : Refused n why s t :=
  h.congr line.symm seq.symm rfl rfl rfl rfl

/-- The state in which the offline rule decides a query at its deadline. -/
def State.timedOut (s : State) (h : HeldEntry) : State :=
  ((s.advanceToSec h.deadline).dropHeld h.conn).raise .authTimeout

theorem State.timedOut_facts (s : State) (h : HeldEntry) (reach : h.deadline * 1000 ≤ Config.lastMs) :
    SameBut [.clock, .uplink, .auth] s (s.timedOut h) ∧ ClockAt (h.deadline * 1000) s.clock (s.timedOut h).clock ∧
    (s.timedOut h).uplink = s.uplink.withRaised .authTimeout ∧
    (s.timedOut h).auth = { s.auth with held := s.auth.held.filter fun x => x.conn ≠ h.conn } := by
  have passed := SameBut.advanceTo (h.deadline * 1000) s
  have clock := State.advanceTo_clockAt (s := s) reach
  have seconds : s.advanceToSec h.deadline = s.advanceTo (h.deadline * 1000) := rfl
  have filtered : (fun x : HeldEntry => x.conn != h.conn) = fun x => Decidable.decide (x.conn ≠ h.conn) :=
    funext fun x => by rw [bne, beq_eq_decide, decide_not]
  rw [State.timedOut, seconds]
  generalize s.advanceTo (h.deadline * 1000) = u at passed clock
  have auth : u.auth = s.auth := passed .auth (by simp)
  have uplink : u.uplink = s.uplink := passed .uplink (by simp)
  rw [State.raise_eq]
  refine ⟨fun b hb => ?_, clock, ?_, ?_⟩
  · cases b with
    | clock | uplink | auth => simp at hb
    | line => exact passed .line (by simp)
    | classifier => exact passed .classifier (by simp)
    | sequencer => exact passed .sequencer (by simp)
    | sessions => exact passed .sessions (by simp)
    | tariff => exact passed .tariff (by simp)
    | metering => exact passed .metering (by simp)
    | alloc => exact passed .alloc (by simp)
    | settlement => exact passed .settlement (by simp)
    | pending => exact passed .pending (by simp)
  · rw [← uplink]
    rfl
  · rw [← auth, ← filtered]
    rfl

theorem exec_queryDeadline {s : State} {h : HeldEntry} (sound : s.HeldSound) (mem : h ∈ s.auth.held) :
    exec (.queryDeadline h.conn) s = .next ((s.timedOut h).offlineRule h.conn h.token (some h.tag)) := by
  show execQueryDeadline h.conn s = _
  rw [execQueryDeadline, sound.heldOf_eq mem]
  rfl

/-- Settles O37. -/
theorem queryDeadlineAppliesTheOfflineRule : Obligations.QueryDeadlineAppliesTheOfflineRule := by
  intro s h sound mem reach room
  dsimp only
  refine ⟨_, exec_queryDeadline sound mem, ?_⟩
  obtain ⟨same, clock, uplink, auth⟩ := s.timedOut_facts h reach
  generalize s.timedOut h = u at same clock uplink auth
  have line : u.line = s.line := same .line (by simp)
  have sequencer : u.sequencer = s.sequencer := same .sequencer (by simp)
  have sessions : u.sessions = s.sessions := same .sessions (by simp)
  have tariff : u.tariff = s.tariff := same .tariff (by simp)
  have roomy : u.roomForClose h.conn := by
    unfold State.roomForClose State.linkOf State.ped at room ⊢
    rw [line]
    exact room
  have sess (m : Conn) : u.sess m = s.sess m := by rw [State.sess, sessions, State.sess]
  have seq (m : Conn) : u.seq m = s.seq m := by rw [State.seq, sequencer, State.seq]
  have lookup : u.lookup h.token = s.lookup h.token := by rw [State.lookup, auth, State.lookup]
  have default_ : u.defaultPlan h.conn = s.defaultPlan h.conn := by rw [same.eq_with]; rfl
  have plan (k : PlanSlot) : u.plan k = s.plan k := by rw [State.plan, tariff, State.plan]
  have refused (why : RefuseReason) :
      let t := u.refuse h.conn why true
      (SameBut [.line, .sequencer, .auth, .sessions, .tariff, .clock, .uplink] s t ∧
      ClockAt (h.deadline * 1000) s.clock t.clock ∧ t.uplink = s.uplink.withRaised .authTimeout ∧
      t.auth.held = (s.auth.held.filter fun x => x.conn ≠ h.conn) ∧
      (∀ m, m ≠ h.conn → t.sess m = s.sess m ∧ t.seq m = s.seq m)) ∧
      Refused h.conn why s t ∧ t.sess h.conn = Session.initial := by
    dsimp only
    rw [State.refuse_eq]
    refine ⟨⟨(same.mono (by simp)).trans ((u.refusedAt_kept h.conn why true).1.mono (by simp)), clock, uplink,
      congrArg AuthState.held auth, fun m hm => ⟨?_, seq m⟩⟩,
      (u.refusedAt_refused h.conn why true).from_advanced line sequencer, ?_⟩
    · rw [State.refusedAt_sess, if_neg fun e => hm e.2, sess]
    · rw [State.refusedAt_sess, if_pos ⟨rfl, rfl⟩]
  have accepted (a : Acceptance) :
      let t := u.accept h.conn a
      (SameBut [.line, .sequencer, .auth, .sessions, .tariff, .clock, .uplink] s t ∧
      ClockAt (h.deadline * 1000) s.clock t.clock ∧ t.uplink = s.uplink.withRaised .authTimeout ∧
      t.auth.held = (s.auth.held.filter fun x => x.conn ≠ h.conn) ∧
      (∀ m, m ≠ h.conn → t.sess m = s.sess m ∧ t.seq m = s.seq m)) ∧ Accepted h.conn a s t := by
    dsimp only
    obtain ⟨taken, kept, held, -, others⟩ := State.accept_accepted a roomy
    have clockKept := kept .clock (by simp)
    have uplinkKept := kept .uplink (by simp)
    refine ⟨⟨(same.mono (by simp)).trans (kept.mono (by simp)), ?_, uplinkKept.trans uplink,
      held.trans (congrArg AuthState.held auth), fun m hm => ?_⟩, taken.from_same same⟩
    · rw [clockKept]
      exact clock
    · exact ⟨(others m hm).1.trans (sess m), (others m hm).2.trans (seq m)⟩
  suffices tail : ∀ b, b = s.offlineBought h.token →
      let t := u.offlineRule h.conn h.token (some h.tag)
      let slot := planTaken (s.lookup h.token) none (s.defaultPlan h.conn)
      SameBut [.line, .sequencer, .auth, .sessions, .tariff, .clock, .uplink] s t ∧
      ClockAt (h.deadline * 1000) s.clock t.clock ∧ t.uplink = s.uplink.withRaised .authTimeout ∧
      t.auth.held = (s.auth.held.filter fun x => x.conn ≠ h.conn) ∧
      (∀ m, m ≠ h.conn → t.sess m = s.sess m ∧ t.seq m = s.seq m) ∧
      (∀ x, b = some x → (s.plan slot).loaded = true →
        Accepted h.conn ⟨some h.token, x.1, x.2.1, x.2.2, slot, some h.tag⟩ s t) ∧
      (∀ x, b = some x → (s.plan slot).loaded = false → Refused h.conn .noTariff s t ∧ t.sess h.conn = Session.initial)
      ∧
      (b = none → t.sess h.conn = Session.initial ∧
        Refused h.conn (if (s.lookup h.token).isSome then .blocked else .offline) s t) by
    refine tail _ ?_
    unfold State.offlineBought
    cases s.lookup h.token with
    | none => cases h.token.kind <;> rfl
    | some e => rfl
  rintro _ rfl
  have bought : u.offlineBought h.token = s.offlineBought h.token := by
    rw [State.offlineBought, lookup, auth, State.offlineBought]
  dsimp only
  rw [State.offlineRule_eq, bought, lookup, default_]
  cases s.offlineBought h.token with
  | none =>
    dsimp only
    obtain ⟨⟨kept, clockT, uplinkT, held, others⟩, decided, gone⟩ :=
      refused (if (s.lookup h.token).isSome then .blocked else .offline)
    exact ⟨kept, clockT, uplinkT, held, others, nofun, nofun, fun _ => ⟨gone, decided⟩⟩
  | some x =>
    dsimp only
    cases loaded : (s.plan (planTaken (s.lookup h.token) none (s.defaultPlan h.conn))).loaded with
    | true =>
      rw [State.acceptOrRefuse_loaded _ ((congrArg Plan.loaded (plan _)).trans loaded)]
      obtain ⟨⟨kept, clockT, uplinkT, held, others⟩, taken⟩ := accepted
        ⟨some h.token, x.1, x.2.1, x.2.2, planTaken (s.lookup h.token) none (s.defaultPlan h.conn), some h.tag⟩
      refine ⟨kept, clockT, uplinkT, held, others, ?_, nofun, nofun⟩
      intro y hy _
      cases hy
      exact taken
    | false =>
      rw [State.acceptOrRefuse_empty _ ((congrArg Plan.loaded (plan _)).trans loaded)]
      obtain ⟨⟨kept, clockT, uplinkT, held, others⟩, decided, gone⟩ := refused .noTariff
      exact ⟨kept, clockT, uplinkT, held, others, nofun, fun _ _ _ => ⟨decided, gone⟩, nofun⟩

/-! ### REMOTE_START (R75) -/

/-- A pedestal polled again now: ACTIVE with a poll due (R5). -/
def State.PolledNow (s : State) (p : Ped) (ms : Nat) : Prop :=
  (s.ped p).link = .active ∧ (s.ped p).nextPoll = some ms

theorem State.setSess_polls {n : Conn} {e : Session} {s : State} (empty : (s.sess n).state = .empty)
    (leaves : e.state ≠ .empty) (idle : s.linkOf n = .probing ∨ s.linkOf n = .quiet) :
    (s.setSess n e).PolledNow (pedOf n) s.clock.ms := by
  rw [State.setSess, if_pos ⟨empty, leaves⟩]
  rcases (s.updSess n fun _ => e).localActivity_ped_cases (pedOf n) with ⟨-, wakes⟩ | ⟨busy, -⟩
  · rw [wakes, State.PolledNow, State.updPed_ped, if_pos rfl]
    exact ⟨rfl, rfl⟩
  · exfalso
    replace busy : s.linkOf n = .unconfigured ∨ s.linkOf n = .active ∨ s.linkOf n = .unreachable := busy
    rcases idle with idle | idle <;> rw [idle] at busy <;> exact busy.elim nofun fun h => h.elim nofun nofun

theorem State.localActivity_of_active {p : Ped} {s : State} (h : (s.ped p).link = .active) : s.localActivity p = s := by
  rw [State.localActivity, h]

theorem State.setContactor_ped_of_active {n : Conn} {s : State} (c : ContactorState)
    (h : (s.ped (pedOf n)).link = .active) : (s.setContactor n c).ped (pedOf n) = s.ped (pedOf n) := by
  have active : ((s.updSeq n fun r => { r with contactor := c }).ped (pedOf n)).link = .active := h
  rw [State.setContactor]
  split
  · rw [State.localActivity_of_active active]
    rfl
  · rfl

theorem State.testClose_polls {n : Conn} {s : State} {ms : Nat} (room : s.roomForClose n)
    (h : s.PolledNow (pedOf n) ms) : (s.testClose n).PolledNow (pedOf n) ms := by
  cases closes : s.closeCondition n with
  | false =>
    rw [State.testClose_of_not closes]
    exact h
  | true =>
    have kept := State.setContactor_ped_of_active (n := n) .closing
      (s := s.updSeq n fun r => { r with attempt := 1, openPending := false }) h.1
    rw [State.testClose_closes closes room, State.startsClose, State.PolledNow, State.enqueue_ped, if_pos rfl]
    exact ⟨(congrArg Pedestal.link kept).trans h.1, (congrArg Pedestal.nextPoll kept).trans h.2⟩

theorem State.accept_polls {n : Conn} {a : Acceptance} {s : State} (room : s.roomForClose n)
    (empty : (s.sess n).state = .empty) (idle : s.linkOf n = .probing ∨ s.linkOf n = .quiet) :
    (s.accept n a).PolledNow (pedOf n) s.clock.ms := by
  rw [State.accept_eq]
  have polled : (s.startSession n a).PolledNow (pedOf n) s.clock.ms :=
    State.setSess_polls (s := s.planned n a) empty nofun idle
  obtain ⟨woken, queue⟩ := State.startSession_woken n a (pedOf n) s
  refine State.testClose_polls ⟨(not_congr woken.unconfigured).2 room.1, ?_⟩ polled
  rw [queue]
  exact room.2

/-- Whether REMOTE_START may start at connector n (R75). -/
def State.startable (s : State) (n : Conn) : Prop :=
  s.linkOf n ≠ .unconfigured ∧ (s.sess n).state = .empty ∧ (s.seq n).locks = ⟨false, false⟩ ∧
    (s.seq n).contactor ≠ .faulted

theorem State.remoteStart_refused {n : Conn} {budget : Nat} {cls : ClassNo} {plan : Option PlanSlot}
    {token : Option Token} {s : State} (h : ¬ s.startable n) :
    s.remoteStart n budget cls plan token = refuseWith .wrongState s := by
  unfold State.remoteStart
  split
  · rfl
  split
  · rfl
  split
  · rfl
  next configured present blocked =>
    refine absurd ⟨configured, not_not.1 present, ?_, ?_⟩ h
    · refine (Locks.isEmpty_iff _).1 (Bool.not_eq_false _ ▸ fun e => blocked ?_)
      rw [e]
      rfl
    · exact fun e => blocked (by rw [e]; simp)

theorem State.remoteStart_startable {n : Conn} {budget : Nat} {cls : ClassNo} {plan : Option PlanSlot}
    {token : Option Token} {s : State} (h : s.startable n) : s.remoteStart n budget cls plan token =
      if (s.plan (plan.getD (s.defaultPlan n))).loaded
      then (s.accept n ⟨token, .remote, cls, budget, plan.getD (s.defaultPlan n), none⟩, .bare .ok)
      else (s.decide n (.refused .noTariff), .bare .empty) := by
  obtain ⟨configured, empty, free, sound⟩ := h
  have choice : s.choosePlan n none plan = plan.getD (s.defaultPlan n) := by cases plan <;> rfl
  unfold State.remoteStart
  rw [if_neg configured, if_neg (not_not.2 empty), free, if_neg (by simpa [Locks.isEmpty] using sound), choice]

theorem ownRemoteStart_eq {n b3 b2 b1 b0 cls plan : Byte} {token : Frame} {s : State} (len : token.length = 12) :
    ownRemoteStart (n :: b3 :: b2 :: b1 :: b0 :: cls :: plan :: token) s =
      match indexByte 48 n, optSlotByte plan with
      | some n, some plan =>
        match indexByte 4 cls, tokenOperand token with
        | some cls, some token => s.remoteStart n (num [b3, b2, b1, b0]) cls plan token
        | _, _ => refuseWith .badRequest s
      | _, _ => refuseWith .badIndex s := if_pos len

theorem tokenOperand_written {token : Option Token} (h : ∀ k, token = some k → k.fits) :
    tokenOperand (tokenBytes token) = some token := by
  cases token with
  | none => rfl
  | some k =>
    have kind : k.kind.byteOf ≠ 0 := by cases k.kind <;> decide
    rw [tokenBytes_some, tokenOperand, if_neg kind, makeToken_written (h k rfl)]
    rfl

theorem tokenOperand_none {token : Frame} (len : token.length = 12) (given : token.head? ≠ some 0)
    (h : ∀ k : Token, k.fits → tokenBytes (some k) ≠ token) : tokenOperand token = none := by
  match token with
  | [] | [_] => simp at len
  | kind :: size :: id =>
    have ten : id.length = 10 := by simpa using len
    have kind0 : kind ≠ 0 := fun e => given (by rw [e]; rfl)
    rw [tokenOperand, if_neg kind0, makeToken_none ten h]
    rfl

theorem exec_remoteStart_refused {s : State} {tag n b3 b2 b1 b0 cls plan : Byte} {token : Frame} (hr : s.hasRoom)
    (len : token.length = 12) :
    let start := exec (.remoteStart tag ([n, b3, b2, b1, b0, cls, plan] ++ token)) s
    let outside := 48 ≤ n.toNat ∨ (16 ≤ plan.toNat ∧ plan ≠ 255)
    (outside → start = .next { s with uplink := s.answered 152 tag .badIndex [] }) ∧
    (¬ outside → 4 ≤ cls.toNat ∨ (token.head? ≠ some 0 ∧ ∀ k : Token, k.fits → tokenBytes (some k) ≠ token) →
      start = .next { s with uplink := s.answered 152 tag .badRequest [] }) := by
  dsimp only
  constructor
  · intro out
    refine exec_refused .badIndex rfl (by simp [len]) hr ((ownRemoteStart_eq len).trans ?_)
    rcases connPlan_out out with h | h
    · rw [h]
    · rw [h]
      cases indexByte 48 n <;> rfl
  · intro inside bad
    obtain ⟨c, p, hc, hp⟩ := connPlan_in inside
    refine exec_refused .badRequest rfl (by simp [len]) hr ((ownRemoteStart_eq len).trans ?_)
    rw [hc, hp]
    dsimp only
    rcases bad with h | ⟨given, h⟩
    · rw [indexByte_of_le h]
    · rw [tokenOperand_none len given h]
      cases indexByte 4 cls <;> rfl

theorem ownRemoteStart_taken {n b3 b2 b1 b0 cls plan : Byte} {bytes : Frame} {s : State} {c : Conn}
    {p : Option PlanSlot}
    {k : ClassNo} {token : Option Token} (len : bytes.length = 12) (hn : indexByte 48 n = some c)
    (hp : optSlotByte plan = some p) (hk : indexByte 4 cls = some k) (ht : tokenOperand bytes = some token) :
    ownRemoteStart ([n, b3, b2, b1, b0, cls, plan] ++ bytes) s =
      s.remoteStart c (num [b3, b2, b1, b0]) k p token := by
  refine (ownRemoteStart_eq len).trans ?_
  rw [hn, hp, hk, ht]

/-- Settles O36. -/
theorem remoteStartAcceptsOrRefuses : Obligations.RemoteStartAcceptsOrRefuses := by
  refine ⟨fun s tag n b3 b2 b1 b0 cls plan token hr len => exec_remoteStart_refused hr len, ?_⟩
  intro s n tag b3 b2 b1 b0 cls given token hr fits
  dsimp only
  have len := tokenBytes_length fits
  have hn := indexByte_byte n (by decide)
  have hk := indexByte_byte cls (by decide)
  have hp := optSlotByte_optSlotOf given
  have ht := tokenOperand_written fits
  have owner : ownerOf
    (.remoteStart tag ([byte n.val, b3, b2, b1, b0, byte cls.val, optSlotOf given] ++ tokenBytes token))
      s.taken = s.taken.remoteStart n (num [b3, b2, b1, b0]) cls given token := ownRemoteStart_taken len hn hp hk ht
  have short (plan : Byte) : ([byte n.val, b3, b2, b1, b0, byte cls.val, plan] ++ tokenBytes token).length ≤ 250 := by
    simp [len]
  refine ⟨fun refused => ?_, fun startable vacant => ?_, fun startable loaded room => ?_⟩
  · exact exec_refused .wrongState rfl (short _) hr (owner.trans (State.remoteStart_refused (s := s.taken) refused))
  · have started := State.remoteStart_startable (budget := num [b3, b2, b1, b0]) (cls := cls) (plan := given)
      (token := token) (s := s.taken) (n := n) startable
    have empty : (s.taken.plan (given.getD (s.taken.defaultPlan n))).loaded = false := vacant
    rw [empty, if_neg Bool.false_ne_true] at started
    exact exec_owner_answered rfl (short _) hr (owner.trans started) rfl
  · have started := State.remoteStart_startable (budget := num [b3, b2, b1, b0]) (cls := cls) (plan := given)
      (token := token) (s := s.taken) (n := n) startable
    have full : (s.taken.plan (given.getD (s.taken.defaultPlan n))).loaded = true := loaded
    rw [full, if_pos rfl] at started
    have roomy : s.taken.roomForClose n := ⟨startable.1, room⟩
    have polls := State.accept_polls (a := ⟨token, .remote, cls, num [b3, b2, b1, b0],
      given.getD (s.taken.defaultPlan n), none⟩) roomy startable.2.1
    obtain ⟨accepted, kept, held, -, others⟩ := State.accept_accepted (s := s.taken)
      ⟨token, .remote, cls, num [b3, b2, b1, b0], given.getD (s.taken.defaultPlan n), none⟩ roomy
    obtain ⟨t, run, uplink, same⟩ := exec_owned rfl (short _) hr (owner.trans started) (kept .uplink (by simp))
    refine ⟨t, run, (kept.answered same).mono (by simp), accepted.to_same same, uplink,
      (congrArg AuthState.held same.auth).trans held, fun idle => ?_, fun m hm => ?_⟩
    · rw [State.linkOf, same.ped]
      exact polls idle
    · exact ⟨(same.sess m).trans (others m hm).1, (same.seq m).trans (others m hm).2⟩

end Sys2Proof.Machine
end

section
/-! PROOF. Late answers (O35). -/

namespace Sys2Proof.Machine

/-! ### The budget check (R130) -/

theorem State.budgetCheck_stops {n : Conn} {s : State} (h : (s.sess n).state = .charging ∨ (s.sess n).state = .complete)
    (reached : (s.sess n).threshold ≤ (s.sess n).running) : s.budgetCheck n = s.beginStop .budget n := by
  have stops : EndReason.budget.stops (s.sess n).state = true := by rcases h with h | h <;> rw [h] <;> rfl
  rw [← State.stopCause_stops stops]
  unfold State.budgetCheck
  dsimp only
  rcases h with h | h <;> rw [h] <;> exact if_pos reached

theorem State.budgetCheck_stays {n : Conn} {s : State}
    (h : ¬ (((s.sess n).state = .charging ∨ (s.sess n).state = .complete) ∧ (s.sess n).threshold ≤ (s.sess n).running))
    :
    s.budgetCheck n = s := by
  unfold State.budgetCheck
  dsimp only
  cases hk : (s.sess n).state with
  | charging | complete => exact if_neg fun reached => h ⟨by simp [hk], reached⟩
  | empty | awaitingAuth | authorized | stopping | closed => rfl

/-- A budget check changes its own connector and, where it ends a charge, the allocation. -/
theorem State.budgetCheck_kept (n : Conn) (s : State) :
    SameBut [.line, .sequencer, .sessions, .alloc] s (s.budgetCheck n) ∧
    (∀ m, m ≠ n → (s.budgetCheck n).sess m = s.sess m ∧ (s.budgetCheck n).seq m = s.seq m) := by
  by_cases h : ((s.sess n).state = .charging ∨ (s.sess n).state = .complete) ∧ (s.sess n).threshold ≤ (s.sess n).running
  · have keeps := Keeps.budgetCheck (M := atConn n) s (touches_atConn n)
    rw [State.budgetCheck_stops h.1 h.2] at keeps ⊢
    exact ⟨(State.beginStop_kept .budget n s).1, fun m hm => ⟨keeps.sess_of_ne hm, keeps.seq_of_ne hm⟩⟩
  · rw [State.budgetCheck_stays h]
    exact ⟨.refl _ _, fun _ _ => ⟨rfl, rfl⟩⟩

/-! ### Late answers (R72) -/

/-- The session entry after a late ACCEPT. -/
def Session.adjusted (e : Session) (budget headroom : Nat) : Session :=
  { e with lateTag := none, budget := max budget e.running, threshold := max budget e.running - headroom }

/-- The session entry after a late REJECT, before its stop. -/
def Session.lateRejected (e : Session) : Session :=
  { e with lateTag := none, flags := e.flags ||| 32 }

/-- The state with another session entry at n and the decision that brought it. -/
def State.withLate (s : State) (n : Conn) (e : Session) (k : DecisionKind) : State :=
  { s with
    sessions := { s.sessions with entries := tset s.sessions.entries n e }
    auth := { s.auth with decisions := tset s.auth.decisions n (some ⟨k, s.sec⟩) } }

theorem State.lateAccept_eq (a : Answer) (s : State) : s.lateAccept a =
    (s.withLate a.conn ((s.sess a.conn).adjusted a.budget s.metering.headroom) (.lateAccepted a.tag)).budgetCheck
    a.conn :=
  rfl

theorem State.lateReject_eq (a : Answer) (s : State) : s.lateReject a =
    (s.withLate a.conn (s.sess a.conn).lateRejected (.lateRejected a.tag)).stopCause .lateReject a.conn := rfl

section late

variable (s : State) (n : Conn) (e : Session) (k : DecisionKind)

theorem State.withLate_sess (m : Conn) : (s.withLate n e k).sess m = if m = n then e else s.sess m :=
  tget_tset s.sessions.entries n m e

theorem State.withLate_kept : SameBut [.auth, .sessions] s (s.withLate n e k) := by
  intro b hb
  cases b with
  | auth | sessions => simp at hb
  | _ => rfl

theorem State.withLate_decision : (s.withLate n e k).decision n = some ⟨k, s.sec⟩ := tget_tset_same ..

/-- A late ACCEPT at a session that charges or rests: its budget check. -/
theorem State.withLate_budgetCheck (h : e.state = .charging ∨ e.state = .complete) :
    let t := (s.withLate n e k).budgetCheck n
    SameBut [.line, .sequencer, .auth, .sessions, .alloc] s t ∧ t.decision n = some ⟨k, s.sec⟩ ∧
    t.sess n = (if e.threshold ≤ e.running then e.stoppedAt .budget (s.sec + s.sessions.stopWait) else e) ∧
    ∀ m, m ≠ n → t.sess m = s.sess m ∧ t.seq m = s.seq m := by
  have before := s.withLate_kept n e k
  have sess := s.withLate_sess n e k
  have decision := s.withLate_decision n e k
  have wait : (s.withLate n e k).sec + (s.withLate n e k).sessions.stopWait = s.sec + s.sessions.stopWait := rfl
  have seq (m : Conn) : (s.withLate n e k).seq m = s.seq m := rfl
  dsimp only
  generalize s.withLate n e k = u at before sess decision wait seq
  obtain ⟨kept, others⟩ := u.budgetCheck_kept n
  have auth := kept .auth (by simp)
  refine ⟨(before.mono (by simp)).trans (kept.mono (by simp)), ?_, ?_, fun m hm => ?_⟩
  · rw [← decision, State.decision, auth, State.decision]
  · rw [State.budgetCheck_sess, sess, if_pos rfl, wait]
    exact if_congr (and_iff_right h) rfl rfl
  · obtain ⟨keptSess, keptSeq⟩ := others m hm
    rw [keptSess, sess, if_neg hm, keptSeq, seq]
    exact ⟨rfl, rfl⟩

/-- A late REJECT at a session that is open: its stop. -/
theorem State.withLate_stopCause (h : e.state.open_) :
    let t := (s.withLate n e k).stopCause .lateReject n
    SameBut [.line, .sequencer, .auth, .sessions, .alloc] s t ∧ t.decision n = some ⟨k, s.sec⟩ ∧
    t.sess n = e.stoppedAt .lateReject (s.sec + s.sessions.stopWait) ∧
    (t.seq n).contactor = s.contactorAfterOpen n ∧ ∀ m, m ≠ n → t.sess m = s.sess m ∧ t.seq m = s.seq m := by
  have before := s.withLate_kept n e k
  have sess := s.withLate_sess n e k
  have decision := s.withLate_decision n e k
  have wait : (s.withLate n e k).sec + (s.withLate n e k).sessions.stopWait = s.sec + s.sessions.stopWait := rfl
  have seq (m : Conn) : (s.withLate n e k).seq m = s.seq m := rfl
  have contactor : (s.withLate n e k).contactorAfterOpen n = s.contactorAfterOpen n := rfl
  dsimp only
  generalize s.withLate n e k = u at before sess decision wait seq contactor
  have own := (sess n).trans (if_pos rfl)
  have stops : EndReason.lateReject.stops (u.sess n).state = true := by
    rw [own]
    rcases h with h | h | h <;> rw [h] <;> rfl
  have keeps := Keeps.stopCause (M := atConn n) .lateReject u (touches_atConn n)
  rw [State.stopCause_stops stops] at keeps ⊢
  have kept := (State.beginStop_kept .lateReject n u).1
  refine ⟨(before.mono (by simp)).trans (kept.mono (by simp)), ?_, ?_, ?_, fun m hm => ?_⟩
  · rw [← decision, State.decision, kept .auth (by simp), State.decision]
  · rw [State.beginStop_sess, own, wait]
  · rw [State.beginStop_contactor _ _ _ (EndReason.stops_not_empty stops), contactor]
  · rw [keeps.sess_of_ne hm, sess, if_neg hm, keeps.seq_of_ne hm, seq]
    exact ⟨rfl, rfl⟩

end late

/-- An answer with no held query, for the session that waits for its tag and for any other. -/
theorem State.takeAnswer_late {s : State} {a : Answer} (none_ : s.matchHeld a = none) : s.takeAnswer a =
    if (s.sess a.conn).lateTag = some a.tag then
      if a.accept then (s.lateAccept a, .lateAccepted) else (s.lateReject a, .lateRejected)
    else (s.raise .lateAnswer, .ignored) := by
  rw [State.takeAnswer, none_]

/-- Settles O35. -/
theorem lateAnswersAdjustOrAreIgnored : Obligations.LateAnswersAdjustOrAreIgnored := by
  intro s n tag qtag b3 b2 b1 b0 cls verdict hr others
  dsimp only
  have hn := indexByte_byte n (by decide)
  have hk := indexByte_byte cls (by decide)
  have hp : optSlotByte 255 = some none := rfl
  have hv : verdictByte (if verdict then 0 else 1) = some verdict := by cases verdict <;> rfl
  obtain ⟨a, ha⟩ : ∃ a : Answer, a = ⟨n, qtag, verdict, num [b3, b2, b1, b0], cls, none⟩ := ⟨_, rfl⟩
  have unheld : s.taken.matchHeld a = none := by
    refine List.find?_eq_none.2 fun h mem => ?_
    rw [ha, Bool.and_eq_true, beq_iff_eq, beq_iff_eq]
    exact fun ⟨conn, same⟩ => others h mem conn same
  have late := State.takeAnswer_late unheld
  rw [ha] at late
  have owned {u : State} {d : AnswerDisposition} (taken : s.taken.takeAnswer
      ⟨n, qtag, verdict, num [b3, b2, b1, b0], cls, none⟩ = (u, d)) (same : u.uplink = s.taken.uplink) :=
    exec_authAnswer_owned (tag := tag) hr hn hp hv hk taken same
  have answered {u : State} {d : AnswerDisposition} (taken : s.taken.takeAnswer
      ⟨n, qtag, verdict, num [b3, b2, b1, b0], cls, none⟩ = (u, d)) :
      ownerOf (.authAnswer tag [byte n.val, qtag, if verdict then 0 else 1, b3, b2, b1, b0, byte cls.val, 255]) s.taken
        =
        (u, .ok [byte d.number]) := by
    refine (ownAuthAnswer_taken hn hp hv hk).trans ?_
    rw [taken]
  have waits : (s.sess n).lateTag = some qtag → (s.taken.sess n).lateTag = some qtag := id
  refine ⟨fun other => ?_, fun mine accept charges => ?_, fun mine accept rests => ?_, fun mine reject stopping => ?_,
    fun mine reject runs => ?_⟩
  · rw [if_neg (show ¬ (s.taken.sess n).lateTag = some qtag from other)] at late
    rw [exec_owner rfl (by simp) hr (answered late), State.raise_eq]
    rfl
  · rw [if_pos (waits mine), if_pos accept, State.lateAccept_eq] at late
    dsimp only at late
    obtain ⟨kept, decision, sess, rest⟩ := s.taken.withLate_budgetCheck n
      ((s.taken.sess n).adjusted (num [b3, b2, b1, b0]) s.taken.metering.headroom) (.lateAccepted qtag) charges
    obtain ⟨t, run, uplink, same⟩ := owned late (kept .uplink (by simp))
    exact ⟨t, run, (kept.answered same).mono (by simp), uplink, (same.decision n).trans decision,
      (same.sess n).trans sess,
      fun m hm => ⟨(same.sess m).trans (rest m hm).1, (same.seq m).trans (rest m hm).2⟩⟩
  · have unchecked : (s.taken.withLate n ((s.taken.sess n).adjusted (num [b3, b2, b1, b0]) s.taken.metering.headroom)
        (.lateAccepted qtag)).budgetCheck n = s.taken.withLate n
          ((s.taken.sess n).adjusted (num [b3, b2, b1, b0]) s.taken.metering.headroom) (.lateAccepted qtag) := by
      refine State.budgetCheck_stays fun ⟨charges, _⟩ => ?_
      rw [State.withLate_sess, if_pos rfl] at charges
      replace charges : (s.sess n).state = .charging ∨ (s.sess n).state = .complete := charges
      rcases rests with h | h <;> rw [h] at charges <;> exact charges.elim nofun nofun
    rw [if_pos (waits mine), if_pos accept, State.lateAccept_eq] at late
    dsimp only at late
    rw [unchecked] at late
    exact exec_owner_answered rfl (by simp) hr (answered late) rfl
  · have unstopped : (s.taken.withLate n (s.taken.sess n).lateRejected (.lateRejected qtag)).stopCause .lateReject n =
        s.taken.withLate n (s.taken.sess n).lateRejected (.lateRejected qtag) := by
      have state : ((s.taken.withLate n (s.taken.sess n).lateRejected (.lateRejected qtag)).sess n).state =
        .stopping := by
        rw [State.withLate_sess, if_pos rfl]
        exact stopping
      exact State.stopCause_none (by rw [state]; rfl) fun ends => by rw [state] at ends; cases ends.1
    rw [if_pos (waits mine), if_neg (by simp [reject]), State.lateReject_eq] at late
    dsimp only at late
    rw [unstopped] at late
    exact exec_owner_answered rfl (by simp) hr (answered late) rfl
  · rw [if_pos (waits mine), if_neg (by simp [reject]), State.lateReject_eq] at late
    dsimp only at late
    obtain ⟨kept, decision, sess, contactor, rest⟩ := s.taken.withLate_stopCause n (s.taken.sess n).lateRejected
      (.lateRejected qtag) runs
    obtain ⟨t, run, uplink, same⟩ := owned late (kept .uplink (by simp))
    exact ⟨t, run, (kept.answered same).mono (by simp), uplink, (same.decision n).trans decision,
      (same.sess n).trans sess,
      (congrArg SeqRecord.contactor (same.seq n)).trans contactor,
      fun m hm => ⟨(same.sess m).trans (rest m hm).1, (same.seq m).trans (rest m hm).2⟩⟩

end Sys2Proof.Machine
end

section
/-! SUPPORT. A turn of one connector: what a stop, a lock source or a fault at it leaves alone, and what two turns in a
row leave of each connector (R29, R50, R52). -/

namespace Sys2Proof.Machine

/-- What a turn of connector n leaves alone: the blocks outside the list, the other connectors, the waits, and
what is raised already. -/
structure Turn (n : Conn) (l : List Block) (s t : State) : Prop where
  kept : SameBut l s t
  keeps : Keeps (atConn n) s t
  stopWait : t.sessions.stopWait = s.sessions.stopWait
  held : ∀ h ∈ t.auth.held, h ∈ s.auth.held
  closeWaits : ∀ m, m ≠ n → t.closeWaits m = s.closeWaits m
  events : ∀ k, hasEvent k s.uplink.pendingSet = true → hasEvent k t.uplink.pendingSet = true

theorem Turn.refl (n : Conn) (l : List Block) (s : State) : Turn n l s s :=
  ⟨.refl _ _, .refl _, rfl, fun _ h => h, fun _ _ => rfl, fun _ h => h⟩

theorem Turn.trans {n : Conn} {l : List Block} {s t u : State} (h : Turn n l s t) (g : Turn n l t u) : Turn n l s u :=
  ⟨h.kept.trans g.kept, h.keeps.trans g.keeps, g.stopWait.trans h.stopWait, fun x hx => h.held x (g.held x hx),
    fun m hm => (g.closeWaits m hm).trans (h.closeWaits m hm), fun k hk => g.events k (h.events k hk)⟩

theorem Turn.mono {n : Conn} {l l' : List Block} {s t : State} (h : Turn n l s t) (hl : ∀ b ∈ l, b ∈ l') :
    Turn n l' s t := ⟨h.kept.mono hl, h.keeps, h.stopWait, h.held, h.closeWaits, h.events⟩

/-! ### The turns -/

theorem Turn.beginStop {n : Conn} {why : EndReason} {s : State} (h : why.stops (s.sess n).state = true) :
    Turn n [.line, .sequencer, .sessions, .alloc] s (s.beginStop why n) := by
  have keeps := Keeps.stopCause (M := atConn n) why s (touches_atConn n)
  rw [State.stopCause_stops h] at keeps
  have auth := State.beginStop_auth why n s
  have uplink := State.beginStop_uplink why n s
  refine ⟨(s.beginStop_kept why n).1, keeps, State.beginStop_stopWait why n s, fun _ hx => by rwa [auth] at hx,
    fun m hm => ?_, fun _ hk => by rwa [uplink]⟩
  have stopped : (s.stoppedAt why n).closeWaits m = s.closeWaits m := by
    rw [State.stoppedAt_of_not_empty why n s (EndReason.stops_not_empty h)]
    exact State.openCause_closeWaits_of_ne _ hm
  rcases s.beginStop_cases why n with ⟨-, e⟩ | ⟨-, e⟩
  · rw [e, State.pass_closeWaits, stopped]
  · rw [e, stopped]

theorem State.withdraw_stopWait (n : Conn) (s : State) : (s.withdraw n).sessions.stopWait = s.sessions.stopWait := by
  unfold State.withdraw
  dsimp only
  rw [State.setSess_to_empty n _ _ rfl]
  split <;> rfl

theorem Turn.stopCause (why : EndReason) (n : Conn) (s : State) :
    Turn n [.line, .sequencer, .auth, .sessions, .alloc] s (s.stopCause why n) := by
  by_cases stops : why.stops (s.sess n).state = true
  · rw [State.stopCause_stops stops]
    exact (Turn.beginStop stops).mono (by simp)
  by_cases ends : why.ends (s.sess n).state
  · have keeps := Keeps.stopCause (M := atConn n) why s (touches_atConn n)
    have uplink := State.withdraw_uplink n s
    rw [State.stopCause_ends ends] at keeps ⊢
    refine ⟨(s.withdraw_kept n).mono (by simp), keeps, s.withdraw_stopWait n, fun x hx => ?_,
      fun m _ => State.closeWaits_congr (by rw [State.ped, State.withdraw_line, State.ped]),
        fun _ hk => by rwa [uplink]⟩
    rw [State.withdraw_auth_held] at hx
    exact (List.mem_filter.1 hx).1
  · rw [State.stopCause_none (Bool.not_eq_true _ ▸ stops) ends]
    exact .refl _ _ _

/-- A lock source added to a connector (R50). -/
theorem Turn.addLock (n : Conn) (src : LockSource) (s : State) :
    Turn n [.line, .sequencer, .auth, .sessions, .alloc] s (s.addLock n src) := by
  have keeps := Keeps.addLock (M := atConn n) src s (touches_atConn n)
  have kept := s.addLock_kept n src
  by_cases free : (s.seq n).locks = ⟨false, false⟩
  · rw [State.addLock_of_free free] at kept keeps ⊢
    have stopped := Turn.stopCause .lockout n (s.updSeq n fun r => { r with locks := r.locks.put true src })
    have waits : ∀ m, m ≠ n → (s.updSeq n fun r => { r with locks := r.locks.put true src }).closeWaits m =
      s.closeWaits m :=
      fun _ _ => rfl
    have wait : (s.updSeq n fun r => { r with locks := r.locks.put true src }).sessions.stopWait =
      s.sessions.stopWait := rfl
    have auth : (s.updSeq n fun r => { r with locks := r.locks.put true src }).auth = s.auth := rfl
    have uplink : (s.updSeq n fun r => { r with locks := r.locks.put true src }).uplink = s.uplink := rfl
    generalize (s.updSeq n fun r => { r with locks := r.locks.put true src }) =
      u at kept keeps stopped waits wait auth uplink ⊢
    obtain ⟨sessions', auth'⟩ := State.lockedOpen_sess n (u.stopCause .lockout n)
    have closes (m : Conn) (hm : m ≠ n) :
        ((u.stopCause .lockout n).lockedOpen n).closeWaits m = (u.stopCause .lockout n).closeWaits m := by
      unfold State.lockedOpen
      split
      · exact State.closeWaits_congr (State.setContactor_queue n _ _ _)
      iterate 3 exact State.openCause_closeWaits_of_ne _ hm
      iterate 3 rfl
    have up : ((u.stopCause .lockout n).lockedOpen n).uplink = (u.stopCause .lockout n).uplink := by
      unfold State.lockedOpen
      split <;> simp
    refine ⟨kept, keeps, by rw [sessions', stopped.stopWait, wait], fun x hx => ?_,
      fun m hm => (closes m hm).trans ((stopped.closeWaits m hm).trans (waits m hm)), fun k hk => ?_⟩
    · rw [auth'] at hx
      rw [← auth]
      exact stopped.held x hx
    · rw [up]
      exact stopped.events k (by rwa [uplink])
  · rw [State.addLock_of_locked free] at kept keeps ⊢
    exact ⟨kept, keeps, rfl, fun _ hx => hx, fun _ _ => rfl, fun _ hk => hk⟩

theorem State.faulted_kept (n : Conn) (k : FaultKind) (s : State) :
    SameBut [.line, .sequencer, .uplink] s (s.faulted n k) := by
  unfold State.faulted
  intro b hb
  cases b with
  | line | sequencer | uplink => simp at hb
  | classifier | auth | sessions | tariff | clock | metering | alloc | settlement | pending => simp [SameAt]

/-- A fault cause at a connector (R52). -/
theorem Turn.enterFaulted (n : Conn) (k : FaultKind) (s : State) :
    Turn n [.line, .sequencer, .auth, .sessions, .alloc, .uplink] s (s.enterFaulted n k) := by
  by_cases faulted : (s.seq n).contactor = .faulted
  · rw [State.enterFaulted_of_faulted k faulted]
    exact .refl _ _ _
  have keeps := Keeps.enterFaulted (M := atConn n) k s (touches_atConn n)
  have before := s.faulted_kept n k
  have uplink := (s.faulted_facts n k).2.2.2.2
  have waits (m : Conn) (hm : m ≠ n) : (s.faulted n k).closeWaits m = s.closeWaits m := by
    have raised (u : State) : (u.raise .connectorFault).closeWaits m = u.closeWaits m :=
      State.closeWaits_congr (by rw [State.ped, State.raise_line, State.ped])
    have set (f : SeqRecord → SeqRecord) : ((s.setContactor n .faulted).updSeq n f).closeWaits m = s.closeWaits m :=
      State.closeWaits_congr (State.setContactor_queue n .faulted (pedOf m) s)
    rw [State.faulted, raised, State.setOpenSlot_closeWaits_of_ne _ hm, set]
  rw [State.enterFaulted_of_not k faulted] at keeps ⊢
  generalize s.faulted n k = u at keeps before uplink waits
  have stopped := Turn.stopCause .pedestalFault n u
  have auth : u.auth = s.auth := before .auth (by simp)
  have sessions : u.sessions = s.sessions := before .sessions (by simp)
  refine ⟨(before.mono (by simp)).trans (stopped.kept.mono (by simp)), keeps, by rw [stopped.stopWait, sessions],
    fun x hx => by rw [← auth]; exact stopped.held x hx, fun m hm => (stopped.closeWaits m hm).trans (waits m hm),
    fun e he => stopped.events e ?_⟩
  rw [uplink]
  show hasEvent e (s.uplink.pendingSet ||| EventKind.only .connectorFault) = true
  rw [hasEvent_or_only, he, Bool.or_true]

/-! ### Two turns in a row -/

/-- A later turn at another connector. -/
theorem StopTaken.later {why : EndReason} {n : Conn} {now : Nat} {s t t' : State} (h : StopTaken why n now s t)
    (sess : t'.sess n = t.sess n) (held : ∀ x ∈ t'.auth.held, x ∈ t.auth.held) : StopTaken why n now s t' := by
  unfold StopTaken at h ⊢
  rw [sess]
  cases hk : (s.sess n).state with
  | awaitingAuth =>
    rw [hk] at h
    dsimp only at h ⊢
    split at h
    · next w =>
      rw [if_pos w]
      exact ⟨h.1, fun x hx => h.2 x (held x hx)⟩
    · next w =>
      rw [if_neg w]
      exact h
  | _ =>
    rw [hk] at h
    exact h

/-- An earlier turn at another connector. -/
theorem StopTaken.earlier {why : EndReason} {n m : Conn} {l : List Block} {s v t : State}
    (h : StopTaken why n v.sec v t)
    (turn : Turn m l s v) (hn : n ≠ m) (hl : .clock ∉ l) : StopTaken why n s.sec s t := by
  have clock : v.clock = s.clock := turn.kept .clock hl
  have sec : v.sec = s.sec := by rw [State.sec, clock, State.sec]
  rw [sec] at h
  exact h.congr (turn.keeps.sess_of_ne hn).symm turn.stopWait.symm rfl rfl

theorem FaultTaken.later {k : FaultKind} {n m : Conn} {l : List Block} {s t t' : State} (h : FaultTaken k n s t)
    (turn : Turn m l t t') (hn : n ≠ m) : FaultTaken k n s t' := by
  have seq := turn.keeps.seq_of_ne hn
  have sess := turn.keeps.sess_of_ne hn
  unfold FaultTaken at h ⊢
  split at h
  · next faulted =>
    rw [if_pos faulted, seq, sess]
    exact h
  · next faulted =>
    obtain ⟨record, openSet, event, stop⟩ := h
    rw [if_neg faulted, seq, turn.keeps.openSet_of_ne hn]
    exact ⟨record, openSet, turn.events _ event, stop.later sess turn.held⟩

theorem FaultTaken.earlier {k : FaultKind} {n m : Conn} {l : List Block} {s v t : State} (h : FaultTaken k n v t)
    (turn : Turn m l s v) (hn : n ≠ m) (hl : .clock ∉ l) : FaultTaken k n s t := by
  have seq := turn.keeps.seq_of_ne hn
  have sess := turn.keeps.sess_of_ne hn
  unfold FaultTaken at h ⊢
  rw [seq, sess] at h
  split at h
  · next faulted =>
    rw [if_pos faulted]
    exact h
  · next faulted =>
    obtain ⟨record, openSet, event, stop⟩ := h
    rw [if_neg faulted]
    exact ⟨record, openSet, event, stop.earlier turn hn hl⟩

theorem LockTaken.later {locks : Locks} {n m : Conn} {l : List Block} {s t t' : State} (h : LockTaken n locks s t)
    (turn : Turn m l t t') (hn : n ≠ m) : LockTaken n locks s t' := by
  have seq := turn.keeps.seq_of_ne hn
  have sess := turn.keeps.sess_of_ne hn
  exact ⟨by rw [seq, h.locks], by rw [seq, h.fault], by rw [seq, h.contactor],
    fun live => by rw [turn.keeps.openSet_of_ne hn, h.openSet live], fun closing => by rw [seq, h.pending closing],
    h.stop.later sess turn.held⟩

theorem LockTaken.earlier {locks : Locks} {n m : Conn} {l : List Block} {s v t : State} (h : LockTaken n locks v t)
    (turn : Turn m l s v) (hn : n ≠ m) (hl : .clock ∉ l) : LockTaken n locks s t := by
  obtain ⟨locked, fault, contactor, openSet, pending, stop⟩ := h
  have after : v.contactorAfterOpen n = s.contactorAfterOpen n := by
    rw [State.contactorAfterOpen, turn.keeps.seq_of_ne hn, turn.closeWaits n hn, State.contactorAfterOpen]
  rw [turn.keeps.seq_of_ne hn] at fault contactor openSet pending
  rw [after] at contactor
  rw [turn.closeWaits n hn] at pending
  exact ⟨locked, fault, contactor, openSet, pending, stop.earlier turn hn hl⟩

end Sys2Proof.Machine
end

section
/-! PROOF. Offered messages (O26). -/

namespace Sys2Proof.Machine

/-! ### The form of a message (R27, 11.5) -/

theorem tokenPayload_some {payload : Frame} {t : Token} (h : tokenPayload payload = some t) :
    payload = t.kind.byteOf :: byte t.id.length :: t.id := by
  unfold tokenPayload at h
  split at h
  · next kind len id =>
    split at h
    · next k hk =>
      split at h
      · next ok =>
        cases h
        rw [Bool.and_eq_true, beq_iff_eq] at ok
        rw [tokenKindByte_some hk, ok.2, byte, BitVec.ofNat_toNat, BitVec.setWidth_eq]
      · cases h
    · cases h
  · cases h

theorem tokenPayload_written {t : Token} (h : t.fits) :
    tokenPayload (t.kind.byteOf :: byte t.id.length :: t.id) = some t := by
  have long : (byte t.id.length).toNat = t.id.length := byte_toNat_of_lt (by have := h.length_le; omega)
  have ok : (idLengthOk (byte t.id.length).toNat && t.id.length == (byte t.id.length).toNat) = true := by
    rw [long, beq_self_eq_true, Bool.and_true]
    rcases h with h | h | h <;> rw [h] <;> decide
  rw [tokenPayload, tokenKindByte_byteOf]
  exact if_pos ok

/-- What a message with a local meaning looks like. -/
def Message.means (m : Message) : LocalMessage → Prop
  | .token l t => m.code = 1 ∧ m.letter = some l ∧ t.fits ∧ m.payload = t.kind.byteOf :: byte t.id.length :: t.id
  | .stopRequest l => m.code = 2 ∧ m.letter = some l ∧ m.payload = []
  | .faultReport l code => m.code = 3 ∧ m.letter = l ∧ m.payload = [code]
  | .serviceSwitch on => m.code = 4 ∧ m.letter = none ∧ m.payload = [if on then 1 else 0]

theorem boolByte_some {b : Byte} {v : Bool} (h : boolByte b = some v) : b = if v then 1 else 0 := by
  unfold boolByte at h
  split at h
  · next e => cases h; exact e
  · split at h
    · next e => cases h; exact e
    · cases h

theorem localMessage_means {m : Message} {x : LocalMessage} (h : localMessage m = some x) : m.means x := by
  unfold localMessage at h
  split at h
  · next code =>
    split at h
    · next l t letter token =>
      cases h
      exact ⟨code, letter, tokenPayload_fits token, tokenPayload_some token⟩
    · cases h
  split at h
  · next code =>
    split at h
    · next l letter payload =>
      cases h
      exact ⟨code, letter, payload⟩
    · cases h
  split at h
  · next code =>
    split at h
    · next c payload =>
      cases h
      exact ⟨code, rfl, payload⟩
    · cases h
  split at h
  · next code =>
    split at h
    · next position letter payload =>
      obtain ⟨on, read, e⟩ := Option.map_eq_some_iff.1 h
      subst e
      exact ⟨code, letter, by rw [payload, boolByte_some read]⟩
    · cases h
  · cases h

theorem localMessage_of_means {m : Message} {x : LocalMessage} (h : m.means x) : localMessage m = some x := by
  unfold localMessage
  cases x with
  | token l t =>
    obtain ⟨code, letter, fits, payload⟩ := h
    rw [if_pos code, letter, payload, tokenPayload_written fits]
  | stopRequest l =>
    obtain ⟨code, letter, payload⟩ := h
    rw [code, letter, payload]
    rfl
  | faultReport l c =>
    obtain ⟨code, letter, payload⟩ := h
    rw [code, letter, payload]
    rfl
  | serviceSwitch on =>
    obtain ⟨code, letter, payload⟩ := h
    rw [code, letter, payload]
    cases on <;> rfl

/-! ### How an offer is taken (R12, R28) -/

/-- The state once an offer has been accepted. -/
def State.acceptedOffer (p : Ped) (m : Message) (s : State) : State :=
  s.updPed p fun e => { e with lastMessage := some m.number, disposition := .accepted }

/-- The state an offer is handed over in: a LOCAL_AND_UP message has joined the pass-up queue. -/
def State.offered (s : State) (p : Ped) (m : Message) : State :=
  { s with classifier := { s.classifier with
    passUp := if tget s.classifier.actions m.code = .toOwner then s.classifier.passUp
      else s.classifier.passUp ++ [⟨p, m.letter, m.code, m.payload⟩] } }

section offers

variable {s : State} {p : Ped} {m : Message}

theorem State.offerMessage_told (h : (s.ped p).lastMessage = some m.number) :
    s.offerMessage p m = s.updPed p fun e => { e with disposition := .accepted } := if_pos h

theorem State.offerMessage_new (h : (s.ped p).lastMessage ≠ some m.number) : s.offerMessage p m =
    if (s.takeOffer p m).2 then (s.takeOffer p m).1.acceptedOffer p m
    else (s.takeOffer p m).1.updPed p fun e => { e with disposition := .hold } := if_neg h

theorem State.offerMessage_taken {u : State} (h : (s.ped p).lastMessage ≠ some m.number)
    (taken : s.takeOffer p m = (u, true)) : s.offerMessage p m = u.acceptedOffer p m := by
  rw [State.offerMessage_new h, taken]
  rfl

theorem State.offerMessage_held {u : State} (h : (s.ped p).lastMessage ≠ some m.number)
    (taken : s.takeOffer p m = (u, false)) :
    s.offerMessage p m = u.updPed p fun e => { e with disposition := .hold } := by
  rw [State.offerMessage_new h, taken]
  rfl

theorem State.takeOffer_full (h : tget s.classifier.actions m.code = .up ∨ tget s.classifier.actions m.code =
    .toOwnerAndUp)
    (full : 16 ≤ s.classifier.passUp.length) : s.takeOffer p m = (s.holdOffer p, false) := by
  have room : s.passUpRoom = false := decide_eq_false (Nat.not_lt.2 full)
  rw [State.takeOffer]
  rcases h with h | h <;> rw [h, room] <;> rfl

theorem State.takeOffer_local (h : tget s.classifier.actions m.code = .toOwner ∨
    (tget s.classifier.actions m.code = .toOwnerAndUp ∧ s.classifier.passUp.length < 16)) :
    s.takeOffer p m = ((s.offered p m).handLocal p m, true) := by
  rw [State.takeOffer, State.offered]
  rcases h with h | ⟨h, room⟩
  · rw [h]
    rfl
  · have roomy : s.passUpRoom = true := decide_eq_true room
    rw [h, roomy]
    rfl

theorem State.handLocal_means {x : LocalMessage} (h : m.means x) : s.handLocal p m = s.handOver p x := by
  rw [State.handLocal, localMessage_of_means h]

/-- The facts on an offer that do not depend on what its message asks. -/
theorem State.offer_cases (s : State) (p : Ped) (m : Message) :
    ((s.ped p).lastMessage = some m.number →
      s.offerMessage p m = s.updPed p fun e => { e with disposition := .accepted }) ∧
    ((s.ped p).lastMessage ≠ some m.number → tget s.classifier.actions m.code = .drop →
      s.offerMessage p m = s.acceptedOffer p m) ∧
    ((s.ped p).lastMessage ≠ some m.number → tget s.classifier.actions m.code = .up →
      s.classifier.passUp.length < 16 → s.offerMessage p m = (s.appendPassUp p m).acceptedOffer p m) ∧
    ((s.ped p).lastMessage ≠ some m.number →
      tget s.classifier.actions m.code = .up ∨ tget s.classifier.actions m.code = .toOwnerAndUp →
      16 ≤ s.classifier.passUp.length →
      s.offerMessage p m = (s.holdOffer p).updPed p fun e => { e with disposition := .hold }) := by
  refine ⟨State.offerMessage_told, fun new drop => State.offerMessage_taken new ?_,
    fun new up room => State.offerMessage_taken new ?_,
    fun new up full => State.offerMessage_held new (State.takeOffer_full up full)⟩
  · rw [State.takeOffer, drop]
  · have roomy : s.passUpRoom = true := decide_eq_true room
    rw [State.takeOffer, up, roomy]
    rfl

/-! ### What a message handed over leaves alone -/

/-- What holds of the state after a message of pedestal p was handed over and its offer accepted. -/
def HandedOver (touched : List Block) (p : Ped) (m : Message) (s o t : State) : Prop :=
  SameBut (.line :: .classifier :: touched) s t ∧ t.classifier = o.classifier ∧
  (t.ped p).lastMessage = some m.number ∧ (t.ped p).disposition = .accepted ∧ (∀ q, q ≠ p → t.ped q = s.ped q) ∧
  ∀ n, pedOf n ≠ p → t.seq n = s.seq n ∧ t.sess n = s.sess n ∧ (t.slots n).openSet = (s.slots n).openSet

theorem handedOver {touched : List Block} {u : State} (kept : SameBut (.line :: touched) (s.offered p m) u)
    (free : .classifier ∉ touched) (keeps : Keeps (atPed p) (s.offered p m) u) :
    HandedOver touched p m s (s.offered p m) (u.acceptedOffer p m) := by
  have classifier : u.classifier = (s.offered p m).classifier := kept .classifier (by simpa using free)
  have ped (q : Ped) : (u.acceptedOffer p m).ped q = if q = p then
      { u.ped p with lastMessage := some m.number, disposition := .accepted } else u.ped q := State.updPed_ped _ _ _ _
  refine ⟨fun b hb => ?_, classifier, ?_, ?_, fun q hq => ?_, fun n hn => ⟨?_, ?_, ?_⟩⟩
  · obtain ⟨line, rest⟩ := not_or.1 (mt List.mem_cons.2 hb)
    obtain ⟨notClassifier, rest⟩ := not_or.1 (mt List.mem_cons.2 rest)
    have same := kept b (by simp [line, rest])
    cases b with
    | line => exact absurd rfl line
    | classifier => exact absurd rfl notClassifier
    | _ => exact same
  · rw [ped, if_pos rfl]
  · rw [ped, if_pos rfl]
  · rw [ped, if_neg hq]
    exact keeps.line.ped q (by simp [atPed, hq])
  · exact keeps.sequencer.rec_ n (by simp [atPed]; rintro l rfl; exact hn (pedOf_connOf p l))
  · exact keeps.entries.entry n (by simp [atPed]; rintro l rfl; exact hn (pedOf_connOf p l))
  · exact keeps.line.openSet n (by simp [atPed]; rintro l rfl; exact hn (pedOf_connOf p l))

theorem Keeps.atPed_of_atConn {l : Letter} {u v : State} (h : Keeps (atConn (connOf p l)) u v) : Keeps (atPed p) u v :=
  h.mono fun x hx => by
    rcases hx with rfl | hx
    · exact .inr ⟨l, rfl⟩
    · rw [Set.mem_singleton_iff] at hx
      rw [hx, pedOf_connOf]
      exact .inl rfl

end offers

theorem connOf_ne (p : Ped) : connOf p .a ≠ connOf p .b ∧ connOf p .b ≠ connOf p .a := by
  constructor <;> intro h <;> have := congrArg letterOf h <;> simp [letterOf_connOf] at this

end Sys2Proof.Machine
end

section
/-! PROOF. Messages handed to their owner (O26). -/

namespace Sys2Proof.Machine

/-! ### The service switch turned off (R50) -/

/-- The connector record without its SWITCH source. -/
def SeqRecord.unswitched (r : SeqRecord) : SeqRecord := { r with locks := { r.locks with switch := false } }

/-- Whether a connector leaves LOCKED with its SWITCH source. -/
def SeqRecord.unlocks (r : SeqRecord) : Prop := r.locks = ⟨false, true⟩ ∧ r.contactor = .locked

theorem State.removeLock_switch (n : Conn) (s : State) : s.removeLock n .switch =
    if (s.seq n).locks = ⟨false, true⟩ ∧ (s.seq n).contactor = .locked
    then (s.withSeq n (s.seq n).unswitched).enterOpen n else s.withSeq n (s.seq n).unswitched := by
  have put : (s.seq n).locks.put false .switch = { (s.seq n).locks with switch := false } := rfl
  have test : ((!(s.seq n).locks.isEmpty && ((s.seq n).locks.put false .switch).isEmpty &&
      ((s.withSeq n (s.seq n).unswitched).seq n).contactor == .locked) = true) ↔
      ((s.seq n).locks = ⟨false, true⟩ ∧ (s.seq n).contactor = .locked) := by
    rw [State.withSeq_seq, put]
    obtain ⟨host, switch⟩ := (s.seq n).locks
    cases host <;> cases switch <;> simp [Locks.isEmpty, SeqRecord.unswitched]
  show (if _ then _ else _) = _
  exact if_congr test rfl rfl

/-- What the switch turned off leaves of its connector, of its pedestal, and of the others. -/
structure SwitchedOff (n : Conn) (s t : State) : Prop where
  kept : SameBut [.line, .sequencer] s t
  keeps : Keeps (atConn n) s t
  park : t.sequencer.parkStop = s.sequencer.parkStop
  woken : ∀ q, (s.ped q).Woken (t.ped q)
  queue : (t.ped (pedOf n)).queue.length ≤ (s.ped (pedOf n)).queue.length + 1
  closeWaits : ∀ m, m ≠ n → t.closeWaits m = s.closeWaits m
  stays : ¬ (s.seq n).unlocks → t.seq n = (s.seq n).unswitched
  opens : (s.seq n).unlocks → OpenEntered { (s.seq n).unswitched with contactor := .opened } n s t

theorem switchedOff {n : Conn} {s : State} (room : (s.sess n).state = .authorized → s.roomForClose n) :
    SwitchedOff n s (s.removeLock n .switch) := by
  have keeps := Keeps.removeLock (M := atConn n) .switch s (touches_atConn n)
  rw [State.removeLock_switch] at keeps ⊢
  have same : SameBut [.sequencer] s (s.withSeq n (s.seq n).unswitched) := State.withSeq_kept n _ s
  have seq := State.withSeq_seq n (s.seq n).unswitched s
  have ped (q : Ped) : (s.withSeq n (s.seq n).unswitched).ped q = s.ped q := rfl
  have sess (m : Conn) : (s.withSeq n (s.seq n).unswitched).sess m = s.sess m := rfl
  have park : (s.withSeq n (s.seq n).unswitched).sequencer.parkStop = s.sequencer.parkStop := rfl
  split
  · next unlocks =>
    rw [if_pos unlocks] at keeps
    generalize s.withSeq n (s.seq n).unswitched = u at keeps same seq ped sess park
    have room' : (u.sess n).state = .authorized → u.roomForClose n := by
      rw [sess, State.roomForClose, State.linkOf, ped]
      exact room
    obtain ⟨entered, kept⟩ := State.enterOpen_entered room'
    rw [seq] at entered
    have sessions : u.sessions = s.sessions := same .sessions (by simp)
    have line : u.line = s.line := same .line (by simp)
    have rest : (u.enterOpen n).sequencer.parkStop = u.sequencer.parkStop ∧
        (∀ q, (u.ped q).Woken ((u.enterOpen n).ped q)) ∧
        ((u.enterOpen n).ped (pedOf n)).queue.length ≤ (u.ped (pedOf n)).queue.length + 1 ∧
        ∀ m, m ≠ n → (u.enterOpen n).closeWaits m = u.closeWaits m := by
      rw [State.enterOpen, State.setContactor_opened]
      have sess' : (u.withSeq n { u.seq n with contactor := .opened }).sess n = u.sess n := rfl
      have room'' : (u.withSeq n { u.seq n with contactor := .opened }).roomForClose n ↔ u.roomForClose n := Iff.rfl
      have ped' (q : Ped) : (u.withSeq n { u.seq n with contactor := .opened }).ped q = u.ped q := rfl
      have park' : (u.withSeq n { u.seq n with contactor := .opened }).sequencer.parkStop = u.sequencer.parkStop := rfl
      have waits' (m : Conn) : (u.withSeq n { u.seq n with contactor := .opened }).closeWaits m = u.closeWaits m := rfl
      generalize u.withSeq n { u.seq n with contactor := .opened } = v at sess' room'' ped' park' waits'
      cases closes : v.closeCondition n with
      | false =>
        rw [State.testClose_of_not closes]
        exact ⟨park', fun q => by rw [ped']; exact .refl _, by rw [ped']; omega, fun m _ => waits' m⟩
      | true =>
        have authorized := (State.closeCondition_iff.1 closes).2.1
        rw [sess'] at authorized
        rw [State.testClose_closes closes (room''.2 (room' authorized))]
        refine ⟨(State.startsClose_kept n v).2.2.2.trans park',
          fun q => by rw [← ped']; exact State.startsClose_woken n v q, ?_,
          fun m hm => (State.startsClose_closeWaits_of_ne n v hm).trans (waits' m)⟩
        rw [State.startsClose_queue, ped', List.length_append, List.length_singleton]
    obtain ⟨parks, wakes, queue, waits⟩ := rest
    exact ⟨(same.mono (by simp)).trans kept, keeps, parks.trans park, fun q => by rw [← ped]; exact wakes q,
      by rw [← ped]; exact queue, fun m hm => (waits m hm).trans (State.closeWaits_congr (by rw [ped])),
      fun not => absurd unlocks not, fun _ => entered.congr sessions.symm park.symm line.symm rfl rfl⟩
  · next stays =>
    rw [if_neg stays] at keeps
    exact ⟨same.mono (by simp), keeps, park, fun q => .refl _, Nat.le_succ _, fun _ _ => rfl, fun _ => seq,
      fun unlocks => absurd unlocks stays⟩

theorem OpenEntered.earlier {r : SeqRecord} {n m : Conn} {s v t : State} (h : OpenEntered r n v t)
    (off : SwitchedOff m s v) : OpenEntered r n s t := by
  have sessions : v.sessions = s.sessions := off.kept .sessions (by simp)
  unfold OpenEntered at h ⊢
  rw [State.sess, sessions, off.park, State.closable_congr (off.woken (pedOf n))] at h
  exact h

theorem OpenEntered.later {r : SeqRecord} {n : Conn} {s t t' : State} (h : OpenEntered r n s t)
    (seq : t'.seq n = t.seq n)
    (waits : t'.closeWaits n = t.closeWaits n) : OpenEntered r n s t' := by
  unfold OpenEntered at h ⊢
  rw [seq, waits]
  exact h

/-! ### Both connectors, A before B -/

theorem State.acceptedOffer_closeWaits (p : Ped) (m : Message) (n : Conn) (s : State) :
    (s.acceptedOffer p m).closeWaits n = s.closeWaits n := by
  refine State.closeWaits_congr ?_
  rw [State.acceptedOffer, State.updPed_ped]
  split
  · next h => rw [h]
  · rfl

section both

variable {p : Ped} {s : State}

/-- A fault at both connectors of a pedestal. -/
theorem State.bothFaulted (k : FaultKind) :
    let t := (s.enterFaulted (connOf p .a) k).enterFaulted (connOf p .b) k
    SameBut [.line, .sequencer, .auth, .sessions, .alloc, .uplink] s t ∧ Keeps (atPed p) s t ∧
    ∀ y, FaultTaken k (connOf p y) s t := by
  obtain ⟨ab, ba⟩ := connOf_ne p
  have first := Turn.enterFaulted (connOf p .a) k s
  have second := Turn.enterFaulted (connOf p .b) k (s.enterFaulted (connOf p .a) k)
  refine ⟨first.kept.trans second.kept, first.keeps.atPed_of_atConn.trans second.keeps.atPed_of_atConn, fun y => ?_⟩
  cases y with
  | a => exact (State.enterFaulted_taken _ k s).later second ab
  | b => exact (State.enterFaulted_taken _ k _).earlier first ba (by simp)

/-- What the service switch leaves of a connector when it is turned on. -/
def SwitchedOn (n : Conn) (s t : State) : Prop :=
  ((s.seq n).locks = ⟨false, false⟩ → LockTaken n ⟨false, true⟩ s t) ∧
  ((s.seq n).locks ≠ ⟨false, false⟩ →
    t.seq n = { s.seq n with locks := { (s.seq n).locks with switch := true } } ∧ t.sess n = s.sess n)

theorem switchedOn (n : Conn) (s : State) : SwitchedOn n s (s.addLock n .switch) := by
  refine ⟨fun free => ?_, fun locked => ?_⟩
  · have taken := State.addLock_taken .switch free
    rw [free] at taken
    exact taken
  · rw [State.addLock_of_locked locked]
    exact ⟨(State.updSeq_seq _ _ _ _).trans (if_pos rfl), rfl⟩

theorem SwitchedOn.later {n m : Conn} {l : List Block} {s t t' : State} (h : SwitchedOn n s t) (turn : Turn m l t t')
    (hn : n ≠ m) : SwitchedOn n s t' :=
  ⟨fun free => (h.1 free).later turn hn, fun locked => by
    rw [turn.keeps.seq_of_ne hn, turn.keeps.sess_of_ne hn]
    exact h.2 locked⟩

theorem SwitchedOn.earlier {n m : Conn} {l : List Block} {s v t : State} (h : SwitchedOn n v t) (turn : Turn m l s v)
    (hn : n ≠ m) (hl : .clock ∉ l) : SwitchedOn n s t := by
  obtain ⟨free, locked⟩ := h
  rw [turn.keeps.seq_of_ne hn] at free locked
  rw [turn.keeps.sess_of_ne hn] at locked
  exact ⟨fun h => (free h).earlier turn hn hl, locked⟩

/-- The switch turned on at both connectors of a pedestal. -/
theorem State.bothSwitchedOn :
    let t := (s.addLock (connOf p .a) .switch).addLock (connOf p .b) .switch
    SameBut [.line, .sequencer, .auth, .sessions, .alloc] s t ∧ Keeps (atPed p) s t ∧
    ∀ y, SwitchedOn (connOf p y) s t := by
  obtain ⟨ab, ba⟩ := connOf_ne p
  have first := Turn.addLock (connOf p .a) .switch s
  have second := Turn.addLock (connOf p .b) .switch (s.addLock (connOf p .a) .switch)
  refine ⟨first.kept.trans second.kept, first.keeps.atPed_of_atConn.trans second.keeps.atPed_of_atConn, fun y => ?_⟩
  cases y with
  | a => exact (switchedOn _ s).later second ab
  | b => exact (switchedOn _ _).earlier first ba (by simp)

/-- The switch turned off at both connectors of a pedestal. -/
theorem State.bothSwitchedOff (room : (∃ y, (s.sess (connOf p y)).state = .authorized) →
      (s.ped p).link ≠ .unconfigured ∧ (s.ped p).queue.length ≤ 2) :
    let t := (s.removeLock (connOf p .a) .switch).removeLock (connOf p .b) .switch
    SameBut [.line, .sequencer] s t ∧ Keeps (atPed p) s t ∧
    ∀ y, (¬ (s.seq (connOf p y)).unlocks → t.seq (connOf p y) = (s.seq (connOf p y)).unswitched) ∧
      ((s.seq (connOf p y)).unlocks →
        OpenEntered { (s.seq (connOf p y)).unswitched with contactor := .opened } (connOf p y) s t) := by
  obtain ⟨ab, ba⟩ := connOf_ne p
  have first : SwitchedOff (connOf p .a) s (s.removeLock (connOf p .a) .switch) := switchedOff fun authorized => by
    obtain ⟨configured, few⟩ := room ⟨.a, authorized⟩
    rw [State.roomForClose, State.linkOf, pedOf_connOf]
    exact ⟨configured, by omega⟩
  dsimp only
  generalize s.removeLock (connOf p .a) .switch = v at first
  have second : SwitchedOff (connOf p .b) v (v.removeLock (connOf p .b) .switch) := switchedOff fun authorized => by
    rw [first.keeps.sess_of_ne ba] at authorized
    obtain ⟨configured, few⟩ := room ⟨.b, authorized⟩
    have queue := first.queue
    rw [pedOf_connOf] at queue
    rw [State.roomForClose, State.linkOf, pedOf_connOf]
    exact ⟨(not_congr (first.woken p).unconfigured).2 configured, by omega⟩
  generalize v.removeLock (connOf p .b) .switch = t at second
  refine ⟨first.kept.trans second.kept, first.keeps.atPed_of_atConn.trans second.keeps.atPed_of_atConn, fun y => ?_⟩
  cases y with
  | a =>
    have seq := second.keeps.seq_of_ne ab
    exact ⟨fun stays => seq.trans (first.stays stays),
      fun unlocks => (first.opens unlocks).later seq (second.closeWaits _ ab)⟩
  | b =>
    obtain ⟨stays, opens⟩ : _ ∧ _ := ⟨second.stays, second.opens⟩
    rw [first.keeps.seq_of_ne ba] at stays opens
    exact ⟨stays, fun unlocks => (opens unlocks).earlier first⟩

end both

/-! ### The obligation -/

theorem localMessage_none {m : Message}
    (h : m.code.val = 0 ∨ 5 ≤ m.code.val ∨ ((m.code = 1 ∨ m.code = 2) ∧ m.letter = none) ∨
      (m.code = 1 ∧ ∀ k : Token, k.fits → m.payload ≠ k.kind.byteOf :: byte k.id.length :: k.id) ∨
      (m.code = 2 ∧ m.payload ≠ []) ∨ (m.code = 3 ∧ m.payload.length ≠ 1) ∨
      (m.code = 4 ∧ (m.letter ≠ none ∨ (m.payload ≠ [0] ∧ m.payload ≠ [1])))) : localMessage m = none := by
  cases found : localMessage m with
  | none => rfl
  | some x =>
    exfalso
    have means := localMessage_means found
    cases x with
    | token l t =>
      obtain ⟨code, letter, fits, payload⟩ := means
      rw [code, letter] at h
      rcases h with h | h | ⟨-, h⟩ | ⟨-, h⟩ | ⟨h, -⟩ | ⟨h, -⟩ | ⟨h, -⟩
      · exact absurd h (by decide)
      · exact absurd h (by decide)
      · cases h
      · exact h t fits payload
      all_goals exact absurd h (by decide)
    | stopRequest l =>
      obtain ⟨code, letter, payload⟩ := means
      rw [code, letter] at h
      rcases h with h | h | ⟨-, h⟩ | ⟨h, -⟩ | ⟨-, h⟩ | ⟨h, -⟩ | ⟨h, -⟩
      · exact absurd h (by decide)
      · exact absurd h (by decide)
      · cases h
      · exact absurd h (by decide)
      · exact h payload
      all_goals exact absurd h (by decide)
    | faultReport l c =>
      obtain ⟨code, -, payload⟩ := means
      rw [code, payload] at h
      rcases h with h | h | ⟨h | h, -⟩ | ⟨h, -⟩ | ⟨h, -⟩ | ⟨-, h⟩ | ⟨h, -⟩
      iterate 6 exact absurd h (by decide)
      · exact h rfl
      · exact absurd h (by decide)
    | serviceSwitch on =>
      obtain ⟨code, letter, payload⟩ := means
      rw [code, letter, payload] at h
      rcases h with h | h | ⟨h | h, -⟩ | ⟨h, -⟩ | ⟨h, -⟩ | ⟨h, -⟩ | ⟨-, h | ⟨h0, h1⟩⟩
      iterate 7 exact absurd h (by decide)
      · exact h rfl
      · cases on
        · exact h0 rfl
        · exact h1 rfl

theorem State.holdOffer_eq (s : State) (p : Ped) :
    s.holdOffer p = { s with
      classifier := { s.classifier with
        counts := tset s.classifier.counts p { s.counts p with held := min ((s.counts p).held + 1) 65535 } }
      uplink := s.uplink.withRaised .passUpHeld } := by
  rw [State.holdOffer, State.raise_eq]
  rfl

theorem FaultTaken.accepted {k : FaultKind} {n : Conn} {s u : State} {p : Ped} {m : Message}
    (h : FaultTaken k n (s.offered p m) u) : FaultTaken k n s (u.acceptedOffer p m) := h

/-- Settles O26. -/
theorem offersAreAcceptedOrHeld : Obligations.OffersAreAcceptedOrHeld := by
  refine ⟨fun s p m => ?_, fun s p m new acts => ?_⟩
  · obtain ⟨told, drop, up, full⟩ := s.offer_cases p m
    refine ⟨told, drop, up, fun new acts long => (full new acts long).trans ?_⟩
    rw [State.holdOffer_eq s p]
    rfl
  dsimp only
  have offer : s.offerMessage p m = ((s.offered p m).handLocal p m).acceptedOffer p m :=
    State.offerMessage_taken new (State.takeOffer_local acts)
  have means {x : LocalMessage} (h : m.means x) : s.offerMessage p m =
    ((s.offered p m).handOver p x).acceptedOffer p m := by
    rw [offer, State.handLocal_means h]
  refine ⟨fun ill => ?_, fun l k code letter fits payload => ?_, fun l code letter payload => ?_,
    fun code is payload => ?_, fun code letter payload => ?_, fun code letter payload room => ?_⟩
  · have none_ : localMessage m = none := localMessage_none ill
    rw [offer, State.handLocal, none_]
    rfl
  · exact means (x := .token l k) ⟨code, letter, fits, payload⟩
  · have turn := Turn.stopCause .userStop (connOf p l) (s.offered p m)
    have keeps := turn.keeps
    have taken := State.stopCause_taken .userStop (connOf p l) (s.offered p m)
    have seq := State.stopCause_seq .userStop (connOf p l) (s.offered p m)
    rw [means (x := .stopRequest l) ⟨code, letter, payload⟩, State.handOver]
    have handed := handedOver turn.kept (by simp) keeps.atPed_of_atConn
    generalize (s.offered p m).stopCause .userStop (connOf p l) = u at keeps taken seq handed
    refine ⟨handed, taken.congr rfl rfl rfl rfl, fun runs => ?_, fun rests => ?_, fun x hx =>
      ⟨keeps.seq_of_ne hx, keeps.sess_of_ne hx⟩⟩
    · have stops : EndReason.userStop.stops ((s.offered p m).sess (connOf p l)).state = true := by
        refine EndReason.stops_of_open ⟨rfl, rfl⟩ ?_
        exact runs
      rw [if_pos stops] at seq
      exact (congrArg SeqRecord.contactor seq).trans ((s.offered p m).openCaused_contactor (connOf p l))
    · have stays : ¬ EndReason.userStop.stops ((s.offered p m).sess (connOf p l)).state = true := fun stops => rests (by
        change EndReason.userStop.stops (s.sess (connOf p l)).state = true at stops
        unfold SessionKind.open_
        cases hk : (s.sess (connOf p l)).state with
        | authorized | charging | complete => simp
        | empty | awaitingAuth | stopping | closed => rw [hk] at stops; cases stops)
      rw [if_neg stays] at seq
      exact seq
  · rcases Option.eq_none_or_eq_some m.letter with both_ | ⟨l, one⟩
    · obtain ⟨kept, keeps, both⟩ := State.bothFaulted (p := p) (s := s.offered p m) (.reported code)
      rw [means (x := .faultReport none code) ⟨is, both_, payload⟩]
      rw [State.handOver]
      exact ⟨handedOver kept (by simp) keeps, fun y => ⟨fun _ => (both y).accepted, fun h => absurd both_ h⟩⟩
    · have turn := Turn.enterFaulted (connOf p l) (.reported code) (s.offered p m)
      have taken := State.enterFaulted_taken (connOf p l) (.reported code) (s.offered p m)
      rw [means (x := .faultReport (some l) code) ⟨is, one, payload⟩]
      refine ⟨handedOver turn.kept (by simp) turn.keeps.atPed_of_atConn, fun y => ⟨fun named => ?_, fun _ other => ?_⟩⟩
      · rw [one] at named
        cases (named.resolve_left nofun)
        exact taken.accepted
      · have hn : connOf p y ≠ connOf p l := fun e => other (by
          have := congrArg letterOf e
          rw [letterOf_connOf, letterOf_connOf] at this
          rw [one, this])
        exact ⟨turn.keeps.seq_of_ne hn, turn.keeps.sess_of_ne hn⟩
  · obtain ⟨kept, keeps, both⟩ := State.bothSwitchedOn (p := p) (s := s.offered p m)
    rw [means (x := .serviceSwitch true) ⟨code, letter, payload⟩]
    refine ⟨handedOver kept (by simp) keeps, fun y => ?_⟩
    obtain ⟨free, locked⟩ := both y
    by_cases unlocked : (s.seq (connOf p y)).locks = ⟨false, false⟩
    · obtain ⟨locks, fault, contactor, openSet, -, stop⟩ := free unlocked
      exact ⟨locks.trans (by rw [unlocked]), fault, fun _ => ⟨stop.congr rfl rfl rfl rfl, openSet, contactor⟩,
        fun h => absurd unlocked h⟩
    · obtain ⟨seq, sess⟩ := locked unlocked
      exact ⟨congrArg SeqRecord.locks seq, (congrArg SeqRecord.fault seq).trans rfl, fun h => absurd h unlocked,
        fun _ => ⟨(congrArg SeqRecord.contactor seq).trans rfl, sess⟩⟩
  · obtain ⟨kept, keeps, both⟩ := State.bothSwitchedOff (p := p) (s := s.offered p m) room
    rw [means (x := .serviceSwitch false) ⟨code, letter, payload⟩]
    refine ⟨handedOver kept (by simp) keeps, fun y => ?_⟩
    obtain ⟨stays, opens⟩ := both y
    refine ⟨?_, stays, fun unlocks => ?_⟩
    · exact congrArg (fun x : SessionTable => tget x.entries (connOf p y)) (kept .sessions (by simp))
    · exact (opens unlocks).later rfl (State.acceptedOffer_closeWaits p m _ _)

end Sys2Proof.Machine
end

section
/-! PROOF. The wall clock's minutes and the minute tick (O43). -/

namespace Sys2Proof.Machine

/-! ### A minute of the wall clock (R110, R113) -/

/-- What a test of the band leaves, given the clock it tests. -/
def MinuteTested (s t : State) : Prop :=
  SameBut [.line, .clock, .uplink] s t ∧ t.clock.schedule = s.clock.schedule ∧
  t.clock.ticksTaken = s.clock.ticksTaken ∧
  (t.clock.band = s.clock.band → t.line = s.line ∧ t.uplink = s.uplink ∧ t.clock.epoch = s.clock.epoch ∧
    t.clock.ring = s.clock.ring) ∧
  (t.clock.band ≠ s.clock.band →
    t.clock.epoch = s.clock.epoch + 1 ∧ t.line = { s.line with pendingLatch := some (s.clock.epoch + 1) } ∧
    t.clock.ring = tset s.clock.ring (ringPlace (s.clock.epoch + 1)) t.clock.band ∧
    t.uplink = s.uplink.withRaised .bandChanged)

theorem minuteTested_takeBand (b : Band) (s : State) :
    MinuteTested s (s.takeBand b) ∧ (s.takeBand b).clock.ms = s.clock.ms ∧ (s.takeBand b).clock.wall = s.clock.wall ∧
    (s.takeBand b).clock.minutesDue = s.clock.minutesDue ∧ (s.takeBand b).clock.band = b := by
  rcases s.takeBand_cases b with ⟨same, e⟩ | ⟨other, e⟩
  · rw [e]
    exact ⟨⟨.refl _ _, rfl, rfl, fun _ => ⟨rfl, rfl, rfl, rfl⟩, fun h => absurd rfl h⟩, rfl, rfl, rfl, same.symm⟩
  · rw [e]
    refine ⟨⟨fun x hx => ?_, rfl, rfl, fun h => absurd h other, fun _ => ⟨rfl, rfl, rfl, rfl⟩⟩, rfl, rfl, rfl, rfl⟩
    cases x with
    | line | clock | uplink => simp at hx
    | _ => rfl

/-- A test on a clock that differs from another in its time alone. -/
theorem MinuteTested.from_time {s s' t : State} (h : MinuteTested s' t) (same : SameBut [.clock] s s')
    (schedule : s'.clock.schedule = s.clock.schedule) (ticks : s'.clock.ticksTaken = s.clock.ticksTaken)
    (band : s'.clock.band = s.clock.band) (epoch : s'.clock.epoch = s.clock.epoch)
    (ring : s'.clock.ring = s.clock.ring) :
    MinuteTested s t := by
  obtain ⟨kept, h1, h2, stays, moves⟩ := h
  have line : s'.line = s.line := same .line (by simp)
  have uplink : s'.uplink = s.uplink := same .uplink (by simp)
  rw [band, line, uplink, epoch, ring] at stays moves
  exact ⟨(same.mono (by simp)).trans kept, h1.trans schedule, h2.trans ticks, stays, moves⟩

/-- The oldest of the minutes that wait for their test. -/
theorem WallTime.oldestMinute_eq {w : WallTime} {k m : Nat} (hm : m < 1440)
    (h : (m + (k + 1) - 1) % 1440 = w.sec / 60 % 1440) : w.oldestMinute (k + 1) = m := by
  unfold WallTime.oldestMinute
  omega

theorem WallTime.oldestMinute_one {w : WallTime} (h : w.sec < 86400) : w.oldestMinute 1 = w.sec / 60 := by
  unfold WallTime.oldestMinute
  omega

theorem exec_wallClockMinute_due {s : State} {w : WallTime} (wall : s.clock.wall = some w)
    (due : 0 < s.clock.minutesDue) :
    ∃ t, exec .wallClockMinute s = .next t ∧ MinuteTested s t ∧ t.clock.ms = s.clock.ms ∧ t.clock.wall = some w ∧
      t.clock.minutesDue = s.clock.minutesDue - 1 ∧
      ∀ m : Nat, m < 1440 → (m + s.clock.minutesDue - 1) % 1440 = w.sec / 60 % 1440 →
        t.clock.band = scheduleBand s.clock.schedule m := by
  obtain ⟨k, hk⟩ := Nat.exists_eq_succ_of_ne_zero due.ne'
  have run : exec .wallClockMinute s = .next s.testDueMinute := by
    show execWallClockMinute s = _
    simp only [execWallClockMinute, wall, if_pos due]
  obtain ⟨tested, ms, clockWall, minutes, band⟩ := minuteTested_takeBand
    (scheduleBand s.clock.schedule (w.oldestMinute (k + 1))) { s with clock := { s.clock with minutesDue := k } }
  rw [← State.testDueMinute_some w k s wall hk] at tested ms clockWall minutes band
  have counted : SameBut [.clock] s { s with clock := { s.clock with minutesDue := k } } := by
    intro b hb
    cases b with
    | clock => simp at hb
    | _ => rfl
  refine ⟨_, run, tested.from_time counted rfl rfl rfl rfl rfl, ms, clockWall.trans wall, ?_, fun m hm same => ?_⟩
  · rw [minutes, hk]
    rfl
  · rw [hk] at same
    rw [band, WallTime.oldestMinute_eq hm same]

theorem exec_wallClockMinute_next {s : State} {w : WallTime} (wall : s.clock.wall = some w)
    (none_ : s.clock.minutesDue = 0)
    (reach : (s.sec + (60 - w.sec % 60)) * 1000 ≤ Config.lastMs) :
    ∃ t, exec .wallClockMinute s = .next t ∧ MinuteTested s t ∧ t.clock.ms = (s.sec + (60 - w.sec % 60)) * 1000 ∧
      t.clock.wall = some (w.later (60 - w.sec % 60)) ∧ t.clock.minutesDue = 0 ∧
      t.clock.band = t.clock.bandInForce := by
  obtain ⟨r, hr⟩ : ∃ r, 60 - w.sec % 60 = r := ⟨_, rfl⟩
  rw [hr] at reach ⊢
  have pos : 0 < r := by omega
  have ahead : ¬ (s.sec + r) * 1000 ≤ s.clock.ms := by
    unfold State.sec
    omega
  have later : (s.sec + r) * 1000 / 1000 - s.sec = r := by omega
  obtain ⟨u, hu⟩ : ∃ u, s.advanceTo ((s.sec + r) * 1000) = u := ⟨_, rfl⟩
  have clock : u.clock = { s.clock with
      ms := (s.sec + r) * 1000, wall := some (w.later r), minutesDue := 1 } := by
    rw [← hu, State.advanceTo, if_neg ahead, msAt, if_pos reach, later, none_, wall]
    have one : 0 + ((w.sec + r) / 60 - w.sec / 60) = 1 := by omega
    dsimp only
    rw [one]
    rfl
  have same : SameBut [.clock] s u := by
    rw [← hu]
    exact .advanceTo _ s
  have run : exec .wallClockMinute s = .next u.testDueMinute := by
    show execWallClockMinute s = _
    simp only [execWallClockMinute, wall]
    rw [if_neg (by omega), ← hu, WallTime.toNextMinute, hr]
    rfl
  have wallU : u.clock.wall = some (w.later r) := by rw [clock]
  have minute : (w.later r).oldestMinute 1 = (w.later r).sec / 60 :=
    WallTime.oldestMinute_one (Nat.mod_lt _ (by decide))
  obtain ⟨tested, ms, clockWall, minutes, band⟩ := minuteTested_takeBand
    (scheduleBand u.clock.schedule ((w.later r).oldestMinute 1)) { u with clock := { u.clock with minutesDue := 0 } }
  rw [← State.testDueMinute_some (w.later r) 0 u wallU (by rw [clock])] at tested ms clockWall minutes band
  have counted : SameBut [.clock] s { u with clock := { u.clock with minutesDue := 0 } } :=
    same.trans fun b hb => by
      cases b with
      | clock => simp at hb
      | _ => rfl
  have wallT := clockWall.trans wallU
  have schedule : u.testDueMinute.clock.schedule = u.clock.schedule := tested.2.1
  have others : u.clock.schedule = s.clock.schedule ∧ u.clock.ticksTaken = s.clock.ticksTaken ∧
      u.clock.band = s.clock.band ∧ u.clock.epoch = s.clock.epoch ∧ u.clock.ring = s.clock.ring := by
    rw [clock]
    exact ⟨rfl, rfl, rfl, rfl, rfl⟩
  obtain ⟨sameSchedule, ticks, sameBand, epoch, ring⟩ := others
  refine ⟨_, run, tested.from_time counted sameSchedule ticks sameBand epoch ring,
    ms.trans (by rw [clock]), wallT, minutes, ?_⟩
  rw [band, ClockState.bandInForce, wallT, schedule, minute]

/-! ### A minute tick (R109, R132) -/

/-- The session entry after an idle minute at a price, before its budget check. -/
def Session.idled (price : Nat) (e : Session) : Session :=
  { e with idleMinutes := e.idleMinutes + 1, idleCost := e.idleCost + price }

/-- The session entry after an idle minute at a price and its budget check. -/
def Session.idleChecked (price stopBy : Nat) (e : Session) : Session :=
  if (e.idled price).threshold ≤ (e.idled price).running then (e.idled price).stoppedAt .budget stopBy else e.idled
    price

/-- What a minute tick leaves of a session and of its connector record, given the price of its idle minute and the
second its stop ends by. -/
def Ticked (price : Session → Nat) (stopBy : Nat) (e e' : Session × SeqRecord) : Prop :=
  (e.1.state ≠ .complete → e' = e) ∧
  (e.1.state = .complete → 0 < e.1.grace → e' = ({ e.1 with grace := e.1.grace - 1 }, e.2)) ∧
  (e.1.state = .complete → e.1.grace = 0 →
    e'.1 = e.1.idleChecked (price e.1) stopBy)

/-- The state with the idle minute of connector n counted, before its budget check. -/
def State.idledAt (n : Conn) (s : State) : State :=
  s.withSess n ((s.sess n).idled (s.idlePriceOf (s.sess n) s.clock.band))

theorem State.idleMinute_complete {n : Conn} {s : State} (complete : (s.sess n).state = .complete)
    (used : (s.sess n).grace = 0) : s.idleMinute n = (s.idledAt n).budgetCheck n :=
  (if_pos complete).trans (if_neg (by omega))

theorem State.idleMinute_grace {n : Conn} {s : State} (complete : (s.sess n).state = .complete)
    (grace : 0 < (s.sess n).grace) :
    s.idleMinute n = s.withSess n { s.sess n with grace := (s.sess n).grace - 1 } :=
  (if_pos complete).trans (if_pos grace)

theorem State.idleMinute_other {n : Conn} {s : State} (h : (s.sess n).state ≠ .complete) : s.idleMinute n = s :=
    if_neg h

theorem State.idledAt_facts (n : Conn) (s : State) :
    SameBut [.sessions] s (s.idledAt n) ∧
    (s.idledAt n).sess n = (s.sess n).idled (s.idlePriceOf (s.sess n) s.clock.band) ∧
    (s.idledAt n).sessions.stopWait = s.sessions.stopWait := by
  refine ⟨fun b hb => ?_, State.withSess_sess .., rfl⟩
  cases b with
  | sessions => simp at hb
  | _ => rfl

/-- A minute tick at one connector. -/
theorem State.idleMinute_ticked (n : Conn) (s : State) :
    SameBut [.line, .sequencer, .sessions] s (s.idleMinute n) ∧
    (s.idleMinute n).sessions.stopWait = s.sessions.stopWait ∧
    Ticked (fun e => s.idlePriceOf e s.clock.band) (s.sec + s.sessions.stopWait) (s.sess n, s.seq n)
      ((s.idleMinute n).sess n, (s.idleMinute n).seq n) := by
  by_cases complete : (s.sess n).state = .complete
  · by_cases used : (s.sess n).grace = 0
    · rw [State.idleMinute_complete complete used]
      obtain ⟨same, sess, wait⟩ := s.idledAt_facts n
      generalize s.idledAt n = u at same sess wait
      have clock : u.clock = s.clock := same .clock (by simp)
      have sec : u.sec = s.sec := by rw [State.sec, clock, State.sec]
      have state : (u.sess n).state = .complete := by rw [sess]; exact complete
      have checked := State.budgetCheck_sess n u
      rw [sec, wait, sess] at checked
      have kept : SameBut [.line, .sequencer, .sessions] u (u.budgetCheck n) ∧
          (u.budgetCheck n).sessions.stopWait = u.sessions.stopWait := by
        by_cases reached : (u.sess n).threshold ≤ (u.sess n).running
        · rw [State.budgetCheck_stops (.inr state) reached]
          exact ⟨(State.beginStop_kept .budget n u).2.1 (by rw [state]; exact nofun), State.beginStop_stopWait _ _ _⟩
        · rw [State.budgetCheck_stays fun h => reached h.2]
          exact ⟨.refl _ _, rfl⟩
      refine ⟨(same.mono (by simp)).trans kept.1, kept.2.trans wait, fun h => absurd complete h, fun _ h =>
        absurd used (Nat.pos_iff_ne_zero.1 h),
        fun _ _ => checked.trans (if_congr (and_iff_right (.inr complete)) rfl rfl)⟩
    · rw [State.idleMinute_grace complete (Nat.pos_of_ne_zero used)]
      refine ⟨fun b hb => ?_, rfl, fun h => absurd complete h, fun _ _ => ?_, fun _ h => absurd h used⟩
      · cases b with
        | line | sequencer | sessions => simp at hb
        | _ => rfl
      · rw [State.withSess_sess]
        rfl
  · rw [State.idleMinute_other complete]
    exact ⟨.refl _ _, rfl, fun _ => rfl, fun h => absurd h complete, fun h => absurd h complete⟩

/-- The minute ticks of all connectors. -/
theorem State.tickAll (s : State) :
    let t := allConns.foldl (fun s n => s.idleMinute n) s
    SameBut [.line, .sequencer, .sessions] s t ∧
    ∀ n, Ticked (fun e => s.idlePriceOf e s.clock.band) (s.sec + s.sessions.stopWait) (s.sess n, s.seq n)
      (t.sess n, t.seq n) := by
  obtain ⟨⟨kept, -⟩, each, -⟩ := foldl_each (fun s n => s.idleMinute n) (fun u n => (u.sess n, u.seq n))
    (fun u => SameBut [.line, .sequencer, .sessions] s u ∧ u.sessions.stopWait = s.sessions.stopWait)
    (fun n e e' => Ticked (fun e => s.idlePriceOf e s.clock.band) (s.sec + s.sessions.stopWait) e e')
    (fun u n ⟨same, wait⟩ => by
      obtain ⟨kept, keptWait, -⟩ := u.idleMinute_ticked n
      exact ⟨same.trans kept, keptWait.trans wait⟩)
    (fun u n m _ hm => by
      have keeps := Keeps.idleMinute (M := atConn n) u (touches_atConn n)
      exact Prod.ext (keeps.sess_of_ne hm) (keeps.seq_of_ne hm))
    (fun u n ⟨same, wait⟩ => by
      obtain ⟨-, -, ticked⟩ := u.idleMinute_ticked n
      have clock : u.clock = s.clock := same .clock (by simp)
      have tariff : u.tariff = s.tariff := same .tariff (by simp)
      have price : (fun e => u.idlePriceOf e u.clock.band) = fun e => s.idlePriceOf e s.clock.band := by
        funext e
        unfold State.idlePriceOf State.plan
        rw [tariff, clock]
      rw [price, wait, State.sec, clock] at ticked
      exact ticked)
    allConns s ⟨.refl _ _, rfl⟩ allConns_nodup
  exact ⟨kept, fun n => each n (mem_allConns n)⟩

/-- Settles O43. -/
theorem minutesAccrueAndTestTheBand : Obligations.MinutesAccrueAndTestTheBand := by
  intro s
  refine ⟨fun w wall => ⟨fun none_ reach => exec_wallClockMinute_next wall none_ reach,
    fun due => exec_wallClockMinute_due wall due⟩, fun reach => ?_⟩
  obtain ⟨u, hu⟩ : ∃ u, s.advanceTo ((s.clock.ticksTaken + 1) * 60 * 1000) = u := ⟨_, rfl⟩
  have passed : SameBut [.clock] s u := by
    rw [← hu]
    exact .advanceTo _ s
  have ms : u.clock.ms = max s.clock.ms ((s.clock.ticksTaken + 1) * 60 * 1000) := by
    rw [← hu, State.advanceTo_ms _ s reach]
  have band : u.clock.band = s.clock.band := by
    rw [← hu]
    unfold State.advanceTo
    split <;> rfl
  obtain ⟨v, hv⟩ : ∃ v, { u with clock := { u.clock with ticksTaken := s.clock.ticksTaken + 1 } } = v := ⟨_, rfl⟩
  have run : exec .minuteTick s = .next (allConns.foldl (fun s n => s.idleMinute n) v) := by
    show execMinuteTick s = _
    rw [execMinuteTick, State.advanceToSec, hu, hv]
  obtain ⟨kept, each⟩ := v.tickAll
  have counted : SameBut [.clock] s v := passed.trans fun b hb => by
    cases b with
    | clock => simp at hb
    | line | classifier | sequencer | auth | sessions | tariff | metering | alloc | settlement | uplink | pending =>
      rw [← hv]
      rfl
  have sessions : v.sessions = s.sessions := counted .sessions (by simp)
  have sequencer : v.sequencer = s.sequencer := counted .sequencer (by simp)
  have tariff : v.tariff = s.tariff := counted .tariff (by simp)
  have clock : v.clock = { u.clock with ticksTaken := s.clock.ticksTaken + 1 } := by rw [← hv]
  generalize (allConns.foldl (fun s n => s.idleMinute n) v) = t at run kept each
  have tClock : t.clock = v.clock := kept .clock (by simp)
  have vMs : v.clock.ms = max s.clock.ms ((s.clock.ticksTaken + 1) * 60 * 1000) := by rw [clock, ← ms]
  have vBand : v.clock.band = s.clock.band := by rw [clock, ← band]
  have vSec : v.sec = s.secAt ((s.clock.ticksTaken + 1) * 60 * 1000) := by rw [State.sec, vMs, State.secAt]
  refine ⟨t, run, (counted.mono (by simp)).trans (kept.mono (by simp)), by rw [tClock, clock], by rw [tClock, vMs],
    by rw [tClock, vBand], fun n => ?_⟩
  obtain ⟨other, grace, used⟩ := each n
  have sess : v.sess n = s.sess n := by rw [State.sess, sessions, State.sess]
  have seq : v.seq n = s.seq n := by rw [State.seq, sequencer, State.seq]
  rw [sess, seq] at other grace
  rw [sess] at used
  refine ⟨fun h => Prod.ext_iff.1 (other h), fun h pos => Prod.ext_iff.1 (grace h pos), fun h none_ k rev plan => ?_⟩
  have price : v.idlePriceOf (s.sess n) v.clock.band = tget (s.plan k).contents.idlePrice s.clock.band := by
    unfold State.idlePriceOf State.plan
    rw [plan, tariff, vBand]
  have ticked := used h none_
  dsimp only at ticked
  rw [price, vSec, sessions] at ticked
  exact ticked

end Sys2Proof.Machine
end

section
/-! PROOF. Meter readings priced by band (O44). -/

namespace Sys2Proof.Machine

/-! ### The cheapest candidate band (R127) -/

/-- Whether a band is one of the lowest price in a list, and of the lowest index among those. -/
def LowestOf (prices : Table Nat 4) (l : List Band) (b : Band) : Prop :=
  b ∈ l ∧ ∀ x ∈ l, tget prices b ≤ tget prices x ∧ (tget prices x = tget prices b → b ≤ x)

theorem foldl_lowest (prices : Table Nat 4) : ∀ (l : List Band) (b : Band), (b :: l).Pairwise (· < ·) →
    LowestOf prices (b :: l) (l.foldl (fun best x => if tget prices x < tget prices best then x else best) b)
  | [], b, _ => ⟨by simp, fun x hx => by rw [List.mem_singleton.1 hx]; exact ⟨Nat.le_refl _, fun _ => Nat.le_refl _⟩⟩
  | y :: l, b, h => by
    obtain ⟨below, rest⟩ := List.pairwise_cons.1 h
    obtain ⟨-, tail⟩ := List.pairwise_cons.1 rest
    rw [List.foldl_cons]
    by_cases cheaper : tget prices y < tget prices b
    · obtain ⟨mem, low⟩ := foldl_lowest prices l y rest
      rw [if_pos cheaper]
      have first := low y (by simp)
      refine ⟨List.mem_cons_of_mem _ mem, fun x hx => ?_⟩
      rcases List.mem_cons.1 hx with rfl | hx
      · exact ⟨by omega, fun e => by omega⟩
      · exact low x hx
    · have sorted : (b :: l).Pairwise (· < ·) :=
        List.pairwise_cons.2 ⟨fun x hx => below x (List.mem_cons_of_mem _ hx), tail⟩
      obtain ⟨mem, low⟩ := foldl_lowest prices l b sorted
      rw [if_neg cheaper]
      have first := low b (by simp)
      refine ⟨?_, fun x hx => ?_⟩
      · rcases List.mem_cons.1 mem with e | hm
        · rw [e]
          simp
        · simp [hm]
      · rcases List.mem_cons.1 hx with rfl | hx
        · exact first
        rcases List.mem_cons.1 hx with rfl | hx
        · have before := below x (by simp)
          refine ⟨by omega, fun e => ?_⟩
          exact Nat.le_of_lt (Nat.lt_of_le_of_lt (first.2 (by omega)) before)
        · exact low x (by simp [hx])

theorem cheapest_lowest (prices : Table Nat 4) {cands : List Band} (h : cands ≠ []) :
    LowestOf prices cands (cheapest prices cands) := by
  have mem (b : Band) : b ∈ (List.finRange 4).filter (fun b => cands.contains b) ↔ b ∈ cands := by
    simp [List.mem_filter]
  have sorted : ((List.finRange 4).filter fun b => cands.contains b).Pairwise (· < ·) :=
    (List.pairwise_lt_finRange 4).filter _
  unfold cheapest
  split
  · next none_ =>
    obtain ⟨b, hb⟩ := List.exists_mem_of_ne_nil _ h
    rw [← mem, none_] at hb
    cases hb
  · next b bs found =>
    rw [found] at mem sorted
    obtain ⟨inside, low⟩ := foldl_lowest prices bs b sorted
    exact ⟨(mem _).1 inside, fun x hx => low x ((mem x).2 hx)⟩

/-- The bands that were in force since an epoch, as the ring still tells them (R127). -/
def Candidate (c : ClockState) (last : Byte) (b : Band) : Prop :=
  8 ≤ (c.epoch - last).toNat ∨
    ∃ i, 1 ≤ i ∧ i ≤ (c.epoch - last).toNat ∧ b = ringBand c (last + BitVec.ofNat 8 i)

theorem mem_missedCandidates {c : ClockState} {last : Byte} {b : Band} :
    b ∈ missedCandidates c last ↔ Candidate c last b := by
  unfold missedCandidates Candidate
  dsimp only
  by_cases far : 8 ≤ (c.epoch - last).toNat
  · rw [if_pos far]
    exact ⟨fun _ => .inl far, fun _ => List.mem_finRange b⟩
  · simp only [far, if_false, false_or, List.mem_map, List.mem_range]
    constructor
    · rintro ⟨i, hi, rfl⟩
      exact ⟨i + 1, by omega, by omega, rfl⟩
    · rintro ⟨i, h1, hi, rfl⟩
      exact ⟨i - 1, by omega, by rw [Nat.sub_add_cancel h1]⟩

theorem missedCandidates_ne_nil {c : ClockState} {last : Byte} (h : (c.epoch - last).toNat ≠ 0) :
    missedCandidates c last ≠ [] := by
  have one : ringBand c (last + BitVec.ofNat 8 1) ∈ missedCandidates c last :=
    mem_missedCandidates.2 (.inr ⟨1, Nat.le_refl _, by omega, rfl⟩)
  exact List.ne_nil_of_mem one

/-! ### The parts of a reading (R122 to R127) -/

theorem readParts_facts (c : ClockState) (prices : Table Nat 4) (rating : Nat) (last : Byte) (base : BitVec 32)
    (since : Nat) (reading : BitVec 32) (latch : Option (BitVec 8 × BitVec 32)) :
    let f := readParts c prices rating last base since reading latch
    let d := billedEnergy rating (c.ms - since) base reading
    f.parts = (bandSplit c prices last base latch d).1 ∧ f.missed = (bandSplit c prices last base latch d).2 ∧
    f.reverse = decide (2147483648 ≤ delta reading base) ∧
    f.jump = decide (delta reading base < 2147483648 ∧ plausibleLimit rating (c.ms - since) < delta reading base) := by
  unfold readParts billedEnergy
  by_cases h : 2147483648 ≤ delta reading base
  · have near : ¬ delta reading base < 2147483648 := by omega
    simp [isReverse, h, near, bandSplit]
  · have near : delta reading base < 2147483648 := by omega
    simp [isReverse, h, near]

section split

variable {c : ClockState} {prices : Table Nat 4} {last : Byte} {base : BitVec 32}
  {latch : Option (BitVec 8 × BitVec 32)} {d : Nat}

theorem bandSplit_none : bandSplit c prices last base latch 0 = ([], false) := by
  simp [bandSplit]

theorem bandSplit_same (hd : 0 < d) (gap : (c.epoch - last).toNat = 0) :
    bandSplit c prices last base latch d = ([(c.band, d)], false) :=
  (if_neg (by omega)).trans (if_pos gap)

theorem bandSplit_latched {l : BitVec 32} (hd : 0 < d) (gap : (c.epoch - last).toNat = 1)
    (is : latch = some (c.epoch, l))
    (fits : delta l base ≤ d) : bandSplit c prices last base latch d =
      ([(ringBand c last, delta l base), (c.band, d - delta l base)], false) := by
  have usable : usableLatch c base latch d = some (delta l base) := by
    rw [is, usableLatch]
    exact if_pos ⟨rfl, fits⟩
  rw [bandSplit]
  simp only [gap, if_true, usable]
  rw [if_neg (by omega)]
  rfl

/-- Whether the latch of a reply divides its reading (R126). -/
def Usable (c : ClockState) (base : BitVec 32) (latch : Option (BitVec 8 × BitVec 32)) (d : Nat) : Prop :=
  ∃ l, latch = some (c.epoch, l) ∧ delta l base ≤ d

theorem usableLatch_none (h : ¬ Usable c base latch d) : usableLatch c base latch d = none := by
  unfold usableLatch
  split
  · next e l =>
    refine if_neg fun ⟨he, hl⟩ => h ⟨l, ?_, hl⟩
    rw [he]
  · rfl

theorem bandSplit_missed (hd : 0 < d) (gap : (c.epoch - last).toNat ≠ 0)
    (h : ¬ ((c.epoch - last).toNat = 1 ∧ Usable c base latch d)) :
    bandSplit c prices last base latch d = ([(cheapest prices (missedCandidates c last), d)], true) := by
  have none_ : (if (c.epoch - last).toNat = 1 then usableLatch c base latch d else none) = none := by
    by_cases one : (c.epoch - last).toNat = 1
    · rw [if_pos one, usableLatch_none fun u => h ⟨one, u⟩]
    · rw [if_neg one]
  rw [bandSplit]
  simp only [none_]
  rw [if_neg (by omega), if_neg gap]

/-- The parts of a reading hold its whole energy. -/
theorem bandSplit_energy (c : ClockState) (prices : Table Nat 4) (last : Byte) (base : BitVec 32)
    (latch : Option (BitVec 8 × BitVec 32)) (d : Nat) :
    ((bandSplit c prices last base latch d).1.map (·.2)).sum = d := by
  rcases Nat.eq_zero_or_pos d with rfl | hd
  · rw [bandSplit_none]
    rfl
  by_cases gap : (c.epoch - last).toNat = 0
  · rw [bandSplit_same hd gap]
    simp
  by_cases latched : (c.epoch - last).toNat = 1 ∧ Usable c base latch d
  · obtain ⟨one, l, is, fits⟩ := latched
    rw [bandSplit_latched hd one is fits]
    simp only [List.map_cons, List.map_nil, List.sum_cons, List.sum_nil]
    omega
  · rw [bandSplit_missed hd gap latched]
    simp

end split

/-! ### What a priced reading leaves of a session (R128, R129, R133) -/

theorem foldl_addPart_energy (prices : Table Nat 4) : ∀ (parts : List (Band × Nat)) (e : Session),
    (parts.foldl (addPart prices) e).energyTotal = e.energyTotal + (parts.map (·.2)).sum
  | [], e => rfl
  | p :: parts, e => by
    rw [List.foldl_cons, foldl_addPart_energy prices parts, List.map_cons, List.sum_cons, addPart]
    exact Nat.add_assoc _ _ _

/-- What the parts of a reading never change of a session. -/
def Session.SameButEnergy (e e' : Session) : Prop :=
  e' = { e with costAcc := e'.costAcc, bandEnergy := e'.bandEnergy, energyTotal := e'.energyTotal }

theorem foldl_addPart_same (prices : Table Nat 4) : ∀ (parts : List (Band × Nat)) (e : Session),
    e.SameButEnergy (parts.foldl (addPart prices) e)
  | [], e => rfl
  | p :: parts, e => by
    have rest := foldl_addPart_same prices parts (addPart prices e p)
    exact rest

theorem hasFlag_addFlagIf (c : Bool) (f : SessionFlag) (fs : SessionFlags) :
    hasFlag f (addFlagIf c f fs) = (hasFlag f fs || c) := by
  cases c with
  | false => exact (Bool.or_false _).symm
  | true =>
    have bit : f.bit < 8 := by cases f <;> decide
    simp [addFlagIf, addFlag, hasFlag, bit]

/-- The session entry a priced reading leaves, before its budget check. -/
structure PricedReading (c : ClockState) (prices : Table Nat 4) (f : Reading) (reading : BitVec 32)
    (e e' : Session) : Prop where
  same : ({ e with baseline := e'.baseline, lastEpoch := e'.lastEpoch, flags := e'.flags } : Session).SameButEnergy e'
  baseline : e'.baseline = some (reading, c.ms)
  lastEpoch : e'.lastEpoch = c.epoch
  energy : e'.energyTotal = e.energyTotal + (f.parts.map (·.2)).sum
  cost : e'.costAcc = (f.parts.foldl (addPart prices) e).costAcc
  bands : e'.bandEnergy = (f.parts.foldl (addPart prices) e).bandEnergy
  reversed : hasFlag .meterReverse e'.flags = (hasFlag .meterReverse e.flags || f.reverse)
  jumped : hasFlag .meterJump e'.flags = (hasFlag .meterJump e.flags || f.jump)
  missed : hasFlag .missedLatch e'.flags = (hasFlag .missedLatch e.flags || f.missed)

theorem applyReading_priced (c : ClockState) (prices : Table Nat 4) (f : Reading) (reading : BitVec 32) (e : Session) :
    PricedReading c prices f reading e (applyReading c prices f reading e) where
  same := by
    have same := foldl_addPart_same prices f.parts e
    unfold Session.SameButEnergy at same ⊢
    unfold applyReading
    rw [same]
  baseline := rfl
  lastEpoch := rfl
  energy := foldl_addPart_energy prices f.parts e
  cost := rfl
  bands := rfl
  reversed := by
    unfold applyReading
    dsimp only
    rw [hasFlag_addFlagIf_of_ne _ _ _ _ (by decide), hasFlag_addFlagIf_of_ne _ _ _ _ (by decide), hasFlag_addFlagIf]
  jumped := by
    unfold applyReading
    dsimp only
    rw [hasFlag_addFlagIf_of_ne _ _ _ _ (by decide), hasFlag_addFlagIf, hasFlag_addFlagIf_of_ne _ _ _ _ (by decide)]
  missed := by
    unfold applyReading
    dsimp only
    rw [hasFlag_addFlagIf, hasFlag_addFlagIf_of_ne _ _ _ _ (by decide), hasFlag_addFlagIf_of_ne _ _ _ _ (by decide)]

/-! ### A reading delivered (R119) -/

theorem State.raiseIf_events (c : Bool) (k j : EventKind) (s : State) :
    hasEvent j (s.raiseIf c k).uplink.pendingSet =
      (hasEvent j s.uplink.pendingSet || (c && Decidable.decide (j = k))) := by
  cases c with
  | false => exact (Bool.or_false _).symm
  | true =>
    have raised : s.raiseIf true k = s.raise k := rfl
    rw [raised, State.raise_eq]
    refine (hasEvent_or_only j k s.uplink.pendingSet).trans ?_
    rw [Bool.or_comm, Bool.true_and]

/-- What a reading priced on the session of connector n leaves, before the budget check. -/
theorem State.priceReading_facts (n : Conn) (prices : Table Nat 4) (f : Reading) (reading : BitVec 32) (s : State) :
    let t := s.priceReading n prices f reading
    SameBut [.sessions, .uplink] s t ∧ t.sessions.stopWait = s.sessions.stopWait ∧
    PricedReading s.clock prices f reading (s.sess n) (t.sess n) ∧
    (f.reverse || f.jump → hasEvent .meterAnomaly t.uplink.pendingSet = true) ∧
    (f.missed → hasEvent .latchMissed t.uplink.pendingSet = true) := by
  have sess := s.priceReading_sess n prices f reading
  dsimp only
  refine ⟨fun b hb => ?_, ?_, by rw [sess]; exact applyReading_priced _ _ _ _ _, fun found => ?_, fun found => ?_⟩
  · unfold State.priceReading
    cases b with
    | sessions | uplink => simp at hb
    | line | classifier | sequencer | auth | tariff | clock | metering | alloc | settlement | pending => simp [SameAt]
  · rw [State.priceReading, State.raiseIf_sessions, State.raiseIf_sessions]
    rfl
  · rw [State.priceReading, State.raiseIf_events, State.raiseIf_events, found]
    simp
  · rw [State.priceReading, State.raiseIf_events, found]
    simp

/-- What a budget check leaves of its session's other fields. -/
theorem Session.stoppedAt_same (why : EndReason) (stopBy : Nat) (e : Session) :
    (e.stoppedAt why stopBy).baseline = e.baseline ∧ (e.stoppedAt why stopBy).lastEpoch = e.lastEpoch ∧
    (e.stoppedAt why stopBy).energyTotal = e.energyTotal ∧ (e.stoppedAt why stopBy).costAcc = e.costAcc ∧
    (e.stoppedAt why stopBy).bandEnergy = e.bandEnergy ∧ (e.stoppedAt why stopBy).flags = e.flags ∧
    (e.stoppedAt why stopBy).running = e.running ∧ (e.stoppedAt why stopBy).threshold = e.threshold :=
  ⟨rfl, rfl, rfl, rfl, rfl, rfl, rfl, rfl⟩

/-- The fields of the session that a budget check keeps. -/
theorem State.budgetCheck_fields (n : Conn) (s : State) :
    let e := s.sess n
    let e' := (s.budgetCheck n).sess n
    e'.baseline = e.baseline ∧ e'.lastEpoch = e.lastEpoch ∧ e'.energyTotal = e.energyTotal ∧ e'.costAcc = e.costAcc ∧
    e'.bandEnergy = e.bandEnergy ∧ e'.flags = e.flags ∧ e'.running = e.running ∧ e'.threshold = e.threshold := by
  dsimp only
  rw [State.budgetCheck_sess]
  split
  · exact Session.stoppedAt_same _ _ _
  · exact ⟨rfl, rfl, rfl, rfl, rfl, rfl, rfl, rfl⟩

/-- What a budget check does once its threshold is reached. -/
theorem State.budgetCheck_reached {n : Conn} {s : State}
    (h : ((s.sess n).state = .charging ∨ (s.sess n).state = .complete) ∧ (s.sess n).threshold ≤ (s.sess n).running) :
    let t := s.budgetCheck n
    (t.sess n).state = .stopping ∧ (t.sess n).endReason = some .budget ∧
    (t.sess n).stopDeadline = some (s.sec + s.sessions.stopWait) ∧ (t.sess n).readyDeadline = none ∧
    (t.seq n).contactor = s.contactorAfterOpen n ∧ ((s.seq n).contactor.live = true → (t.slots n).openSet = true) ∧
    ((s.sess n).state = .charging → PassTaken t) := by
  have present : (s.sess n).state ≠ .empty := by rcases h.1 with h | h <;> rw [h] <;> exact nofun
  dsimp only
  rw [State.budgetCheck_stops h.1 h.2, State.beginStop_sess]
  exact ⟨rfl, rfl, rfl, rfl, State.beginStop_contactor _ _ _ present, State.beginStop_openSet _ _ _ present,
    (s.beginStop_kept .budget n).2.2⟩

/-- Settles O44. -/
theorem readingsArePricedByBand : Obligations.ReadingsArePricedByBand := by
  intro s n r metered
  dsimp only
  refine ⟨fun none_ => ?_, fun base since k rev hb hp => ?_⟩
  · simp only [State.deliverReading, metered, none_, if_true]
    rfl
  have keeps := Keeps.deliverReading (M := atConn n) r s (touches_atConn n)
  rw [s.deliverReading_of_baseline n r base since metered hb, s.energyPrices_of_plan _ k rev hp] at keeps ⊢
  obtain ⟨parts, missed, reverse, jump⟩ := readParts_facts s.clock (s.plan k).contents.energyPrice (s.rating n)
    (s.sess n).lastEpoch base since r.reading r.latch
  generalize readParts s.clock (s.plan k).contents.energyPrice (s.rating n) (s.sess n).lastEpoch base since r.reading
    r.latch = f at keeps parts missed reverse jump ⊢
  obtain ⟨kept, stopWait, priced, anomaly, latchMissed⟩ :=
    s.priceReading_facts n (s.plan k).contents.energyPrice f r.reading
  generalize s.priceReading n (s.plan k).contents.energyPrice f r.reading =
    u at keeps kept stopWait priced anomaly latchMissed ⊢
  obtain ⟨baseline, lastEpoch, energyTotal, costAcc, bandEnergy, flags, running, threshold⟩ := u.budgetCheck_fields n
  have clock : u.clock = s.clock := kept .clock (by simp)
  have uplink : (u.budgetCheck n).uplink = u.uplink := State.budgetCheck_uplink n u
  have energy := bandSplit_energy s.clock (s.plan k).contents.energyPrice (s.sess n).lastEpoch base r.latch
    (billedEnergy (s.rating n) (s.clock.ms - since) base r.reading)
  obtain ⟨same, pBaseline, pEpoch, pEnergy, pCost, pBands, pReversed, pJumped, pMissed⟩ := priced
  have state : (u.sess n).state = (s.sess n).state := (congrArg Session.state same).trans rfl
  have pThreshold : (u.sess n).threshold = (s.sess n).threshold := (congrArg Session.threshold same).trans rfl
  have endReason : (u.sess n).endReason = (s.sess n).endReason := (congrArg Session.endReason same).trans rfl
  have stopDeadline : (u.sess n).stopDeadline =
    (s.sess n).stopDeadline := (congrArg Session.stopDeadline same).trans rfl
  have pRunning : (u.sess n).running =
      min ((s.sess n).startFee + (s.sess n).idleCost + (u.sess n).costAcc / 1000000) (s.sess n).budget := by
    have startFee : (u.sess n).startFee = (s.sess n).startFee := (congrArg Session.startFee same).trans rfl
    have idleCost : (u.sess n).idleCost = (s.sess n).idleCost := (congrArg Session.idleCost same).trans rfl
    have budget : (u.sess n).budget = (s.sess n).budget := (congrArg Session.budget same).trans rfl
    rw [Session.running, Session.accrued, startFee, idleCost, budget]
  rw [parts] at pEnergy pCost pBands
  rw [energy] at pEnergy
  refine ⟨baseline.trans pBaseline, lastEpoch.trans pEpoch, energyTotal.trans pEnergy, ?_, ?_, fun found => ?_,
    fun none_ => ?_, fun l pos gap latch fits => ?_, fun pos gap bad => ?_, ?_, threshold.trans pThreshold,
    ⟨fun reached => ?_, fun unreached => ?_⟩, fun m hm => ⟨keeps.sess_of_ne hm, keeps.seq_of_ne hm⟩⟩
  · rw [flags, pReversed, reverse]
    rfl
  · rw [flags, pJumped, jump]
    rfl
  · rw [uplink]
    refine anomaly ?_
    rw [reverse, jump, Bool.or_eq_true, decide_eq_true_eq, decide_eq_true_eq]
    by_cases back : 2147483648 ≤ delta r.reading base
    · exact .inl back
    · exact .inr ⟨Nat.not_le.1 back, found.resolve_left back⟩
  · have zero : billedEnergy (s.rating n) (s.clock.ms - since) base r.reading = 0 := none_
    rw [zero, bandSplit_none] at pCost pBands
    exact ⟨costAcc.trans pCost, bandEnergy.trans pBands⟩
  · have split := bandSplit_latched (prices := (s.plan k).contents.energyPrice)
      (d := billedEnergy (s.rating n) (s.clock.ms - since) base r.reading) pos gap latch fits
    rw [split] at pCost
    exact costAcc.trans pCost
  · have split := bandSplit_missed (prices := (s.plan k).contents.energyPrice) (latch := r.latch) (base := base)
      (d := billedEnergy (s.rating n) (s.clock.ms - since) base r.reading) pos gap bad
    rw [split] at missed pCost pBands
    obtain ⟨mem, low⟩ := cheapest_lowest (s.plan k).contents.energyPrice (missedCandidates_ne_nil gap)
    refine ⟨?_, ?_, _, mem_missedCandidates.1 mem, fun x hx => low x (mem_missedCandidates.2 hx), costAcc.trans pCost,
      bandEnergy.trans pBands⟩
    · rw [flags, pMissed, missed, Bool.or_true]
    · rw [uplink]
      exact latchMissed missed
  · rw [running, pRunning, costAcc]
  · have line : u.line = s.line := kept .line (by simp)
    have sequencer : u.sequencer = s.sequencer := kept .sequencer (by simp)
    have seq : u.seq n = s.seq n := by rw [State.seq, sequencer, State.seq]
    have after : u.contactorAfterOpen n = s.contactorAfterOpen n := by
      rw [State.contactorAfterOpen, seq, State.closeWaits_congr (s := s) (t := u) (by rw [State.ped, line, State.ped]),
        State.contactorAfterOpen]
    have sec : u.sec = s.sec := by rw [State.sec, clock, State.sec]
    obtain ⟨running_, limit⟩ := reached
    rw [running, ← pThreshold] at limit
    have facts := State.budgetCheck_reached (n := n) (s := u) ⟨by rw [state]; exact running_, limit⟩
    dsimp only at facts
    rw [sec, stopWait, after, seq, state] at facts
    exact facts
  · have stays : u.budgetCheck n = u := State.budgetCheck_stays fun ⟨h, hr⟩ => unreached ⟨by rwa [state] at h, by
      rw [running, ← pThreshold]
      exact hr⟩
    rw [stays]
    exact ⟨state, endReason, stopDeadline, kept⟩

end Sys2Proof.Machine
end

section
/-! PROOF. SET_PEDESTAL (O21, O22). -/

namespace Sys2Proof.Machine

/-! ### Present (R3, R141, R146) -/

theorem PedestalFields.forced_code (f : PedestalFields) : Reply.forced f.forced = Reply.bare
    (if f.limit ≤ 600 ∧ f.ratingA ≤ 400 ∧ f.ratingB ≤ 400 ∧ f.failsafeA ≤ 50 ∧ f.failsafeB ≤ 50 then .ok
      else .clamped) := by
  unfold Reply.forced PedestalFields.forced
  by_cases h : f.limit ≤ 600 ∧ f.ratingA ≤ 400 ∧ f.ratingB ≤ 400 ∧ f.failsafeA ≤ 50 ∧ f.failsafeB ≤ 50
  · rw [if_pos h]
    have kept : (600 < f.limit || 400 < f.ratingA || 400 < f.ratingB || 50 < f.failsafeA || 50 < f.failsafeB) =
      false := by
      simp only [Bool.or_eq_false_iff, decide_eq_false_iff_not]
      omega
    simp only [kept]
    rfl
  · rw [if_neg h]
    have moved : (600 < f.limit || 400 < f.ratingA || 400 < f.ratingB || 50 < f.failsafeA || 50 < f.failsafeB) =
      true := by
      simp only [Bool.or_eq_true, decide_eq_true_eq]
      omega
    simp only [moved]
    rfl

theorem PedConfig.powerChanged_iff (c d : PedConfig) : c.powerChanged d = true ↔ c.limit ≠ d.limit ∨
    c.ratingA ≠ d.ratingA ∨ c.ratingB ≠ d.ratingB ∨ c.failsafeA ≠ d.failsafeA ∨ c.failsafeB ≠ d.failsafeB := by
  simp [PedConfig.powerChanged, or_assoc]

/-- The state with pedestal p's entry and configuration written, before the pass they may bring. -/
def State.present (s : State) (p : Ped) (k : Fin 24) (f : PedestalFields) : State :=
  (s.updPed p (Pedestal.configure k)).updConfig p f.config

theorem State.setPresent_eq (s : State) (p : Ped) (k : Fin 24) (f : PedestalFields) : s.setPresent p k f =
    if (s.ped p).configured = true ∧ (s.config p).powerChanged (f.config (s.config p)) = true
    then (s.present p k f).pass else s.present p k f := by
  have config : (s.present p k f).config p = f.config (s.config p) := tget_tset_same ..
  rw [← config]
  exact if_congr (Bool.and_eq_true _ _ ▸ Iff.rfl) rfl rfl

theorem State.present_facts (s : State) (p : Ped) (k : Fin 24) (f : PedestalFields) :
    let t := s.present p k f
    SameBut [.line, .alloc] s t ∧ t.ped p = Pedestal.configure k (s.ped p) ∧ (∀ q, q ≠ p → t.ped q = s.ped q) ∧
    t.line.inflight = s.line.inflight ∧ t.line.slots = s.line.slots ∧ t.alloc.setpoints = s.alloc.setpoints ∧
    t.config p = f.config (s.config p) ∧ ∀ q, q ≠ p → t.config q = s.config q := by
  refine ⟨fun b hb => ?_, tget_tset_same .., fun q hq => tget_tset_of_ne _ _ _ _ hq, rfl, rfl, rfl, tget_tset_same ..,
    fun q hq => tget_tset_of_ne _ _ _ _ hq⟩
  cases b with
  | line | alloc => simp at hb
  | _ => rfl

theorem State.slotTaken_iff {s : State} {p : Ped} {k : Fin 24} : s.slotTaken p k = true ↔
    ∃ q, q ≠ p ∧ (s.ped q).configured = true ∧ (s.ped q).slot = some k := by
  simp [State.slotTaken, allPeds, and_assoc]

theorem ownPresent_free {s : State} {p : Ped} {k : Fin 24} {f : PedestalFields} (slot : f.slot = byte k.val)
    (free : ∀ q, q ≠ p → (s.ped q).configured = true → (s.ped q).slot ≠ some k) :
    ownPresent (byte (p.val + 1)) f s = (s.setPresent p k f, Reply.forced f.forced) := by
  have none_ : ¬ s.slotTaken p k = true := fun taken => by
    obtain ⟨q, hq, configured, holds⟩ := State.slotTaken_iff.1 taken
    exact free q hq configured holds
  rw [ownPresent, pedByte_number, slot, indexByte_byte k (by decide)]
  exact if_neg none_

/-- Settles O21. -/
theorem setPedestalConfiguresIt : Obligations.SetPedestalConfiguresIt := by
  intro s p k tag l1 l0 a1 a0 b1 b0 fa fb plans hr free
  dsimp only
  obtain ⟨f, hf⟩ : ∃ f : PedestalFields, f = ⟨byte k.val, 256 * l1.toNat + l0.toNat, 256 * a1.toNat + a0.toNat,
    256 * b1.toNat + b0.toNat, fa.toNat, fb.toNat, plans⟩ := ⟨_, rfl⟩
  have owner : ownerOf (.setPedestal tag [byte (p.val + 1), 1, byte k.val, l1, l0, a1, a0, b1, b0, fa, fb, plans])
      s.taken = (s.taken.setPresent p k f, Reply.forced f.forced) := by
    show ownSetPedestal [byte (p.val + 1), 1, byte k.val, l1, l0, a1, a0, b1, b0, fa, fb, plans] s.taken = _
    rw [ownSetPedestal, if_pos rfl, num_pair, num_pair, num_pair, ← hf]
    exact ownPresent_free (by rw [hf]) free
  rw [PedestalFields.forced_code, State.setPresent_eq] at owner
  obtain ⟨kept, ped, peds, inflight, slots, setpoints, config, configs⟩ := s.taken.present_facts p k f
  have changes : (s.taken.config p).powerChanged (f.config (s.taken.config p)) = true ↔
      ((s.config p).limit ≠ min 600 (256 * l1.toNat + l0.toNat) ∨ (s.config p).ratingA ≠ min 400
      (256 * a1.toNat + a0.toNat) ∨
        (s.config p).ratingB ≠ min 400 (256 * b1.toNat + b0.toNat) ∨ (s.config p).failsafeA ≠ min 50 fa.toNat ∨
        (s.config p).failsafeB ≠ min 50 fb.toNat) := by
    rw [PedConfig.powerChanged_iff, hf]
    unfold PedestalFields.config
    dsimp only
    rw [Nat.min_comm 600, Nat.min_comm 400, Nat.min_comm 400, Nat.min_comm 50, Nat.min_comm 50]
    rfl
  have forced : f.limit = 256 * l1.toNat + l0.toNat ∧ f.ratingA = 256 * a1.toNat + a0.toNat ∧
      f.ratingB = 256 * b1.toNat + b0.toNat ∧ f.failsafeA = fa.toNat ∧ f.failsafeB = fb.toNat ∧ f.plans = plans := by
    rw [hf]
    exact ⟨rfl, rfl, rfl, rfl, rfl, rfl⟩
  obtain ⟨fLimit, fRatingA, fRatingB, fFailA, fFailB, fPlans⟩ := forced
  have written (c d : PedConfig) (h : d = { f.config c with limitUsed := d.limitUsed }) :
      d.limit = min 600 (256 * l1.toNat + l0.toNat) ∧ d.ratingA = min 400 (256 * a1.toNat + a0.toNat) ∧
      d.ratingB = min 400 (256 * b1.toNat + b0.toNat) ∧ d.failsafeA = min 50 fa.toNat ∧ d.failsafeB = min 50 fb.toNat ∧
      d.planA.val = plans.toNat / 16 ∧ d.planB.val = plans.toNat % 16 := by
    rw [h, hf]
    exact ⟨Nat.min_comm .., Nat.min_comm .., Nat.min_comm .., Nat.min_comm .., Nat.min_comm .., rfl, rfl⟩
  rw [fLimit, fRatingA, fRatingB, fFailA, fFailB] at owner
  have entry : Pedestal.configure k (s.taken.ped p) = if (s.ped p).configured then { s.ped p with slot := some k } else
      { s.ped p with
        configured := true, slot := some k, link := .probing, failCount := 0, absentCount := 0, checkFails := 0,
        resync := false } := rfl
  rw [entry] at ped
  obtain ⟨v, stage, owned, last⟩ : ∃ v, PassStage (s.taken.present p k f) v ∧
      (if (s.taken.ped p).configured = true ∧ (s.taken.config p).powerChanged (f.config (s.taken.config p)) = true
        then (s.taken.present p k f).pass else s.taken.present p k f) = v ∧
      (((s.taken.ped p).configured = true ∧ (s.taken.config p).powerChanged (f.config (s.taken.config p)) = true ∧
          PassTaken v) ∨
        (¬ ((s.taken.ped p).configured = true ∧ (s.taken.config p).powerChanged (f.config (s.taken.config p)) = true) ∧
          v = s.taken.present p k f)) := by
    by_cases passes : (s.taken.ped p).configured = true ∧
        (s.taken.config p).powerChanged (f.config (s.taken.config p)) = true
    · exact ⟨_, (s.taken.present p k f).pass_stage, if_pos passes, .inl ⟨passes.1, passes.2, State.pass_passTaken _⟩⟩
    · exact ⟨_, .refl _, if_neg passes, .inr ⟨passes, rfl⟩⟩
  rw [owned] at owner
  clear owned
  generalize s.taken.present p k f = u at kept ped peds inflight slots setpoints config configs stage last
  have blocks : SameBut [.line, .alloc] s.taken v := kept.trans stage.blocks
  obtain ⟨t, run, uplink, same⟩ := exec_owned rfl (by simp) hr owner (blocks .uplink (by simp))
  have configT (q : Ped) : t.config q = v.config q := by rw [State.config, same.alloc, State.config]
  have own : t.config p = { f.config (s.config p) with limitUsed := (t.config p).limitUsed } := by
    rw [configT, stage.config, config]
    rfl
  obtain ⟨w1, w2, w3, w4, w5, w6, w7⟩ := written _ _ own
  refine ⟨t, run, (blocks.answered same).mono (by simp), uplink, ?_, fun q hq => ?_, ?_, w1, w2, w3, w4, w5, w6, w7,
    fun q hq => ?_, fun configured changed => ?_, fun unmoved => ?_⟩
  · rw [same.ped, stage.ped, ped]
  · rw [same.ped, stage.ped, peds q hq]
    rfl
  · rw [same.line, stage.inflight, inflight]
    rfl
  · rw [configT, stage.config, configs q hq]
    rfl
  · rcases last with ⟨-, -, taken⟩ | ⟨not, -⟩
    · exact taken.answered same
    · exact absurd ⟨configured, changes.2 changed⟩ not
  · rcases last with ⟨configured, changed, -⟩ | ⟨-, rfl⟩
    · rcases unmoved with new | still
      · rw [show (s.taken.ped p).configured = (s.ped p).configured from rfl, new] at configured
        cases configured
      · exact absurd (changes.1 changed) still
    · refine ⟨by rw [same.line, slots]; rfl, by rw [same.alloc, setpoints]; rfl, fun q => ?_⟩
      rw [configT]
      by_cases hq : q = p
      · rw [hq, config]
        rfl
      · rw [configs q hq]
        rfl

/-! ### Absent (R3, R20, R22, R38, R141) -/

/-- A transaction on the line once those of the pedestals that the test names are discarded (R22). -/
def discardedBy (hit : Ped → Bool) (x : Txn) : Txn := { x with discarded := x.discarded || x.target.any hit }

theorem State.discardInflight_eq (hit : Ped → Bool) (s : State) : s.discardInflight hit =
    { s with line := { s.line with inflight := s.line.inflight.map (discardedBy hit) } } := by
  have inflight := State.discardInflight_inflight hit s
  have line : s.discardInflight hit =
    { s with line := { s.line with inflight := (s.discardInflight hit).line.inflight } } := by
    unfold State.discardInflight
    split
    · split
      · split <;> rfl
      · rfl
    · rfl
  rw [line, inflight]
  rfl

theorem discardedBy_own (p : Ped) :
    discardedBy (· == p) = fun x => { x with discarded := x.discarded || decide (x.target = some p) } := by
  funext x
  unfold discardedBy
  have same : x.target.any (· == p) = decide (x.target = some p) := by
    cases x.target with
    | none => rfl
    | some q =>
      by_cases h : q = p
      · simp [h]
      · simp [h]
  rw [same]

theorem State.setAbsent_eq (p : Ped) (s : State) : s.setAbsent p = { s with
    line := { s.line with
      inflight := s.line.inflight.map (discardedBy (· == p))
      peds := tset s.line.peds p Pedestal.initial
      slots := tset (tset s.line.slots (connOf p .a) SafetySlots.initial) (connOf p .b) SafetySlots.initial }
    classifier := { s.classifier with counts := tset s.classifier.counts p ⟨0, 0, 0⟩ }
    alloc := { s.alloc with
      configs := tset s.alloc.configs p PedConfig.initial
      setpoints := tset (tset s.alloc.setpoints (connOf p .a) Setpoint.initial) (connOf p .b) Setpoint.initial } } := by
  rw [State.setAbsent, State.discardInflight_eq]
  rfl

/-- A table written at both connectors of a pedestal. -/
theorem tget_both {α : Type} (t : Table α 48) (p : Ped) (x : α) (n : Conn) :
    tget (tset (tset t (connOf p .a) x) (connOf p .b) x) n = if pedOf n = p then x else tget t n := by
  rw [tget_tset, tget_tset]
  by_cases h : pedOf n = p
  · rw [if_pos h]
    have either : n = connOf p .a ∨ n = connOf p .b := by
      have whole := connOf_letterOf n
      rw [h] at whole
      cases hl : letterOf n with
      | a => rw [hl] at whole; exact .inl whole.symm
      | b => rw [hl] at whole; exact .inr whole.symm
    rcases either with e | e
    · rw [if_pos e, ite_self]
    · rw [if_pos e]
  · have a : n ≠ connOf p .a := fun e => h (by rw [e, pedOf_connOf])
    have b : n ≠ connOf p .b := fun e => h (by rw [e, pedOf_connOf])
    rw [if_neg b, if_neg a, if_neg h]

theorem State.setAbsent_facts (p : Ped) (s : State) :
    let t := s.setAbsent p
    SameBut [.line, .classifier, .alloc] s t ∧ t.ped p = Pedestal.initial ∧ t.counts p = ⟨0, 0, 0⟩ ∧
    t.config p = ⟨0, 0, 0, 0, 0, 0, 0, 0⟩ ∧
    (∀ x, t.slots (connOf p x) = ⟨false, false, 0⟩ ∧ t.setpoint (connOf p x) = ⟨0, 0, 0, none, .steady, false, none⟩) ∧
    (∀ q, q ≠ p → t.ped q = s.ped q ∧ t.counts q = s.counts q ∧ t.config q = s.config q) ∧
    (∀ n, pedOf n ≠ p → t.slots n = s.slots n ∧ t.setpoint n = s.setpoint n) ∧
    t.classifier.actions = s.classifier.actions ∧ t.classifier.passUp = s.classifier.passUp ∧
    t.line.inflight = s.line.inflight.map (discardedBy (· == p)) := by
  have slots (n : Conn) := tget_both s.line.slots p SafetySlots.initial n
  have setpoints (n : Conn) := tget_both s.alloc.setpoints p Setpoint.initial n
  rw [State.setAbsent_eq]
  refine ⟨fun b hb => ?_, tget_tset_same .., tget_tset_same .., tget_tset_same .., fun x => ⟨?_, ?_⟩, fun q hq =>
    ⟨tget_tset_of_ne _ _ _ _ hq, tget_tset_of_ne _ _ _ _ hq, tget_tset_of_ne _ _ _ _ hq⟩, fun n hn => ⟨?_, ?_⟩, rfl,
      rfl, rfl⟩
  · cases b with
    | line | classifier | alloc => simp at hb
    | _ => rfl
  · exact (slots _).trans (if_pos (pedOf_connOf p x))
  · exact (setpoints _).trans (if_pos (pedOf_connOf p x))
  · exact (slots _).trans (if_neg hn)
  · exact (setpoints _).trans (if_neg hn)

theorem State.inUse_any_iff {s : State} {p : Ped} : (connsOf p).any s.inUse = true ↔
    ∃ x, (s.sess (connOf p x)).state ≠ .empty ∨ (s.seq (connOf p x)).contactor ≠ .opened := by
  constructor
  · intro h
    obtain ⟨n, mem, used⟩ := List.any_eq_true.1 h
    rw [State.inUse, Bool.or_eq_true, bne_iff_ne, bne_iff_ne] at used
    rcases List.mem_cons.1 mem with rfl | mem
    · exact ⟨.a, used⟩
    · rw [List.mem_singleton.1 mem] at used
      exact ⟨.b, used⟩
  · rintro ⟨x, used⟩
    refine List.any_eq_true.2 ⟨connOf p x, by cases x <;> simp [connsOf], ?_⟩
    rw [State.inUse, Bool.or_eq_true, bne_iff_ne, bne_iff_ne]
    exact used

theorem ownSetPedestal_absent (b : Byte) (s : State) : ownSetPedestal [b, 0] s = ownAbsent b s := by
  rw [ownSetPedestal, if_pos rfl]

theorem ownSetPedestal_present {b k : Byte} {rest : Frame} (h : rest.length = 9) (s : State) :
    ∃ f : PedestalFields, f.slot = k ∧ ownSetPedestal ([b, 1, k] ++ rest) s = ownPresent b f s := by
  match rest, h with
  | [l1, l0, a1, a0, b1, b0, fa, fb, plans], _ =>
    exact ⟨⟨k, num [l1, l0], num [a1, a0], num [b1, b0], fa.toNat, fb.toNat, plans⟩, rfl,
      (ownSetPedestal.eq_def _ _).trans (if_pos rfl)⟩

theorem ownPresent_out {b : Byte} {f : PedestalFields} {s : State} (h : b.toNat = 0 ∨ 24 < b.toNat ∨ 24 ≤ f.slot.toNat)
    :
    ownPresent b f s = refuseWith .badIndex s := by
  rw [ownPresent]
  have out : (b.toNat = 0 ∨ 24 < b.toNat) ∨ 24 ≤ f.slot.toNat := by omega
  rcases out with h | h
  · rw [pedByte_out h]
  · rw [indexByte_of_le h]
    cases pedByte b <;> rfl

/-- Settles O22. -/
theorem setPedestalAbsenceAndRefusals : Obligations.SetPedestalAbsenceAndRefusals := by
  refine ⟨fun s p tag hr idle => ?_, fun s tag b rest hr len => ⟨fun k out => ?_, fun out => ?_,
    fun p q k hq configured holds => ?_,
    fun p x used => ?_⟩⟩
  · have free : ¬ (connsOf p).any s.taken.inUse = true := fun used => by
      obtain ⟨x, used⟩ := State.inUse_any_iff.1 used
      exact used.elim (fun h => h (idle x).1) fun h => h (idle x).2
    have owner : ownerOf (.setPedestal tag [byte (p.val + 1), 0]) s.taken =
        (if (s.taken.ped p).configured then s.taken.setAbsent p else s.taken, Reply.bare .ok) := by
      refine (ownSetPedestal_absent _ _).trans ?_
      rw [ownAbsent, pedByte_number]
      exact if_neg free
    constructor
    · intro new
      rw [show (s.taken.ped p).configured = false from new] at owner
      exact exec_owner_answered rfl (by simp) hr owner rfl
    · intro configured
      rw [show (s.taken.ped p).configured = true from configured] at owner
      obtain ⟨kept, ped, counts, config, conns, others, otherConns, actions, passUp, inflight⟩ :=
        s.taken.setAbsent_facts p
      rw [if_pos rfl] at owner
      generalize s.taken.setAbsent p = u at owner kept ped counts config conns others otherConns actions passUp inflight
      obtain ⟨t, run, uplink, same⟩ := exec_owned rfl (by simp) hr owner (kept .uplink (by simp))
      have classifier : t.classifier = u.classifier := same .classifier (by simp)
      have countsT (q : Ped) : t.counts q = u.counts q := by rw [State.counts, classifier, State.counts]
      have configT (q : Ped) : t.config q = u.config q := by rw [State.config, same.alloc, State.config]
      have setpointT (n : Conn) : t.setpoint n = u.setpoint n := by rw [State.setpoint, same.alloc, State.setpoint]
      refine ⟨t, run, (kept.answered same).mono (by simp), uplink, (same.ped p).trans ped, (countsT p).trans counts,
        (configT p).trans config, fun x => ⟨(same.slots _).trans (conns x).1, (setpointT _).trans (conns x).2⟩,
        fun q hq => ⟨(same.ped q).trans (others q hq).1, (countsT q).trans (others q hq).2.1,
          (configT q).trans (others q hq).2.2⟩,
        fun n hn => ⟨(same.slots n).trans (otherConns n hn).1, (setpointT n).trans (otherConns n hn).2⟩,
        by rw [classifier, actions]; rfl, by rw [classifier, passUp]; rfl, ?_⟩
      rw [same.line, inflight, discardedBy_own]
      rfl
  · obtain ⟨f, slot, present⟩ := ownSetPedestal_present (b := b) (k := k) len s.taken
    exact exec_refused .badIndex rfl (by simp [len]) hr (present.trans (ownPresent_out (slot ▸ out)))
  · refine exec_refused .badIndex rfl (by simp) hr ((ownSetPedestal_absent _ _).trans ?_)
    rw [ownAbsent, pedByte_out out]
  · obtain ⟨f, slot, present⟩ := ownSetPedestal_present (b := byte (p.val + 1)) (k := byte k.val) len s.taken
    have taken : s.taken.slotTaken p k = true := State.slotTaken_iff.2 ⟨q, hq, configured, holds⟩
    refine exec_refused .inUse rfl (by simp [len]) hr (present.trans ?_)
    rw [ownPresent, pedByte_number, slot, indexByte_byte k (by decide)]
    exact if_pos taken
  · have taken : (connsOf p).any s.taken.inUse = true := State.inUse_any_iff.2 ⟨x, used⟩
    refine exec_refused .inUse rfl (by simp) hr ((ownSetPedestal_absent _ _).trans ?_)
    rw [ownAbsent, pedByte_number]
    exact if_pos taken

end Sys2Proof.Machine
end

section
/-! SUPPORT and PROOF. The roll call: the window and the answers of its slots (R6, R7). -/

namespace Sys2Proof.Machine

/-! ### The window -/

theorem State.mem_heldSlots (s : State) (j : Nat) :
    j ∈ s.heldSlots ↔ ∃ p k, (s.ped p).configured = true ∧ (s.ped p).slot = some k ∧ k.val = j := by
  simp [State.heldSlots, allPeds, List.mem_filterMap]

theorem List.foldl_max_eq {l : List Nat} {k m : Nat} (below : ∀ j ∈ k :: l, j ≤ m) (top : m ∈ k :: l) :
    l.foldl max k = m := by
  induction l generalizing k with
  | nil => exact (List.mem_singleton.1 top).symm
  | cons a l ih =>
    refine ih (fun j hj => ?_) ?_
    · rcases List.mem_cons.1 hj with e | hj
      · exact e ▸ max_le (below k (by simp)) (below a (by simp))
      · exact below j (by simp [hj])
    · have hk := below k (by simp)
      have ha := below a (by simp)
      rcases List.mem_cons.1 top with e | top
      · exact List.mem_cons.2 (.inl (by omega))
      · rcases List.mem_cons.1 top with e | top
        · exact List.mem_cons.2 (.inl (by omega))
        · exact List.mem_cons_of_mem _ top

theorem State.openWindow_none {s : State} (h : ∀ p, (s.ped p).configured = true → (s.ped p).slot = none) :
    s.openWindow = s.setInflight none := by
  have none_held : s.heldSlots = [] := List.eq_nil_iff_forall_not_mem.2 fun j hj => by
    obtain ⟨p, k, configured, held, -⟩ := (s.mem_heldSlots j).1 hj
    simp [h p configured] at held
  rw [State.openWindow, none_held]

theorem State.openWindow_last {s : State} {p : Ped} {k : Fin 24} (hp : (s.ped p).configured = true)
    (hk : (s.ped p).slot = some k)
    (top : ∀ q j, (s.ped q).configured = true → (s.ped q).slot = some j → j ≤ k) :
    s.openWindow = { s with line := { s.line with window := some ⟨0, k.val, s.clock.ms⟩ } } := by
  have held : k.val ∈ s.heldSlots := (s.mem_heldSlots _).2 ⟨p, k, hp, hk, rfl⟩
  have below : ∀ j ∈ s.heldSlots, j ≤ k.val := fun j hj => by
    obtain ⟨q, i, configured, at_, rfl⟩ := (s.mem_heldSlots j).1 hj
    exact top q i configured at_
  unfold State.openWindow
  cases hs : s.heldSlots with
  | nil => rw [hs] at held; cases held
  | cons j l =>
    rw [hs] at held below
    dsimp only
    rw [List.foldl_max_eq below held]

theorem State.slotHolder_eq {s : State} {p : Ped} {k : Fin 24} (sound : s.PedestalsSound)
    (hp : (s.ped p).configured = true) (hk : (s.ped p).slot = some k) : s.slotHolder k.val = some p := by
  obtain ⟨-, -, -, one, -, -⟩ := sound
  have holds (q : Ped) : ((s.ped q).configured && (s.ped q).slot.any (fun x => x.val == k.val)) = true ↔ q = p := by
    rw [Bool.and_eq_true, Option.any_eq_true]
    refine ⟨fun ⟨hq, x, hx, e⟩ => ?_, fun e => e ▸ ⟨hp, k, hk, by simp⟩⟩
    exact one q p k hq hp (hx.trans (congrArg some (Fin.ext (by simpa using e)))) hk
  unfold State.slotHolder
  cases hf : allPeds.find? fun q => (s.ped q).configured && (s.ped q).slot.any (fun x => x.val == k.val) with
  | none => exact absurd ((holds p).2 rfl) (by simpa using List.find?_eq_none.1 hf p (List.mem_finRange p))
  | some q => exact congrArg some ((holds q).1 (by simpa using List.find?_some hf))

/-! ### What an answer may touch -/

/-- What the answer of a slot leaves of the line and of the other pedestals (R6, R7). -/
structure SlotServed (p : Ped) (touched : List Block) (s t : State) : Prop where
  blocks : SameBut (.line :: touched) s t
  others : ∀ q, q ≠ p → t.ped q = s.ped q
  latch : t.line.pendingLatch = s.line.pendingLatch
  inflight : t.line.inflight = s.line.inflight

theorem SlotServed.trans {p : Ped} {l : List Block} {s t u : State} (h : SlotServed p l s t)
    (g : SlotServed p l t u) : SlotServed p l s u :=
  ⟨h.blocks.trans g.blocks, fun q hq => (g.others q hq).trans (h.others q hq), g.latch.trans h.latch,
    g.inflight.trans h.inflight⟩

theorem SlotServed.mono {p : Ped} {l l' : List Block} {s t : State} (h : SlotServed p l s t) (hl : l ⊆ l') :
    SlotServed p l' s t :=
  ⟨h.blocks.mono fun _ hb => List.cons_subset_cons _ hl hb, h.others, h.latch, h.inflight⟩

theorem SlotServed.updPed (p : Ped) (f : Pedestal → Pedestal) (s : State) : SlotServed p [] s (s.updPed p f) where
  blocks := by
    intro b hb
    cases b with
    | line => simp at hb
    | _ => rfl
  others q hq := by rw [s.updPed_ped, if_neg hq]
  latch := rfl
  inflight := rfl

theorem SlotServed.raise (p : Ped) (k : EventKind) (s : State) : SlotServed p [.uplink] s (s.raise k) := by
  rw [s.raise_eq]
  refine ⟨fun b hb => ?_, fun _ _ => rfl, rfl, rfl⟩
  cases b with
  | uplink => simp at hb
  | _ => rfl

theorem SlotServed.pass (p : Ped) (s : State) : SlotServed p [.alloc] s s.pass :=
  ⟨s.pass_stage.blocks, fun q _ => s.pass_stage.ped q, by rw [s.pass_stage.line], s.pass_stage.inflight⟩

/-! ### The answers -/

/-- A pedestal found or lost: its entry, then its event and a pass. -/
def State.withNews (p : Ped) (f : Pedestal → Pedestal) (k : EventKind) (s : State) : State :=
  ((s.updPed p f).raise k).pass

theorem State.withNews_facts (p : Ped) (f : Pedestal → Pedestal) (k : EventKind) (s : State) :
    SlotServed p [.alloc, .uplink] s (s.withNews p f k) ∧ PassTaken (s.withNews p f k) ∧
    (s.withNews p f k).uplink = s.uplink.withRaised k ∧ (s.withNews p f k).ped p = f (s.ped p) := by
  refine ⟨?_, State.pass_passTaken _, ?_, ?_⟩
  · exact ((SlotServed.updPed p f s).mono (by simp)).trans
      (((SlotServed.raise p k _).mono (by simp)).trans ((SlotServed.pass p _).mono (by simp)))
  · exact ((State.pass_stage _).blocks .uplink (by simp)).trans (State.raise_uplink k _)
  · refine ((State.pass_stage _).ped p).trans ?_
    rw [State.raise_eq]
    exact s.updPed_ped_same p f

theorem State.updPed_twice (p : Ped) (f g : Pedestal → Pedestal) (s : State) :
    (s.updPed p f).updPed p g = s.updPed p fun e => g (f e) := by
  simp only [State.updPed, State.ped, tget_tset_same, tset_tset]

section heard

variable (p : Ped) (s : State)

/-- The entry an answer of QUIET or ATTENTION leaves at a moment, but for an UNREACHABLE pedestal (R7). -/
def Pedestal.heard (attention : Bool) (now : Nat) (e : Pedestal) : Pedestal :=
  let e := { e with absentCount := 0 }
  match e.link with
  | .unconfigured | .unreachable => e
  | .probing | .quiet =>
    if attention then { e with link := .active, nextPoll := some now } else { e with link := .quiet }
  | .active => if attention then { e with nextPoll := e.nextPoll.map (min now) } else e

/-- The entry of a pedestal found at a moment (R7). -/
def Pedestal.foundAt (now : Nat) (e : Pedestal) : Pedestal :=
  { e with absentCount := 0, link := .active, failCount := 0, resync := true, nextPoll := some now }

theorem State.updPed_congr {f g : Pedestal → Pedestal} (h : f (s.ped p) = g (s.ped p)) : s.updPed p f =
    s.updPed p g := by
  unfold State.updPed
  rw [h]

theorem State.slotPresent_heard (attention : Bool) (h : (s.ped p).link ≠ .unreachable) :
    s.slotPresent p attention = s.updPed p (.heard attention s.clock.ms) := by
  have link : ((s.updPed p fun e => { e with absentCount := 0 }).ped p).link = (s.ped p).link := by
    rw [State.updPed_ped_same]
  unfold State.slotPresent
  dsimp only
  rw [link]
  cases hl : (s.ped p).link with
  | unconfigured => exact s.updPed_congr p (by simp [Pedestal.heard, hl])
  | probing | quiet =>
    cases attention <;>
      (simp only [Bool.false_eq_true, if_true, if_false, State.updPed_twice]
       exact s.updPed_congr p (by simp [Pedestal.heard, hl]))
  | active =>
    cases attention with
    | false =>
      simp only [Bool.false_eq_true, if_false]
      exact s.updPed_congr p (by simp [Pedestal.heard, hl])
    | true =>
      simp only [if_true, State.updPed_twice]
      exact s.updPed_congr p (by simp [Pedestal.heard, hl])
  | unreachable => exact absurd hl h

theorem State.slotPresent_found (attention : Bool) (h : (s.ped p).link = .unreachable) :
    s.slotPresent p attention = s.withNews p (.foundAt s.clock.ms) .pedestalFound := by
  have link : ((s.updPed p fun e => { e with absentCount := 0 }).ped p).link = .unreachable := by
    rw [State.updPed_ped_same]; exact h
  unfold State.slotPresent
  dsimp only
  rw [link]
  simp only [State.found, State.updPed_twice, State.updPed_clock]
  rfl

theorem State.slotAbsent_ignored (h : (s.ped p).link = .active ∨ (s.ped p).link = .unreachable) :
    s.slotAbsent p = s := by
  unfold State.slotAbsent
  rcases h with h | h <;> rw [h]

/-- The state after one more ABSENT slot of pedestal p. -/
def State.absentOnce : State := s.updPed p fun e => { e with absentCount := min (e.absentCount + 1) 3 }

theorem State.slotAbsent_eq (h : (s.ped p).link = .probing ∨ (s.ped p).link = .quiet) :
    s.slotAbsent p = if 2 ≤ (s.ped p).absentCount then (s.absentOnce p).lose p none else s.absentOnce p := by
  have count : 3 ≤ ((s.absentOnce p).ped p).absentCount ↔ 2 ≤ (s.ped p).absentCount := by
    rw [State.absentOnce, State.updPed_ped_same]
    dsimp only
    omega
  have case : s.slotAbsent p =
      if 3 ≤ ((s.absentOnce p).ped p).absentCount then (s.absentOnce p).lose p none else s.absentOnce p := by
    unfold State.slotAbsent
    rcases h with h | h <;> rw [h] <;> rfl
  rw [case]
  by_cases h2 : 2 ≤ (s.ped p).absentCount
  · rw [if_pos (count.2 h2), if_pos h2]
  · rw [if_neg (mt count.1 h2), if_neg h2]

/-- The entry of a pedestal whose third ABSENT slot in turn makes it UNREACHABLE (R7, R10). -/
def Pedestal.lostSilent (e : Pedestal) : Pedestal :=
  { e with
    absentCount := min (e.absentCount + 1) 3, link := .unreachable, resync := false, queue := [],
    nextPoll := none, disposition := .none }

theorem State.enterUnreachable_none (hq : (s.ped p).queue = []) :
    s.enterUnreachable p none = s.withNews p (fun e =>
      { e with link := .unreachable, resync := false, queue := [], nextPoll := none, disposition := .none })
      .pedestalLost := by
  rw [State.enterUnreachable_eq, hq]
  exact congrArg (fun t => (State.raise .pedestalLost t).pass)
    (s.updPed_twice p (fun e => { e with link := .unreachable, resync := false, queue := [] })
      fun e => { e with nextPoll := none, disposition := .none })

theorem State.slotAbsent_lost (h : (s.ped p).link = .probing ∨ (s.ped p).link = .quiet)
    (h2 : 2 ≤ (s.ped p).absentCount) (hq : (s.ped p).queue = []) :
    s.slotAbsent p = s.withNews p .lostSilent .pedestalLost := by
  have entry : (s.absentOnce p).ped p = { s.ped p with absentCount := min ((s.ped p).absentCount + 1) 3 } := by
    rw [State.absentOnce, State.updPed_ped_same]
  have away : ((s.absentOnce p).ped p).link ≠ .unconfigured := by
    rw [entry]
    rcases h with h | h <;> simp [h]
  rw [s.slotAbsent_eq p h, if_pos h2, State.lose, if_neg away,
    State.enterUnreachable_none p _ (by rw [entry]; exact hq)]
  exact congrArg (fun t => (State.raise .pedestalLost t).pass) (s.updPed_twice p _ _)

end heard

/-! ### Reading the bytes of a slot -/

theorem classifySlot_good (value : Byte) :
    classifySlot (withCheck [value]) = if value = 0 then .quiet else .attention := by
  have good := checkGood_withCheck [value]
  have length : (withCheck [value]).length = 3 := by simp [withCheck, be_length]
  have head : (withCheck [value]).head? = some value := rfl
  have some_ : (withCheck [value]).isEmpty = false := rfl
  simp only [classifySlot, good, length, head, some_]
  by_cases hv : value = 0 <;> simp [hv]

theorem classifySlot_silent {frame : Frame} (h : frame = [] ∨ (3 < frame.length ∧ checkGood frame = true)) :
    classifySlot frame = .absent false := by
  rcases h with rfl | ⟨long, good⟩
  · rfl
  · have some_ : frame.isEmpty = false := by cases frame with
      | nil => simp at long
      | cons => rfl
    simp [classifySlot, good, some_, long, show ¬ frame.length < 3 by omega]

theorem classifySlot_bad {frame : Frame} (some_ : frame ≠ []) (bad : checkGood frame = false) :
    classifySlot frame = .absent true := by
  simp [classifySlot, bad, some_]

/-! ### The end of a slot -/

theorem State.nextSlot_same (w : RollWindow) (s : State) : SameBut [.line] s (s.nextSlot w) := by
  unfold State.nextSlot
  intro b hb
  split <;> (cases b with
    | line => simp at hb
    | _ => rfl)

theorem State.nextSlot_line (w : RollWindow) (s : State) :
    (s.nextSlot w).line = { s.line with
      window := if w.last ≤ w.slot then none else some { w with slot := w.slot + 1 }
      inflight := if w.last ≤ w.slot then none else s.line.inflight } := by
  unfold State.nextSlot
  by_cases h : w.last ≤ w.slot
  · simp only [if_pos h]
  · simp only [if_neg h]

theorem State.nextSlot_ped (w : RollWindow) (s : State) (q : Ped) : (s.nextSlot w).ped q = s.ped q := by
  rw [State.ped, State.nextSlot_line, State.ped]

theorem PassTaken.nextSlot {s : State} (h : PassTaken s) (w : RollWindow) : PassTaken (s.nextSlot w) := by
  unfold State.nextSlot
  split
  · exact h
  · exact h

/-- What the end of a slot of the window leaves, besides the entry of the pedestal that answers (R6). -/
def SlotEnded (w : RollWindow) (p : Ped) (touched : List Block) (s t : State) : Prop :=
  SameBut (.line :: .clock :: touched) s t ∧ ClockAt (w.start + 2 * (w.slot + 1)) s.clock t.clock ∧
  (∀ q, q ≠ p → t.ped q = s.ped q) ∧ t.line.pendingLatch = s.line.pendingLatch ∧
  t.line.window = (if w.last ≤ w.slot then none else some { w with slot := w.slot + 1 }) ∧
  t.line.inflight = (if w.last ≤ w.slot then none else s.line.inflight)

theorem SlotServed.ended {w : RollWindow} {p : Ped} {touched : List Block} {s a : State}
    (hm : w.start + 2 * (w.slot + 1) ≤ Config.lastMs) (clock : Block.clock ∉ touched)
    (h : SlotServed p touched (s.advanceTo (w.start + 2 * (w.slot + 1))) a) :
    SlotEnded w p touched s (a.nextSlot w) := by
  obtain ⟨blocks, others, latch, inflight⟩ := h
  set u := s.advanceTo (w.start + 2 * (w.slot + 1)) with hu
  have line : u.line = s.line := SameBut.advanceTo _ s .line (by simp)
  have ped (q : Ped) : u.ped q = s.ped q := by rw [State.ped, line, State.ped]
  have passed : SameBut (.line :: .clock :: touched) s u := (SameBut.advanceTo _ s).mono (by simp)
  have time : (a.nextSlot w).clock = u.clock :=
    ((a.nextSlot_same w .clock (by simp)).trans (blocks .clock (by simp [clock])))
  refine ⟨(passed.trans (blocks.mono (by simp; exact fun b hb => .inr (.inr hb)))).trans
    ((a.nextSlot_same w).mono (by simp)), ?_, fun q hq => ?_, ?_, ?_, ?_⟩
  · rw [time]; exact s.advanceTo_clockAt hm
  · rw [a.nextSlot_ped, others q hq, ped]
  · rw [a.nextSlot_line]; exact latch.trans (congrArg LineState.pendingLatch line)
  · rw [a.nextSlot_line]
  · rw [a.nextSlot_line]
    rw [inflight, line]

theorem State.endSlot_answer {s : State} {w : RollWindow} {p : Ped} {k : Fin 24} (sound : s.PedestalsSound)
    (hw : s.line.window = some w) (hp : (s.ped p).configured = true) (hk : (s.ped p).slot = some k)
    (hkw : k.val = w.slot) (bytes : Frame) :
    s.endSlot bytes =
      ((s.advanceTo (w.start + 2 * (w.slot + 1))).slotAnswer p (classifySlot bytes)).nextSlot w := by
  have line : (s.advanceTo (w.start + 2 * (w.slot + 1))).line = s.line := SameBut.advanceTo _ s .line (by simp)
  have holder : (s.advanceTo (w.start + 2 * (w.slot + 1))).slotHolder w.slot = some p := by
    have same : (s.advanceTo (w.start + 2 * (w.slot + 1))).slotHolder w.slot = s.slotHolder w.slot := by
      simp only [State.slotHolder, State.ped, line]
    rw [same, ← hkw, State.slotHolder_eq sound hp hk]
  rw [State.endSlot_eq bytes hw, State.endSlotAnswer, holder]

/-! ### The statement -/

theorem State.broadcastSent_latch {s : State} {x : Txn} (hx : s.line.inflight = some x) {epoch : Byte}
    (hk : x.kind = .latch epoch) :
    exec .broadcastSent s = .next { s with line := { s.line with inflight := none } } := by
  show execBroadcastSent s = _
  simp only [execBroadcastSent, hx, hk]
  rfl

theorem State.broadcastSent_rollCall {s : State} {x : Txn} (hx : s.line.inflight = some x) (hk : x.kind = .rollCall)
    (hw : s.line.window = none) : exec .broadcastSent s = .next s.openWindow := by
  show execBroadcastSent s = _
  simp only [execBroadcastSent, hx, hk, hw]

section slot

variable {s : State} {w : RollWindow} {p : Ped} {k : Fin 24} (hm : w.start + 2 * (w.slot + 1) ≤ Config.lastMs)

include hm

/-- The end of a slot whose answer only writes the entry of the pedestal that holds it. -/
theorem slotEnded_updPed (f : Pedestal → Pedestal) :
    let t := ((s.advanceTo (w.start + 2 * (w.slot + 1))).updPed p f).nextSlot w
    SlotEnded w p [] s t ∧ t.ped p = f (s.ped p) := by
  have line := SameBut.advanceTo (w.start + 2 * (w.slot + 1)) s .line (by simp)
  refine ⟨(SlotServed.updPed p f _).ended hm (by simp), ?_⟩
  rw [State.nextSlot_ped, State.updPed_ped_same, State.ped, line, State.ped]

theorem slotEnded_nothing :
    let t := (s.advanceTo (w.start + 2 * (w.slot + 1))).nextSlot w
    SlotEnded w p [] s t ∧ t.ped p = s.ped p := by
  have line := SameBut.advanceTo (w.start + 2 * (w.slot + 1)) s .line (by simp)
  refine ⟨SlotServed.ended hm (by simp) ⟨.refl _ _, fun _ _ => rfl, rfl, rfl⟩, ?_⟩
  rw [State.nextSlot_ped, State.ped, line, State.ped]

/-- The end of a slot whose answer finds or loses the pedestal that holds it. -/
theorem slotEnded_news (f : Pedestal → Pedestal) (j : EventKind) :
    let t := ((s.advanceTo (w.start + 2 * (w.slot + 1))).withNews p f j).nextSlot w
    SlotEnded w p [.alloc, .uplink] s t ∧ PassTaken t ∧ t.uplink = s.uplink.withRaised j ∧
    t.ped p = f (s.ped p) := by
  have line := SameBut.advanceTo (w.start + 2 * (w.slot + 1)) s .line (by simp)
  have uplink := SameBut.advanceTo (w.start + 2 * (w.slot + 1)) s .uplink (by simp)
  obtain ⟨served, placed, raised, entry⟩ :=
    State.withNews_facts p f j (s.advanceTo (w.start + 2 * (w.slot + 1)))
  refine ⟨served.ended hm (by simp), placed.nextSlot w, ?_, ?_⟩
  · exact (State.nextSlot_same w _ .uplink (by simp)).trans (raised.trans (congrArg (UplinkState.withRaised j) uplink))
  · rw [State.nextSlot_ped, entry, State.ped, line, State.ped]

/-- The end of a slot whose answer only counts a failed check word. -/
theorem slotEnded_counted (f : Pedestal → Pedestal) :
    let t := (((s.advanceTo (w.start + 2 * (w.slot + 1))).updPed p f).raise .linkErrors).nextSlot w
    SlotEnded w p [.uplink] s t ∧ t.uplink = s.uplink.withRaised .linkErrors ∧ t.ped p = f (s.ped p) := by
  have line := SameBut.advanceTo (w.start + 2 * (w.slot + 1)) s .line (by simp)
  have uplink := SameBut.advanceTo (w.start + 2 * (w.slot + 1)) s .uplink (by simp)
  refine ⟨(((SlotServed.updPed p f _).mono (by simp)).trans (SlotServed.raise p .linkErrors _)).ended hm (by simp),
    ?_, ?_⟩
  · exact (State.nextSlot_same w _ .uplink (by simp)).trans
      ((State.raise_uplink _ _).trans (congrArg (UplinkState.withRaised .linkErrors) uplink))
  · rw [State.nextSlot_ped, State.raise_eq]
    show ((s.advanceTo _).updPed p f).ped p = _
    rw [State.updPed_ped_same, State.ped, line, State.ped]

end slot

/-- Settles O60. -/
theorem rollCallWindowServesEachSlot : Obligations.RollCallWindowServesEachSlot := by
  refine ⟨fun s x hx => ⟨fun ⟨epoch, hk⟩ => State.broadcastSent_latch hx hk, fun hk hw none_held => ?_,
    fun p k hk hw hp hs top => ?_⟩, ?_⟩
  · rw [State.broadcastSent_rollCall hx hk hw, State.openWindow_none none_held]
    rfl
  · rw [State.broadcastSent_rollCall hx hk hw, State.openWindow_last hp hs top]
  intro s w p k sound hw hp hk hkw hm e now after
  have answer (bytes : Frame) : exec (.rollCallSlot bytes) s = .next
      (((s.advanceTo (w.start + 2 * (w.slot + 1))).slotAnswer p (classifySlot bytes)).nextSlot w) :=
    congrArg Host.Outcome.next (State.endSlot_answer sound hw hp hk hkw bytes)
  have ended (f : Pedestal → Pedestal) := slotEnded_updPed (s := s) (p := p) hm f
  have nothing := slotEnded_nothing (s := s) (p := p) hm
  have news (f : Pedestal → Pedestal) (j : EventKind) := slotEnded_news (s := s) (p := p) hm f j
  have counts (f : Pedestal → Pedestal) := slotEnded_counted (s := s) (p := p) hm f
  have ms : (s.advanceTo (w.start + 2 * (w.slot + 1))).clock.ms = now := s.advanceTo_ms _ hm
  have entry : (s.advanceTo (w.start + 2 * (w.slot + 1))).ped p = e := by
    have line := SameBut.advanceTo (w.start + 2 * (w.slot + 1)) s .line (by simp)
    rw [State.ped, line]
    rfl
  generalize s.advanceTo (w.start + 2 * (w.slot + 1)) = u at answer ended nothing news counts ms entry
  refine ⟨fun value => ⟨_, answer _, ?_⟩, fun silence silent => ⟨_, answer _, ?_⟩,
    fun bytes some_ bad active => ⟨_, answer _, ?_⟩⟩
  · have present : u.slotAnswer p (classifySlot (withCheck [value])) = u.slotPresent p (decide (value ≠ 0)) := by
      rw [classifySlot_good]
      by_cases hv : value = 0
      · rw [if_pos hv, decide_eq_false (not_not.2 hv)]
        rfl
      · rw [if_neg hv, decide_eq_true hv]
        rfl
    have heard (h : e.link ≠ .unreachable) : after [] ((u.slotPresent p (decide (value ≠ 0))).nextSlot w) ∧
        ((u.slotPresent p (decide (value ≠ 0))).nextSlot w).ped p = e.heard (decide (value ≠ 0)) now := by
      rw [State.slotPresent_heard p u _ (by rw [entry]; exact h), ms]
      exact ended _
    rw [present]
    refine ⟨fun h => ?_, fun h => ?_, fun h => ?_⟩
    · obtain ⟨same, at_⟩ := heard (by rcases h with h | h <;> simp [h])
      refine ⟨same, at_.trans ?_⟩
      by_cases hv : value = 0 <;> rcases h with h | h <;> simp [Pedestal.heard, h, hv]
    · obtain ⟨same, at_⟩ := heard (by simp [h])
      refine ⟨same, at_.trans ?_⟩
      by_cases hv : value = 0 <;> simp [Pedestal.heard, h, hv]
    · rw [State.slotPresent_found p u _ (by rw [entry]; exact h), ms]
      exact news (.foundAt now) .pedestalFound
  · have absent : u.slotAnswer p (classifySlot silence) = u.slotAbsent p := by
      rw [classifySlot_silent silent]; rfl
    rw [absent]
    refine ⟨fun h => ?_, fun h few => ?_, fun h two none_waits => ?_⟩
    · rw [State.slotAbsent_ignored p u (by rw [entry]; exact h)]
      exact nothing
    · rw [State.slotAbsent_eq p u (by rw [entry]; exact h), entry, if_neg (by omega)]
      obtain ⟨same, at_⟩ := ended fun e => { e with absentCount := min (e.absentCount + 1) 3 }
      refine ⟨same, at_.trans ?_⟩
      have : min ((s.ped p).absentCount + 1) 3 = (s.ped p).absentCount + 1 := by
        have : (s.ped p).absentCount < 2 := few
        omega
      rw [this]
    · rw [State.slotAbsent_lost p u (by rw [entry]; exact h) (by rw [entry]; omega) (by rw [entry]; exact none_waits)]
      obtain ⟨same, placed, raised, at_⟩ := news .lostSilent .pedestalLost
      refine ⟨same, placed, raised, at_.trans ?_⟩
      have count : min ((s.ped p).absentCount + 1) 3 = 3 := by
        have : (s.ped p).absentCount = 2 := two
        omega
      have queue : (s.ped p).queue = [] := none_waits
      simp only [Pedestal.lostSilent, count, ← queue]
      rfl
  · have counted : u.slotAnswer p (classifySlot bytes) =
        (u.updPed p fun e => { e with checkFails := satInc e.checkFails }).raise .linkErrors := by
      rw [classifySlot_bad some_ bad]
      refine State.slotAbsent_ignored p _ (.inl ?_)
      have still : ((u.updPed p fun e => { e with checkFails := satInc e.checkFails }).ped p).link = e.link := by
        rw [State.updPed_ped_same, entry]
      rw [if_pos rfl, State.checkFailed, State.raise_eq]
      exact still.trans active
    rw [counted]
    exact counts _

end Sys2Proof.Machine
end

section
/-! SUPPORT and PROOF. The ACK and the NAK of a live transaction (R13). -/

namespace Sys2Proof.Machine

/-! ### Reception -/

/-- A frame of no body is read by its kind, for any attempt but a POLL's. -/
theorem classifyFrame_bare (p : Ped) {kind : Nat} (hk : kind < 256) (range : kindLengths kind = some (5, 5))
    (other : kind ≠ 129) :
    classifyFrame p false (lineFrame (p.val + 1) kind []) =
      if byte kind = 130 then .ack else if byte kind = 131 then .nak else .bad false := by
  have good : lengthGood (lineFrame (p.val + 1) kind []) = true :=
    lengthGood_lineFrame (by decide) hk range (by decide) fun e => absurd e other
  have check : checkGood (lineFrame (p.val + 1) kind []) = true := checkGood_withCheck _
  have header : lineFrame (p.val + 1) kind [] = byte (p.val + 1) :: byte 5 :: byte kind :: _ := lineFrame_eq ..
  have address : (byte (p.val + 1)).toNat = p.val + 1 := byte_toNat_of_lt (by omega)
  unfold classifyFrame
  rw [good, check, header]
  simp only [address, Bool.not_true, Bool.false_eq_true, if_false, ne_eq, not_true]

theorem classifyFrame_ackFrame (p : Ped) : classifyFrame p false (ackFrame p) = .ack :=
  (classifyFrame_bare p (by decide) rfl (by decide)).trans rfl

theorem classifyFrame_nakFrame (p : Ped) : classifyFrame p false (nakFrame p) = .nak :=
  (classifyFrame_bare p (by decide) rfl (by decide)).trans rfl

section live

variable {s : State} {x : Txn} {p : Ped} (hx : s.line.inflight = some x) (ht : x.target = some p)
  (hd : x.discarded = false)

include hx ht hd

theorem State.receive_live (frame : Frame) : s.receive frame =
    match classifyFrame p (x.kind == .poll) frame with
    | .bad checkBad => (if checkBad then s.checkFailed p else s).attemptFailed p x
    | .status r => s.statusReceived p r
    | .ack => s.ackReceived p x
    | .nak => s.nakReceived p x := by
  unfold State.receive
  rw [hx]
  dsimp only
  rw [ht]
  dsimp only
  rw [hd]
  rfl

theorem State.receive_ack (hk : x.kind ≠ .poll) : exec (.ackReply (ackFrame p)) s = .next (s.ackReceived p x) := by
  refine congrArg Host.Outcome.next ((State.receive_live hx ht hd _).trans ?_)
  rw [beq_eq_false_iff_ne.2 hk, classifyFrame_ackFrame]

theorem State.receive_nak (hk : x.kind ≠ .poll) : exec (.nakReply (nakFrame p)) s = .next (s.nakReceived p x) := by
  refine congrArg Host.Outcome.next ((State.receive_live hx ht hd _).trans ?_)
  rw [beq_eq_false_iff_ne.2 hk, classifyFrame_nakFrame]

end live

/-! ### What ends with a transaction -/

/-- The blocks and the entries a good reply leaves alone. -/
theorem State.goodReply_same (p : Ped) (s : State) : SameBut [.line] s (s.goodReply p) := by
  intro b hb
  cases b with
  | line => simp at hb
  | _ => rfl

theorem State.goodReply_ped (p : Ped) (s : State) : (s.goodReply p).ped p = (s.ped p).replied s.clock.ms :=
  tget_tset_same ..

/-- A contactor that was not OPEN changes its record alone. -/
theorem State.setContactor_of_left {n : Conn} {s : State} (c : ContactorState) (h : (s.seq n).contactor ≠ .opened) :
    s.setContactor n c = s.withSeq n { s.seq n with contactor := c } := by
  unfold State.setContactor
  exact if_neg fun both => h both.1

theorem State.withSeq_enterOpening {n : Conn} {s : State} {x : SeqRecord} (h : x.contactor ≠ .opened) :
    (s.withSeq n x).enterOpening n =
      s.withSeq n { x with contactor := .opening, openAcked := false, repliesSinceOpen := 0 } := by
  unfold State.enterOpening
  rw [State.updSeq_eq_withSeq, State.withSeq_seq, State.withSeq_withSeq,
    State.setContactor_of_left .opening (by rw [State.withSeq_seq]; exact h), State.withSeq_seq, State.withSeq_withSeq]

/-! ### Setpoint records -/

/-- What an update of connector n's setpoint record and its placement leave alone. -/
structure Replaced (n : Conn) (s t : State) : Prop where
  blocks : SameBut [.line, .alloc] s t
  peds : t.line.peds = s.line.peds
  inflight : t.line.inflight = s.line.inflight
  records : ∀ m, m ≠ n → t.setpoint m = s.setpoint m ∧ t.slots m = s.slots m

theorem Replaced.trans {n : Conn} {s t u : State} (h : Replaced n s t) (g : Replaced n t u) : Replaced n s u :=
  ⟨h.blocks.trans g.blocks, g.peds.trans h.peds, g.inflight.trans h.inflight, fun m hm =>
    ⟨(g.records m hm).1.trans (h.records m hm).1, (g.records m hm).2.trans (h.records m hm).2⟩⟩

theorem Replaced.updSetpoint (n : Conn) (f : Setpoint → Setpoint) (s : State) : Replaced n s (s.updSetpoint n f) where
  blocks := by
    intro b hb
    cases b with
    | line | alloc => simp at hb
    | _ => rfl
  peds := rfl
  inflight := rfl
  records m hm := ⟨by rw [State.updSetpoint_setpoint, if_neg hm], rfl⟩

theorem Replaced.updSlots (n : Conn) (f : SafetySlots → SafetySlots) (s : State) : Replaced n s (s.updSlots n f) where
  blocks := by
    intro b hb
    cases b with
    | line | alloc => simp at hb
    | _ => rfl
  peds := rfl
  inflight := rfl
  records m hm := ⟨rfl, by rw [State.updSlots_slots, if_neg hm]⟩

theorem Replaced.refl (n : Conn) (s : State) : Replaced n s s := ⟨.refl _ s, rfl, rfl, fun _ _ => ⟨rfl, rfl⟩⟩

theorem Replaced.place (n : Conn) (s : State) : Replaced n s (s.place n) := by
  rcases State.place_cases n s with ⟨-, e⟩ | ⟨-, f, k, e, -, -⟩
  · rw [e]; exact .refl n s
  · rw [e]; exact (Replaced.updSlots n f s).trans (.updSetpoint n _ _)

theorem State.place_fields (n : Conn) (s : State) :
    ((s.place n).setpoint n).grant = (s.setpoint n).grant ∧ ((s.place n).setpoint n).target = (s.setpoint n).target ∧
    ((s.place n).setpoint n).holdExpiry = (s.setpoint n).holdExpiry ∧
    ((s.place n).setpoint n).inFlight = (s.setpoint n).inFlight ∧
    (((s.place n).setpoint n).state = .increaseSent ↔ (s.setpoint n).state = .increaseSent) := by
  obtain ⟨-, -, -, sent⟩ := (s.setpoint n).placed_kept
  rw [State.place_setpoint, if_pos rfl]
  refine ⟨?_, ?_, ?_, ?_, sent⟩ <;> rw [Setpoint.placed_eq]

theorem State.place_placed {n : Conn} {s : State} (h : (s.setpoint n).state ≠ .increaseSent) :
    Placed ((s.place n).setpoint n) ((s.place n).slots n) := by
  rw [State.place_setpoint, State.place_slots, if_pos rfl, if_pos rfl]
  exact placed_placed _ _ h

theorem State.place_standing (n : Conn) (s : State) : ((s.place n).setpoint n).state = .increaseSent ∨
    Placed ((s.place n).setpoint n) ((s.place n).slots n) := by
  by_cases h : (s.setpoint n).state = .increaseSent
  · exact .inl ((s.place_fields n).2.2.2.2.2 h)
  · exact .inr (State.place_placed h)

theorem State.updSetpoint_same (n : Conn) (f : Setpoint → Setpoint) (s : State) :
    (s.updSetpoint n f).setpoint n = f (s.setpoint n) := by rw [State.updSetpoint_setpoint, if_pos rfl]

/-! ### The ACK -/

/-- What the ACK of a setpoint leaves besides the record it is for. -/
theorem Replaced.acked {p : Ped} {n : Conn} {s t : State} (h : Replaced n (s.goodReply p) t) :
    SameBut [.line, .alloc] s t ∧ t.line.peds = (s.goodReply p).line.peds ∧ t.line.inflight = none ∧
    ∀ m, m ≠ n → t.setpoint m = s.setpoint m ∧ t.slots m = s.slots m :=
  ⟨((s.goodReply_same p).mono (by simp)).trans h.blocks, h.peds, h.inflight, h.records⟩

/-- An OPEN's ACK clears its slot, unless it was set again, and counts at a connector that opens (R13, R48). -/
theorem State.openSlot_ended (n : Conn) (x : Txn) (p : Ped) (s : State) :
    ((s.goodReply p).openSlotAcked n x).openAcked n = { s with
      line := { (s.goodReply p).line with
        slots := if x.setAgain then s.line.slots else tset s.line.slots n { s.slots n with openSet := false } }
      sequencer := if (s.seq n).contactor = .opening then
          { s.sequencer with recs := tset s.sequencer.recs n { s.seq n with openAcked := true } }
        else s.sequencer } := by
  unfold State.openSlotAcked State.openAcked
  by_cases again : x.setAgain = true
  · rw [if_pos again, if_pos again]
    by_cases opening : (s.seq n).contactor = .opening
    · rw [if_pos opening]
      exact if_pos opening
    · rw [if_neg opening]
      exact if_neg opening
  · rw [if_neg again, if_neg again]
    by_cases opening : (s.seq n).contactor = .opening
    · rw [if_pos opening]
      exact if_pos opening
    · rw [if_neg opening]
      exact if_neg opening

theorem ContactorState.left {c k : ContactorState} (h : c = k) (hk : k ≠ .opened) : c ≠ .opened := h ▸ hk

section closing

variable {n : Conn} {s : State} (closing : (s.seq n).contactor = .closing)

include closing

theorem State.closeAck_verifies (plain : (s.seq n).openPending = false) :
    s.closeAck n = s.withSeq n { s.seq n with
      contactor := .verifying, settleDeadline := some (s.clock.ms + s.sequencer.settleTime) } := by
  unfold State.closeAck
  dsimp only
  rw [if_neg (not_not.2 closing), if_neg (Bool.not_eq_true _ ▸ plain), State.updSeq_eq_withSeq,
    State.setContactor_of_left .verifying (by rw [State.withSeq_seq]; exact ContactorState.left closing nofun),
    State.withSeq_seq, State.withSeq_withSeq]

theorem State.pending_opens :
    (s.updSeq n fun r => { r with openPending := false }).enterOpening n = s.withSeq n { s.seq n with
      contactor := .opening, openPending := false, openAcked := false, repliesSinceOpen := 0 } := by
  rw [State.updSeq_eq_withSeq]
  exact State.withSeq_enterOpening (ContactorState.left closing nofun)

theorem State.closeAck_opens (pending : (s.seq n).openPending = true) :
    s.closeAck n = s.withSeq n { s.seq n with
      contactor := .opening, openPending := false, openAcked := false, repliesSinceOpen := 0 } := by
  unfold State.closeAck
  dsimp only
  rw [if_neg (not_not.2 closing), if_pos pending, State.pending_opens closing]

end closing

/-- Settles O56. -/
theorem acksEndTheirCommand : Obligations.AcksEndTheirCommand := by
  intro s x p hx ht hd ended acked recs expiry placed
  have received (hk : x.kind ≠ .poll) : acked = .next (s.ackReceived p x) := State.receive_ack hx ht hd hk
  have standing (n : Conn) (f : Setpoint → Setpoint) (u : State) (hu : Replaced n (s.goodReply p) u) :
      placed n ((u.updSetpoint n f).place n) := by
    obtain ⟨blocks, peds, inflight, others⟩ := ((hu.trans (.updSetpoint n f u)).trans (.place n _)).acked
    exact ⟨blocks, peds, inflight, State.place_standing n _, others⟩
  have record (n : Conn) (f : Setpoint → Setpoint) (u : State) := State.place_fields n (u.updSetpoint n f)
  have ack {k : TxnKind} (hk : x.kind = k) (other : k ≠ .poll) : acked = .next (s.ackReceived p x) :=
    received (hk ▸ other)
  refine ⟨fun n hk => ?_, fun n hk => ⟨fun closing plain => ?_, fun closing pending => ?_, fun other => ?_⟩,
    fun hk => ⟨fun mine => ?_, fun theirs => ?_⟩, fun hk => ?_, fun n v h hk => ?_, fun n v h hk => ?_,
    fun n v h hk => ?_⟩
  · rw [ack hk nofun]
    simp only [State.ackReceived, hk]
    exact congrArg Host.Outcome.next (State.openSlot_ended n x p s)
  · rw [ack hk nofun]
    simp only [State.ackReceived, hk]
    exact congrArg Host.Outcome.next (State.closeAck_verifies (s := s.goodReply p) closing plain)
  · rw [ack hk nofun]
    simp only [State.ackReceived, hk]
    exact congrArg Host.Outcome.next (State.closeAck_opens (s := s.goodReply p) closing pending)
  · rw [ack hk nofun]
    simp only [State.ackReceived, hk]
    exact congrArg Host.Outcome.next (if_pos other)
  · obtain ⟨l, k, text, hk⟩ | ⟨l, c, body, hk⟩ := hk
    all_goals
      rw [ack hk nofun]
      simp only [State.ackReceived, hk]
      exact congrArg Host.Outcome.next (if_pos mine)
  · obtain ⟨l, k, text, hk⟩ | ⟨l, c, body, hk⟩ := hk
    all_goals
      rw [ack hk nofun]
      simp only [State.ackReceived, hk]
      exact congrArg Host.Outcome.next (if_neg theirs)
  · rw [ack hk nofun]
    simp only [State.ackReceived, hk]
    refine congrArg Host.Outcome.next ?_
    show (s.goodReply p).updPed p (fun e => { e with lastMessage := none }) = _
    rw [State.updPed, State.goodReply_ped]
    exact congrArg (fun l => ({ s with line := { s.line with inflight := none, peds := l } } : State)) (tset_tset ..)
  · rw [ack hk nofun]
    simp only [State.ackReceived, hk]
    have slots : Replaced n (s.goodReply p) ((s.goodReply p).decSlotAcked n v) := by
      unfold State.decSlotAcked
      split
      · exact .updSlots n _ _
      · exact .refl n _
    have kept : ((s.goodReply p).decSlotAcked n v).setpoint n = s.setpoint n := by
      unfold State.decSlotAcked
      split <;> rfl
    obtain ⟨grant, target, hold, -, -⟩ :=
      record n (fun r => { r with grant := v, holdExpiry := ackedExpiry x.sentAt v h }) _
    refine ⟨_, rfl, standing n _ _ slots, grant.trans ?_, hold.trans ?_, target.trans ?_⟩
    · rw [State.updSetpoint_same]
    · rw [State.updSetpoint_same]; rfl
    · rw [State.updSetpoint_same, kept]
  · rw [ack hk nofun]
    simp only [State.ackReceived, hk]
    obtain ⟨grant, -, hold, flight, sent⟩ := record n (fun r => { r with
      grant := v, holdExpiry := ackedExpiry x.sentAt v h, inFlight := none, state := .steady }) (s.goodReply p)
    refine ⟨_, rfl, standing n _ _ (.refl n _), grant.trans ?_, hold.trans ?_, flight.trans ?_, mt sent.1 ?_⟩
    · rw [State.updSetpoint_same]
    · rw [State.updSetpoint_same]; rfl
    · rw [State.updSetpoint_same]
    · rw [State.updSetpoint_same]; nofun
  · rw [ack hk nofun]
    simp only [State.ackReceived, hk]
    obtain ⟨grant, -, hold, flight, -⟩ := record n (fun r => { r with
      grant := if r.holdExpiry = none then v else r.grant
      holdExpiry := ackedExpiry x.sentAt v h
      inFlight := none }) (s.goodReply p)
    refine ⟨_, rfl, standing n _ _ (.refl n _), grant.trans ?_, hold.trans ?_, flight.trans ?_⟩
    · rw [State.updSetpoint_same]; rfl
    · rw [State.updSetpoint_same]; rfl
    · rw [State.updSetpoint_same]

end Sys2Proof.Machine
end

section
/-! SUPPORT and PROOF. The NAK of a live transaction (R13, R42, R154, R155). -/

namespace Sys2Proof.Machine

/-- An operation at one connector starts nothing on a free line. -/
theorem Keeps.inflight_none {n : Conn} {s t : State} (h : Keeps (atConn n) s t) (free : s.line.inflight = none) :
    t.line.inflight = none :=
  (h.line.rest (by simp [atConn])).2.2.2.2.2.2.2.2 free

theorem State.setOpenSlot_same (n : Conn) (s : State) : SameBut [.line] s (s.setOpenSlot n) := by
  intro b hb
  cases b with
  | line => simp at hb
  | _ => simp [SameAt]

theorem State.setOpenSlot_inflight_none {n : Conn} {s : State} (free : s.line.inflight = none) :
    (s.setOpenSlot n).line.inflight = none := by
  have free' : ((s.updPed (pedOf n) fun x => { x with queue := x.queue.filter fun e => !e.isClose n }).updSlots n
    fun x => { x with openSet := true }).line.inflight = none := free
  unfold State.setOpenSlot
  dsimp only
  rw [free']
  exact free'

/-- What a fault cause raises. -/
theorem State.enterFaulted_raises {n : Conn} {s : State} (k : FaultKind) (h : (s.seq n).contactor ≠ .faulted) :
    (s.enterFaulted n k).uplink = s.uplink.withRaised .connectorFault := by
  rw [State.enterFaulted_of_not k h, State.stopCause_uplink, (s.faulted_facts n k).2.2.2.2]

/-! ### The NAK of a CLOSE (R42) -/

section closing

variable {n : Conn} {s : State} {fuel : Nat}

theorem State.closeNak_other (h : (s.seq n).contactor ≠ .closing) : s.closeNak n (fuel + 1) = s := if_pos h

theorem State.closeNak_opens (closing : (s.seq n).contactor = .closing) (pending : (s.seq n).openPending = true) :
    s.closeNak n (fuel + 1) = s.withSeq n { s.seq n with
      contactor := .opening, openPending := false, openAcked := false, repliesSinceOpen := 0 } := by
  unfold State.closeNak
  dsimp only
  rw [if_neg (not_not.2 closing), if_pos pending, State.pending_opens closing]

variable (closing : (s.seq n).contactor = .closing) (plain : (s.seq n).openPending = false)

include closing plain

theorem State.closeNak_faults (last : 3 ≤ (s.seq n).attempt) :
    s.closeNak n (fuel + 1) = s.enterFaulted n .closeRefused := by
  unfold State.closeNak
  dsimp only
  rw [if_neg (not_not.2 closing), if_neg (Bool.not_eq_true _ ▸ plain), if_pos last]

theorem State.closeNak_again (few : (s.seq n).attempt < 3)
    (runs : (s.sess n).state = .authorized ∨ (s.sess n).state = .charging)
    (room : (s.ped (pedOf n)).link ≠ .unconfigured ∧ (s.ped (pedOf n)).queue.length < 4) :
    s.closeNak n (fuel + 1) =
      (s.withSeq n { s.seq n with attempt := (s.seq n).attempt + 1 }).enqueue (pedOf n) ⟨.close n, .sequencer⟩ := by
  have takes : (s.updSeq n fun r => { r with attempt := r.attempt + 1 }).queueTakes (pedOf n) = true :=
    queueTakes_iff.2 room
  unfold State.closeNak
  dsimp only
  rw [if_neg (not_not.2 closing), if_neg (Bool.not_eq_true _ ▸ plain), if_neg (by omega)]
  rcases runs with h | h <;> rw [h] <;> exact if_pos takes

theorem State.closeNak_complete (few : (s.seq n).attempt < 3) (complete : (s.sess n).state = .complete) :
    s.closeNak n (fuel + 1) = (s.setOpenSlot n).withSeq n { s.seq n with
      contactor := .opening, openAcked := false, repliesSinceOpen := 0, released := true, restCount := 0 } := by
  unfold State.closeNak
  dsimp only
  rw [if_neg (not_not.2 closing), if_neg (Bool.not_eq_true _ ▸ plain), if_neg (by omega), complete]
  dsimp only
  rw [State.updSeq_eq_withSeq, State.setOpenSlot_seq]
  exact State.withSeq_enterOpening (ContactorState.left closing nofun)

end closing

/-- The entries after a good reply and an entry more in that pedestal's queue. -/
theorem State.enqueued_peds (s : State) (p : Ped) (e : QueueEntry) :
    ((s.goodReply p).enqueue p e).line.peds =
      tset s.line.peds p { (s.ped p).replied s.clock.ms with queue := (s.ped p).queue ++ [e] } := by
  rw [State.enqueue, State.updPed, State.goodReply_ped]
  exact tset_tset ..

/-! ### The fall-back of a record (R156) -/

theorem State.fallBack_facts (n : Conn) (s : State) :
    SameBut [.line, .alloc] s (s.fallBack n) ∧ (s.fallBack n).line.inflight = s.line.inflight ∧
    (∀ p, (s.fallBack n).ped p = s.ped p) ∧ ((s.fallBack n).setpoint n).grant = s.failsafe n ∧
    ((s.fallBack n).setpoint n).holdExpiry = none ∧
    ((s.fallBack n).setpoint n).inFlight = (s.setpoint n).inFlight ∧ PassTaken (s.fallBack n) := by
  unfold State.fallBack
  have record := State.updSetpoint_same n (fun r =>
    { r with
      grant := s.failsafe n
      holdExpiry := none
      state := if r.state = .increaseSent then .increaseSent else .fallback }) s
  have rest := Replaced.updSetpoint n (fun r =>
    { r with
      grant := s.failsafe n
      holdExpiry := none
      state := if r.state = .increaseSent then .increaseSent else .fallback }) s
  generalize s.updSetpoint n _ = u at record rest
  have stage := u.pass_stage
  obtain ⟨grant, hold, flight⟩ := stage.grant n
  refine ⟨rest.blocks.trans stage.blocks, stage.inflight.trans rest.inflight, fun p => ?_, ?_, ?_, ?_,
    u.pass_passTaken⟩
  · rw [stage.ped, State.ped, rest.peds, State.ped]
  · rw [grant, record]
  · rw [hold, record]
  · rw [flight, record]

/-! ### The statement -/

/-- Settles O57. -/
theorem naksEndTheirCommand : Obligations.NaksEndTheirCommand := by
  intro s x p hx ht hd entry ended refused
  have nak {k : TxnKind} (hk : x.kind = k) (other : k ≠ .poll) : refused = .next (s.nakReceived p x) :=
    State.receive_nak hx ht hd (hk ▸ other)
  have same := s.goodReply_same p
  have served : (s.goodReply p).ped p = entry := s.goodReply_ped p
  refine ⟨fun hk => ⟨fun mine => ?_, fun theirs => ?_⟩, fun hk => ?_, fun n hk other => ?_,
    fun n hk closing pending => ?_, fun n hk own closing plain => ⟨fun few complete => ?_,
      fun few runs known room => ?_, fun last => ?_⟩, fun n v h hk => ?_, fun n v h hk => ?_⟩
  · obtain ⟨l, k, text, hk⟩ | ⟨l, c, body, hk⟩ := hk
    all_goals
      rw [nak hk nofun]
      simp only [State.nakReceived, hk]
      exact congrArg Host.Outcome.next (if_pos mine)
  · obtain ⟨l, k, text, hk⟩ | ⟨l, c, body, hk⟩ := hk
    all_goals
      rw [nak hk nofun]
      simp only [State.nakReceived, hk]
      exact congrArg Host.Outcome.next (if_neg theirs)
  · rw [nak hk nofun]
    simp only [State.nakReceived, hk]
    rfl
  · rw [nak hk nofun]
    simp only [State.nakReceived, hk]
    exact congrArg Host.Outcome.next (State.closeNak_other (s := s.goodReply p) other)
  · rw [nak hk nofun]
    simp only [State.nakReceived, hk]
    exact congrArg Host.Outcome.next (State.closeNak_opens (s := s.goodReply p) closing pending)
  · rw [nak hk nofun]
    simp only [State.nakReceived, hk]
    refine ⟨_, congrArg Host.Outcome.next (State.closeNak_complete (s := s.goodReply p) closing plain few complete),
      ?_, ?_, ?_, State.withSeq_seq .., fun m hm => ⟨?_, ?_⟩⟩
    · exact ((same.mono (by simp)).trans ((State.setOpenSlot_same n _).mono (by simp))).trans
        ((State.withSeq_kept n _ _).mono (by simp))
    · exact State.setOpenSlot_inflight_none rfl
    · exact congrArg SafetySlots.openSet ((State.setOpenSlot_slots n n _).trans (if_pos rfl))
    · exact (State.withSeq_seq_of_ne _ _ hm).trans (State.setOpenSlot_seq n m _)
    · exact (State.setOpenSlot_slots n m _).trans (if_neg hm)
  · rw [nak hk nofun]
    simp only [State.nakReceived, hk]
    refine congrArg Host.Outcome.next ((State.closeNak_again (s := s.goodReply p) closing plain few runs
      (by rw [own, served]; exact ⟨known, room⟩)).trans ?_)
    rw [own]
    exact congrArg (fun l => ({ s with
      line := { s.line with inflight := none, peds := l }
      sequencer := { s.sequencer with
        recs := tset s.sequencer.recs n { s.seq n with attempt := (s.seq n).attempt + 1 } } } : State))
      (State.enqueued_peds s p _)
  · rw [nak hk nofun]
    simp only [State.nakReceived, hk]
    have not_faulted : ((s.goodReply p).seq n).contactor ≠ .faulted := by
      show (s.seq n).contactor ≠ _
      rw [closing]; nofun
    have to_fault := State.closeNak_faults (s := s.goodReply p) (fuel := 2) closing plain last
    have fault := State.enterFaulted_taken n .closeRefused (s.goodReply p)
    have turn := Turn.enterFaulted n .closeRefused (s.goodReply p)
    have raised := State.enterFaulted_raises .closeRefused not_faulted
    refine ⟨_, congrArg Host.Outcome.next to_fault, ?_⟩
    generalize (s.goodReply p).enterFaulted n .closeRefused = t at fault turn raised
    rw [FaultTaken, if_neg not_faulted] at fault
    obtain ⟨seq, slot, -, stop⟩ := fault
    refine ⟨(same.mono (by simp)).trans turn.kept, turn.keeps.inflight_none rfl, ?_, ?_, slot, raised, stop,
      fun m hm => ⟨turn.keeps.seq_of_ne hm, turn.keeps.sess_of_ne hm⟩⟩
    · rw [seq]; rfl
    · rw [seq]; rfl
  · rw [nak hk nofun]
    simp only [State.nakReceived, hk]
    have record := State.updSetpoint_same n (fun r : Setpoint =>
      { r with target := min r.target r.grant, inFlight := none, state := .steady }) (s.goodReply p)
    have rest := Replaced.updSetpoint n (fun r : Setpoint =>
      { r with target := min r.target r.grant, inFlight := none, state := .steady }) (s.goodReply p)
    refine ⟨_, rfl, ?_⟩
    unfold State.increaseRefused
    generalize (s.goodReply p).updSetpoint n _ = u at record rest
    have placed : Placed _ _ := State.place_placed (n := n) (s := u) (by rw [record]; nofun)
    obtain ⟨blocks, peds, inflight, -⟩ := (rest.trans (.place n u)).acked
    obtain ⟨grant, target, hold, flight, -⟩ := State.place_fields n u
    rw [record] at grant target hold flight
    refine ⟨blocks, inflight, ?_, grant, hold, flight, target, placed⟩
    rw [State.ped, peds]
    exact served
  · rw [nak hk nofun]
    simp only [State.nakReceived, hk]
    refine ⟨_, rfl, ?_⟩
    have record := State.updSetpoint_same n (fun r : Setpoint => { r with inFlight := none }) (s.goodReply p)
    have rest := Replaced.updSetpoint n (fun r : Setpoint => { r with inFlight := none }) (s.goodReply p)
    have failsafe : ((s.goodReply p).updSetpoint n fun r => { r with inFlight := none }).failsafe n =
      s.failsafe n := rfl
    unfold State.renewalRefused
    generalize (s.goodReply p).updSetpoint n _ = u at record rest failsafe
    obtain ⟨blocks, peds, inflight, -⟩ := rest.acked
    obtain ⟨kept, still, entries, grant, hold, flight, passed⟩ := State.fallBack_facts n u
    refine ⟨blocks.trans kept, still.trans inflight, ?_, grant.trans failsafe, hold, ?_, passed⟩
    · rw [entries, State.ped, peds]
      exact served
    · rw [flight, record]

end Sys2Proof.Machine
end

section
/-! SUPPORT and PROOF. Failed attempts, their retries and the loss of a pedestal (R9, R10). -/

namespace Sys2Proof.Machine

/-! ### Frames that fail an attempt (R9) -/

theorem classifyFrame_length {p : Ped} {poll : Bool} {frame : Frame} (h : lengthGood frame = false) :
    classifyFrame p poll frame = .bad false := by simp [classifyFrame, h]

theorem classifyFrame_check {p : Ped} {poll : Bool} {frame : Frame} (h : lengthGood frame = true)
    (hc : checkGood frame = false) : classifyFrame p poll frame = .bad true := by simp [classifyFrame, h, hc]

theorem classifyFrame_address {p : Ped} {poll : Bool} {frame : Frame} (hc : checkGood frame = true)
    (ha : frame.head? ≠ some (byte (p.val + 1))) : classifyFrame p poll frame = .bad false := by
  unfold classifyFrame
  rw [hc]
  cases hl : lengthGood frame with
  | false => rfl
  | true =>
    simp only [Bool.not_true, Bool.false_eq_true, if_false]
    split
    · next a _ _ _ =>
      refine if_pos fun e => ha ?_
      have back : byte a.toNat = a := BitVec.eq_of_toNat_eq (byte_toNat_of_lt a.isLt)
      rw [← e, back]
      rfl
    · rfl

/-- A frame of another kind than the attempt waits for. -/
theorem classifyFrame_kind {p : Ped} {poll : Bool} {kind : Nat} {body : Frame} (hk : kind < 256)
    (h : if poll then kind ≠ 129 else kind ≠ 130 ∧ kind ≠ 131) :
    classifyFrame p poll (lineFrame (p.val + 1) kind body) = .bad false := by
  have check : checkGood (lineFrame (p.val + 1) kind body) = true := checkGood_withCheck _
  have differs {j : Nat} (hj : j < 256) (ne : kind ≠ j) : byte kind ≠ byte j := fun e => by
    have := congrArg BitVec.toNat e
    rw [byte_toNat_of_lt hk, byte_toNat_of_lt hj] at this
    exact ne this
  unfold classifyFrame
  rw [check, lineFrame_eq]
  cases poll with
  | true =>
    have status : byte kind ≠ 129#8 := differs (j := 129) (by decide) h
    simp [status]
  | false =>
    have ack : byte kind ≠ 130#8 := differs (j := 130) (by decide) h.1
    have nak : byte kind ≠ 131#8 := differs (j := 131) (by decide) h.2
    simp [ack, nak]

/-! ### One failed attempt -/

/-- The entry of pedestal p after one more failed attempt at a moment (R9). -/
def Pedestal.failedOnce (ms : Nat) (p : Ped) (e : Pedestal) : Pedestal :=
  { e with failCount := failCountAfter ms p e.failCount }

/-- A transaction as it is sent again at a moment, with the same frame (R9). -/
def Txn.again (ms timeout : Nat) (x : Txn) : Txn :=
  { x with attempt := x.attempt + 1, deadline := ms + timeout, sentAt := ms, setAgain := false }

/-- The state after the last attempt of a transaction with pedestal p has failed, before the loss of p. -/
def State.gaveUp (p : Ped) (s : State) : State :=
  (s.updPed p (.failedOnce s.clock.ms p)).setInflight none

theorem State.attemptFailed_last {p : Ped} {x : Txn} {s : State} (h : 3 ≤ x.attempt) :
    s.attemptFailed p x = (s.gaveUp p).lose p (some x.kind) := if_neg (by omega)

theorem State.attemptFailed_again {p : Ped} {x : Txn} {s : State} (h : x.attempt < 3)
    (other : ∀ n v h, x.kind ≠ .decrease n v h) :
    s.attemptFailed p x = { s with line := { s.line with
      inflight := some (x.again s.clock.ms s.line.replyTimeout)
      peds := tset s.line.peds p ((s.ped p).failedOnce s.clock.ms p) } } := by
  have same (u : State) : u.resendKind x.kind = x.kind := by
    cases hk : x.kind with
    | decrease n v h => exact absurd hk (other n v h)
    | poll | openSlot | increase | renewal | queued | latch | rollCall => rfl
  refine (if_pos h).trans ?_
  unfold State.resend
  dsimp only
  rw [same, if_pos rfl]
  rfl

theorem State.attemptFailed_decrease {p : Ped} {x : Txn} {s : State} {n : Conn} {v w : Nat} (h : x.attempt < 3)
    (hk : x.kind = .decrease n v w) :
    SameBut [.line] s (s.attemptFailed p x) ∧
    (s.attemptFailed p x).ped p = (s.ped p).failedOnce s.clock.ms p ∧
    ∃ y, (s.attemptFailed p x).line.inflight = some y ∧ y.attempt = x.attempt + 1 ∧ y.target = x.target ∧
      y.kind = .decrease n (s.slots n).decValue (s.holdFor (s.slots n).decValue) := by
  have again : s.attemptFailed p x = (s.updPed p (.failedOnce s.clock.ms p)).resend x := if_pos h
  rw [again]
  refine ⟨fun b hb => ?_, tget_tset_same .., _, rfl, rfl, rfl, ?_⟩
  · cases b with
    | line => simp at hb
    | _ => rfl
  · show State.resendKind _ x.kind = _
    rw [hk]
    rfl

/-! ### The loss of a pedestal (R10) -/

/-- The first and the second update of the entry of a pedestal that is lost. -/
def Pedestal.away (e : Pedestal) : Pedestal := { e with link := .unreachable, resync := false, queue := [] }

def Pedestal.silent (e : Pedestal) : Pedestal := { e with nextPoll := none, disposition := .none }

theorem closesIn_nil {q : List QueueEntry} (h : ∀ e ∈ q, ∀ n, e.cmd ≠ .close n) : closesIn q = [] := by
  refine List.filterMap_eq_nil_iff.2 fun e he => ?_
  cases hc : e.cmd with
  | close n => exact absurd hc (h e he n)
  | display | passDown | clear => rfl

/-- The loss of a pedestal whose queue holds no CLOSE. -/
theorem State.lose_last {p : Ped} {k : TxnKind} {s : State} (hl : (s.ped p).link ≠ .unconfigured)
    (hq : ∀ e ∈ (s.ped p).queue, ∀ n, e.cmd ≠ .close n) :
    s.lose p (some k) = (((s.updPed p .away).reportLost k.closeOf (some k)).withNews p .silent .pedestalLost) := by
  rw [State.lose, if_neg hl, State.enterUnreachable_eq, closesLost, closesIn_nil hq, List.append_nil]
  rfl

/-- The pass at the loss leaves the records of the lost pedestal. -/
theorem State.withNews_away {p : Ped} {k : EventKind} {s : State} (h : (s.ped p).link = .unreachable) (n : Conn)
    (hn : pedOf n = p) : (s.withNews p .silent k).slots n = s.slots n ∧
      (s.withNews p .silent k).setpoint n = s.setpoint n := by
  have link : (((s.updPed p .silent).raise k).ped p).link = .unreachable := by
    rw [State.raise_eq]
    show ((s.updPed p .silent).ped p).link = _
    rw [State.updPed_ped_same]
    exact h
  have records : ((s.updPed p .silent).raise k).slots n = s.slots n ∧
      ((s.updPed p .silent).raise k).setpoint n = s.setpoint n := by
    rw [State.raise_eq]
    exact ⟨rfl, rfl⟩
  obtain ⟨setpoint, slots⟩ := (State.pass_stage _).away n (by rw [State.linkOf, hn]; exact link)
  exact ⟨slots.trans records.1, setpoint.trans records.2⟩

/-! ### What a fault cause leaves of its pedestal's entry -/

theorem State.stopCause_ped_of_not_live {why : EndReason} {n : Conn} {s : State}
    (h : (s.seq n).contactor.live = false) (p : Ped) : (s.stopCause why n).ped p = s.ped p := by
  by_cases stops : why.stops (s.sess n).state = true
  · have stopped : (s.stoppedAt why n).ped p = s.ped p := by
      rw [State.stoppedAt_of_not_empty why n s (EndReason.stops_not_empty stops)]
      exact (congrArg (fun u : State => u.ped p) (State.openCause_of_not_live (s := s.updSess n _) h)).trans rfl
    rw [State.stopCause_stops stops]
    rcases State.beginStop_cases why n s with ⟨-, e⟩ | ⟨-, e⟩
    · rw [e, (State.pass_stage _).ped, stopped]
    · rw [e, stopped]
  · by_cases he : why.ends (s.sess n).state
    · rw [State.stopCause_ends he, State.ped, State.withdraw_line, State.ped]
    · rw [State.stopCause_none (Bool.not_eq_true _ ▸ stops) he]

theorem State.enterFaulted_ped {n : Conn} {k : FaultKind} {s : State} (left : (s.seq n).contactor ≠ .opened)
    (hq : (s.ped (pedOf n)).queue = []) (p : Ped) : (s.enterFaulted n k).ped p = s.ped p := by
  by_cases faulted : (s.seq n).contactor = .faulted
  · rw [State.enterFaulted_of_faulted k faulted]
  have entry : (s.faulted n k).ped p = s.ped p := by
    unfold State.faulted
    rw [State.ped, State.raise_line, ← State.ped, State.setOpenSlot_ped, State.setContactor_of_left _ left]
    split
    · next e =>
      show { s.ped p with queue := (s.ped p).queue.filter fun e => !e.isClose n } = s.ped p
      rw [e, hq, List.filter_nil, ← hq]
    · rfl
  rw [State.enterFaulted_of_not k faulted, State.stopCause_ped_of_not_live, entry]
  rw [(s.faulted_facts n k).1]
  rfl

end Sys2Proof.Machine
end

section
/-! SUPPORT and PROOF. Failed attempts, continued: what the loss of a pedestal leaves (R10), and the statement. -/

namespace Sys2Proof.Machine

/-! ### The loss after the last attempt -/

/-- The state after the last attempt has failed and the entry of pedestal p has been made UNREACHABLE. -/
def State.lostFirst (p : Ped) (s : State) : State := (s.gaveUp p).updPed p .away

/-- The entry of a pedestal lost at a moment (R9, R10). -/
def Pedestal.lostAt (ms : Nat) (p : Ped) (e : Pedestal) : Pedestal := ((e.failedOnce ms p).away).silent

theorem State.withSeq_ped (n : Conn) (r : SeqRecord) (p : Ped) (s : State) : (s.withSeq n r).ped p = s.ped p := rfl

section loss

variable {s : State} {p : Ped}

theorem State.gaveUp_ped (p : Ped) (s : State) : (s.gaveUp p).ped p = (s.ped p).failedOnce s.clock.ms p :=
  tget_tset_same ..

theorem State.lostFirst_ped (p : Ped) (s : State) :
    (s.lostFirst p).ped p = ((s.ped p).failedOnce s.clock.ms p).away := by
  rw [State.lostFirst, State.updPed_ped_same, State.gaveUp_ped]

theorem State.lostFirst_ped_of_ne {q : Ped} (h : q ≠ p) : (s.lostFirst p).ped q = s.ped q := by
  rw [State.lostFirst, State.updPed_ped, if_neg h]
  exact tget_tset_of_ne _ _ _ _ h

theorem State.lostFirst_same (p : Ped) (s : State) : SameBut [.line] s (s.lostFirst p) := by
  intro b hb
  cases b with
  | line => simp at hb
  | _ => rfl

theorem State.attemptFailed_lost {x : Txn} (last : 3 ≤ x.attempt) (known : (s.ped p).link ≠ .unconfigured)
    (calm : ∀ e ∈ (s.ped p).queue, ∀ n, e.cmd ≠ .close n) :
    s.attemptFailed p x =
      ((s.lostFirst p).reportLost x.kind.closeOf (some x.kind)).withNews p .silent .pedestalLost := by
  rw [State.attemptFailed_last last]
  refine State.lose_last ?_ ?_
  · rw [State.gaveUp_ped]; exact known
  · rw [State.gaveUp_ped]; exact calm

/-- What the loss leaves, once the failed transaction has been reported. -/
theorem State.lost_facts {l : List Block} {mid : State} (same : SameBut l (s.lostFirst p) mid)
    (free : mid.line.inflight = none) (others : ∀ q, q ≠ p → mid.ped q = s.ped q)
    (away : (mid.ped p).link = .unreachable) :
    let t := mid.withNews p .silent .pedestalLost
    SameBut (.line :: .alloc :: .uplink :: l) s t ∧ t.line.inflight = none ∧ t.ped p = (mid.ped p).silent ∧
    t.uplink = mid.uplink.withRaised .pedestalLost ∧ PassTaken t ∧ (∀ q, q ≠ p → t.ped q = s.ped q) ∧
    (∀ n, pedOf n = p → t.slots n = mid.slots n ∧ t.setpoint n = mid.setpoint n) ∧
    SameBut [.line, .alloc, .uplink] mid t := by
  obtain ⟨served, passed, raised, entry⟩ := State.withNews_facts p .silent .pedestalLost mid
  refine ⟨?_, served.inflight.trans free, entry, raised, passed, fun q hq => (served.others q hq).trans (others q hq),
    State.withNews_away away, served.blocks⟩
  refine (((s.lostFirst_same p).mono ?_).trans (same.mono ?_)).trans (served.blocks.mono ?_)
  · simp
  · intro b hb; simp [hb]
  · simp

/-- A failed transaction that reports nothing besides (R10 step 3). -/
def Plain (s : State) (k : TxnKind) : Prop :=
  k = .poll ∨ (∃ n, k = .openSlot n) ∨ (∃ n v h, k = .decrease n v h) ∨
    ∃ c, k = .queued c ∧ ∀ n, c = .close n → (s.seq n).contactor ≠ .closing

theorem State.reportLost_plain {k : TxnKind} (plain : Plain s k) :
    s.reportLost k.closeOf (some k) = s := by
  obtain rfl | ⟨n, rfl⟩ | ⟨n, v, h, rfl⟩ | ⟨c, rfl, other⟩ := plain
  iterate 3 rfl
  cases c with
  | close n => exact State.closeNak_other (other n rfl)
  | display | passDown | clear => rfl

/-- The loss whose transaction reports nothing. -/
theorem State.attemptFailed_plain {x : Txn} (last : 3 ≤ x.attempt) (known : (s.ped p).link ≠ .unconfigured)
    (calm : ∀ e ∈ (s.ped p).queue, ∀ n, e.cmd ≠ .close n) (plain : Plain s x.kind) :
    let t := s.attemptFailed p x
    SameBut [.line, .alloc, .uplink] s t ∧ t.line.inflight = none ∧ t.ped p = (s.ped p).lostAt s.clock.ms p ∧
    t.uplink = s.uplink.withRaised .pedestalLost ∧ PassTaken t ∧ (∀ q, q ≠ p → t.ped q = s.ped q) ∧
    ∀ n, pedOf n = p → t.slots n = s.slots n ∧ t.setpoint n = s.setpoint n := by
  have entry := s.lostFirst_ped p
  rw [State.attemptFailed_lost last known calm, State.reportLost_plain (s := s.lostFirst p) plain]
  obtain ⟨same, free, at_, raised, passed, others, records, -⟩ := State.lost_facts (s := s) (p := p) (l := [])
    (.refl _ _) rfl (fun q hq => State.lostFirst_ped_of_ne hq) (by rw [entry]; rfl)
  exact ⟨same, free, at_.trans (by rw [entry]; rfl), raised, passed, others, records⟩

/-- The loss whose transaction was a setpoint of that pedestal. -/
theorem State.attemptFailed_setpoint {x : Txn} {n : Conn} {f : Setpoint → Setpoint} (last : 3 ≤ x.attempt)
    (known : (s.ped p).link ≠ .unconfigured) (calm : ∀ e ∈ (s.ped p).queue, ∀ n, e.cmd ≠ .close n)
    (own : pedOf n = p) (closes : x.kind.closeOf = [])
    (report : ∀ u : State, u.reportFailed x.kind = u.updSetpoint n f) :
    let t := s.attemptFailed p x
    SameBut [.line, .alloc, .uplink] s t ∧ t.line.inflight = none ∧ t.ped p = (s.ped p).lostAt s.clock.ms p ∧
    PassTaken t ∧ t.setpoint n = f (s.setpoint n) := by
  have entry := s.lostFirst_ped p
  have reported : (s.lostFirst p).reportLost x.kind.closeOf (some x.kind) = (s.lostFirst p).updSetpoint n f := by
    rw [closes]
    exact report _
  have rest := Replaced.updSetpoint n f (s.lostFirst p)
  have peds (q : Ped) : ((s.lostFirst p).updSetpoint n f).ped q = (s.lostFirst p).ped q := rfl
  rw [State.attemptFailed_lost last known calm, reported]
  obtain ⟨same, free, at_, -, passed, -, records, -⟩ := State.lost_facts (s := s) (p := p)
    rest.blocks rest.inflight (fun q hq => (peds q).trans (State.lostFirst_ped_of_ne hq)) (by rw [peds, entry]; rfl)
  refine ⟨same.mono (by simp), free, at_.trans (by rw [peds, entry]; rfl), passed, ?_⟩
  exact (records n own).2.trans (State.updSetpoint_same n f _)

theorem State.reportLost_close {k : TxnKind} {n : Conn} (hk : k = .queued (.close n)) (u : State) :
    u.reportLost k.closeOf (some k) = u.closeNak n 3 := by
  subst hk
  rfl

/-- The loss whose transaction was a CLOSE that is tried again. -/
theorem State.attemptFailed_close_again {x : Txn} {n : Conn} (last : 3 ≤ x.attempt)
    (known : (s.ped p).link ≠ .unconfigured) (calm : ∀ e ∈ (s.ped p).queue, ∀ n, e.cmd ≠ .close n)
    (own : pedOf n = p) (hk : x.kind = .queued (.close n)) (closing : (s.seq n).contactor = .closing)
    (plain : (s.seq n).openPending = false) (few : (s.seq n).attempt < 3)
    (runs : (s.sess n).state = .authorized ∨ (s.sess n).state = .charging) :
    let t := s.attemptFailed p x
    SameBut [.line, .sequencer, .alloc, .uplink] s t ∧ t.line.inflight = none ∧
    t.ped p = { (s.ped p).lostAt s.clock.ms p with queue := [⟨.close n, .sequencer⟩] } ∧
    t.seq n = { s.seq n with attempt := (s.seq n).attempt + 1 } ∧ PassTaken t ∧ ∀ m, m ≠ n → t.seq m = s.seq m := by
  have entry := s.lostFirst_ped p
  have again : (s.lostFirst p).closeNak n 3 = ((s.lostFirst p).withSeq n { s.seq n with
      attempt := (s.seq n).attempt + 1 }).enqueue p ⟨.close n, .sequencer⟩ := by
    rw [← own] at entry ⊢
    exact State.closeNak_again (s := s.lostFirst (pedOf n)) closing plain few runs
      (by rw [entry]; exact ⟨nofun, Nat.zero_lt_succ 3⟩)
  have reported := State.reportLost_close hk (s.lostFirst p)
  have seq (m : Conn) : ((s.lostFirst p).closeNak n 3).seq m =
      if m = n then { s.seq n with attempt := (s.seq n).attempt + 1 } else s.seq m := by
    rw [again]
    split
    · next e => rw [e]; exact State.withSeq_seq ..
    · next e => exact State.withSeq_seq_of_ne _ _ e
  have peds (q : Ped) : ((s.lostFirst p).closeNak n 3).ped q =
      if q = p then { (s.lostFirst p).ped p with queue := [⟨.close n, .sequencer⟩] } else (s.lostFirst p).ped q := by
    rw [again, State.enqueue_ped]
    split
    · next e =>
      rw [State.withSeq_ped, entry]
      rfl
    · rfl
  have kept : SameBut [.line, .sequencer] (s.lostFirst p) ((s.lostFirst p).closeNak n 3) := by
    rw [again]
    intro b hb
    cases b with
    | line | sequencer => simp at hb
    | _ => rfl
  have free : ((s.lostFirst p).closeNak n 3).line.inflight = none := by rw [again]; rfl
  rw [State.attemptFailed_lost last known calm, reported]
  generalize (s.lostFirst p).closeNak n 3 = mid at seq peds kept free
  obtain ⟨same, free, at_, -, passed, -, -, rest⟩ := State.lost_facts (s := s) (p := p) kept free
    (fun q hq => (peds q).trans ((if_neg hq).trans (State.lostFirst_ped_of_ne hq)))
    (by rw [peds, if_pos rfl, entry]; rfl)
  have record (m : Conn) : (mid.withNews p .silent .pedestalLost).seq m = mid.seq m :=
    congrArg (fun x : SequencerState => tget x.recs m) (rest .sequencer (by simp))
  refine ⟨same.mono (by simp), free, at_.trans ?_, (record n).trans ((seq n).trans (if_pos rfl)), passed,
    fun m hm => (record m).trans ((seq m).trans (if_neg hm))⟩
  rw [peds, if_pos rfl, entry]
  rfl

/-- The loss whose transaction was the last attempt of a CLOSE. -/
theorem State.attemptFailed_close_refused {x : Txn} {n : Conn} (last : 3 ≤ x.attempt)
    (known : (s.ped p).link ≠ .unconfigured) (calm : ∀ e ∈ (s.ped p).queue, ∀ n, e.cmd ≠ .close n)
    (own : pedOf n = p) (hk : x.kind = .queued (.close n)) (closing : (s.seq n).contactor = .closing)
    (plain : (s.seq n).openPending = false) (many : 3 ≤ (s.seq n).attempt) :
    let t := s.attemptFailed p x
    SameBut [.line, .sequencer, .auth, .sessions, .alloc, .uplink] s t ∧ t.line.inflight = none ∧
    t.ped p = (s.ped p).lostAt s.clock.ms p ∧ FaultTaken .closeRefused n s t ∧ PassTaken t ∧
    hasEvent .pedestalLost t.uplink.pendingSet = true ∧
    ∀ m, m ≠ n → t.seq m = s.seq m ∧ t.sess m = s.sess m := by
  have entry := s.lostFirst_ped p
  have refused : (s.lostFirst p).closeNak n 3 = (s.lostFirst p).enterFaulted n .closeRefused :=
    State.closeNak_faults (s := s.lostFirst p) closing plain many
  have reported := (State.reportLost_close hk (s.lostFirst p)).trans refused
  have not_faulted : (s.seq n).contactor ≠ .faulted := by rw [closing]; nofun
  have away_not : ((s.lostFirst p).seq n).contactor ≠ .faulted := not_faulted
  have fault := State.enterFaulted_taken n .closeRefused (s.lostFirst p)
  rw [FaultTaken, if_neg away_not] at fault
  obtain ⟨record, slot, event, stop⟩ := fault
  have turn := Turn.enterFaulted n .closeRefused (s.lostFirst p)
  have left : ((s.lostFirst p).seq n).contactor ≠ .opened := by
    show (s.seq n).contactor ≠ _
    rw [closing]; nofun
  have empty : ((s.lostFirst p).ped (pedOf n)).queue = [] := by rw [own, entry]; rfl
  have peds (q : Ped) : ((s.lostFirst p).enterFaulted n .closeRefused).ped q = (s.lostFirst p).ped q :=
    State.enterFaulted_ped left empty q
  rw [State.attemptFailed_lost last known calm, reported]
  generalize (s.lostFirst p).enterFaulted n .closeRefused = mid at record slot event stop turn peds
  obtain ⟨same, free, at_, raised, passed, -, records, rest⟩ := State.lost_facts (s := s) (p := p) turn.kept
    (turn.keeps.inflight_none rfl) (fun q hq => (peds q).trans (State.lostFirst_ped_of_ne hq))
    (by rw [peds, entry]; rfl)
  generalize mid.withNews p .silent .pedestalLost = t at same free at_ raised passed records rest
  have seq (m : Conn) : t.seq m = mid.seq m :=
    congrArg (fun x : SequencerState => tget x.recs m) (rest .sequencer (by simp))
  have sess (m : Conn) : t.sess m = mid.sess m := State.sess_congr (rest .sessions (by simp)) m
  have events (k : EventKind) : hasEvent k t.uplink.pendingSet =
      (Decidable.decide (k = .pedestalLost) || hasEvent k mid.uplink.pendingSet) := by
    rw [raised]
    exact hasEvent_or_only _ _ _
  refine ⟨same.mono (by simp), free, at_.trans (by rw [peds, entry]; rfl), ?_, passed, ?_,
    fun m hm => ⟨(seq m).trans (turn.keeps.seq_of_ne hm), (sess m).trans (turn.keeps.sess_of_ne hm)⟩⟩
  · rw [FaultTaken, if_neg not_faulted]
    refine ⟨(seq n).trans record, ?_, ?_, ?_⟩
    · rw [(records n own).1]; exact slot
    · rw [events, event, Bool.or_true]
    · exact stop.congr rfl rfl (sess n) (rest .auth (by simp))
  · rw [events]
    simp

end loss

end Sys2Proof.Machine
end

section
/-! PROOF. Failed attempts, their retries and the loss of a pedestal (R9, R10). -/

namespace Sys2Proof.Machine

section live

variable {s : State} {x : Txn} {p : Ped} (hx : s.line.inflight = some x) (ht : x.target = some p)
  (hd : x.discarded = false)

include hx ht hd

theorem State.receive_bad {frame : Frame} (h : classifyFrame p (x.kind == .poll) frame = .bad false) :
    exec (.badReply frame) s = .next (s.attemptFailed p x) := by
  refine congrArg Host.Outcome.next ((State.receive_live hx ht hd _).trans ?_)
  rw [h]
  rfl

theorem State.receive_counted {frame : Frame} (h : classifyFrame p (x.kind == .poll) frame = .bad true) :
    exec (.badReply frame) s = .next ((s.checkFailed p).attemptFailed p x) := by
  refine congrArg Host.Outcome.next ((State.receive_live hx ht hd _).trans ?_)
  rw [h]
  rfl

theorem State.replyTimeout_live :
    exec .replyTimeout s = .next ((s.advanceTo x.deadline).attemptFailed p x) := by
  refine congrArg Host.Outcome.next ?_
  simp only [State.replyDeadline, hx, ht, hd, Bool.false_eq_true, if_false]

end live

/-- The retry after a frame that fails its check word, which is counted (R9, R20). -/
theorem State.checkFailed_again {s : State} {x : Txn} {p : Ped} (few : x.attempt < 3)
    (other : ∀ n v h, x.kind ≠ .decrease n v h) :
    (s.checkFailed p).attemptFailed p x = { s with
      line := { s.line with
        inflight := some (x.again s.clock.ms s.line.replyTimeout)
        peds := tset s.line.peds p { (s.ped p).failedOnce s.clock.ms p with
          checkFails := min ((s.ped p).checkFails + 1) 65535 } }
      uplink := s.uplink.withRaised .linkErrors } := by
  rw [State.attemptFailed_again few other, State.checkFailed, State.raise_eq]
  have entry : tget (s.updPed p fun e => { e with checkFails := satInc e.checkFails }).line.peds p =
      { s.ped p with checkFails := satInc (s.ped p).checkFails } := State.updPed_ped_same ..
  simp only [State.ped, entry]
  exact congrArg (fun l => ({ s with
    line := { s.line with inflight := some (x.again s.clock.ms s.line.replyTimeout), peds := l }
    uplink := s.uplink.withRaised .linkErrors } : State)) (tset_tset ..)

/-- Settles O58. -/
theorem failedAttemptsAreRetriedThenLost : Obligations.FailedAttemptsAreRetriedThenLost := by
  intro s x p hx ht hd count entryAt entry again retried lostAt lost failed
  have bad {frame : Frame} (h : classifyFrame p (x.kind == .poll) frame = .bad false) :
      failed frame = .next (s.attemptFailed p x) := State.receive_bad hx ht hd h
  have short {frame : Frame} (h : lengthGood frame = false) : failed frame = .next (s.attemptFailed p x) :=
    bad (classifyFrame_length h)
  have expired := State.replyTimeout_live hx ht hd
  have passed := SameBut.advanceTo x.deadline s
  have line : (s.advanceTo x.deadline).line = s.line := passed .line (by simp)
  have ped (q : Ped) : (s.advanceTo x.deadline).ped q = s.ped q := by rw [State.ped, line, State.ped]
  refine ⟨fun other few => ?_, fun other few ends => ?_, fun n hk few => ?_, fun n v w hk few => ?_,
    fun frame hf last unknown => ?_, ?_⟩
  · have retry : s.attemptFailed p x = { s with line := retried } := State.attemptFailed_again few other
    refine ⟨fun frame hl => ?_, fun frame hl hc => ?_, fun frame hl hc ha => ?_, fun r _ hk => ?_, fun hk => ⟨?_, ?_⟩⟩
    · rw [short hl, retry]
    · exact (State.receive_counted hx ht hd (classifyFrame_check hl hc)).trans
        (congrArg Host.Outcome.next (State.checkFailed_again few other))
    · rw [bad (classifyFrame_address hc ha), retry]
    · exact (bad (classifyFrame_kind (kind := 129) (body := statusBody r) (by decide) (by simp [hk]))).trans
        (congrArg Host.Outcome.next retry)
    · exact (bad (classifyFrame_kind (kind := 130) (body := []) (by decide) (by simp [hk]))).trans
        (congrArg Host.Outcome.next retry)
    · exact (bad (classifyFrame_kind (kind := 131) (body := []) (by decide) (by simp [hk]))).trans
        (congrArg Host.Outcome.next retry)
  · have retry := State.attemptFailed_again (p := p) (s := s.advanceTo x.deadline) few other
    rw [line, ped, s.advanceTo_ms _ ends] at retry
    rw [expired, retry]
    refine ⟨_, rfl, ?_, s.advanceTo_clockAt ends, rfl⟩
    intro b hb
    have kept := passed b (by simp at hb ⊢; exact hb.2)
    cases b with
    | line | clock => simp at hb
    | _ => exact kept
  · rw [State.receive_nak hx ht hd (by rw [hk]; nofun), State.nakReceived]
    simp only [hk]
    exact congrArg Host.Outcome.next (State.attemptFailed_again few (by rw [hk]; nofun))
  · obtain ⟨same, at_, y, inflight, attempt, target, kind⟩ := State.attemptFailed_decrease (p := p) (s := s) few hk
    rw [State.receive_nak hx ht hd (by rw [hk]; nofun), State.nakReceived]
    simp only [hk]
    exact ⟨_, y, rfl, same, at_, inflight, attempt, target, kind⟩
  · rw [short hf, State.attemptFailed_last last, State.lose, if_pos (by rw [State.gaveUp_ped]; exact unknown)]
    rfl
  · intro frame hf last known calm plain
    rw [short hf]
    have calm' : ∀ e ∈ ((s.advanceTo x.deadline).ped p).queue, ∀ n, e.cmd ≠ .close n := by rw [ped]; exact calm
    have known' : ((s.advanceTo x.deadline).ped p).link ≠ .unconfigured := by rw [ped]; exact known
    refine ⟨fun h => ?_, fun h ends => ?_, fun n v w hk own => ?_, fun n hk own closing now => ⟨fun few runs => ?_,
      fun many => ?_⟩⟩
    · obtain ⟨same, free, at_, raised, passed, others, records⟩ := State.attemptFailed_plain last known calm h
      exact ⟨_, rfl, same, free, at_, raised, passed, others, records⟩
    · obtain ⟨same, free, at_, raised, placed, others, -⟩ := State.attemptFailed_plain last known' calm'
        (show Plain (s.advanceTo x.deadline) x.kind by
          have seq (n : Conn) : (s.advanceTo x.deadline).seq n = s.seq n :=
            congrArg (fun x : SequencerState => tget x.recs n) (passed .sequencer (by simp))
          simp only [Plain, seq]
          exact h)
      rw [expired]
      refine ⟨_, rfl, ?_, ?_, free, ?_, ?_, placed, fun q hq => (others q hq).trans (ped q)⟩
      · exact (passed.mono (by simp)).trans (same.mono (by simp))
      · rw [same .clock (by simp)]; exact s.advanceTo_clockAt ends
      · rw [at_, ped, s.advanceTo_ms _ ends]; rfl
      · rw [raised]
        exact congrArg (UplinkState.withRaised .pedestalLost) (passed .uplink (by simp))
    · obtain hk | hk := hk
      · obtain ⟨same, free, at_, placed, record⟩ := State.attemptFailed_setpoint (f := fun r =>
            { r with inFlight := none, state := if r.grant < r.target then .increaseDeferred else .steady })
          last known calm own (by rw [hk]; rfl) (fun u => by rw [hk]; rfl)
        refine ⟨_, rfl, same, free, at_, placed, ?_, ?_, ?_, fun _ => ?_⟩ <;> rw [record]
      · obtain ⟨same, free, at_, placed, record⟩ := State.attemptFailed_setpoint
          (f := fun r => { r with inFlight := none })
          last known calm own (by rw [hk]; rfl) (fun u => by rw [hk]; rfl)
        refine ⟨_, rfl, same, free, at_, placed, ?_, ?_, ?_, fun increase => ?_⟩
        iterate 3 rw [record]
        rw [hk] at increase
        cases increase
    · obtain ⟨same, free, at_, record, placed, others⟩ :=
        State.attemptFailed_close_again last known calm own hk closing now few runs
      exact ⟨_, rfl, same, free, at_, record, placed, others⟩
    · obtain ⟨same, free, at_, fault, placed, event, others⟩ :=
        State.attemptFailed_close_refused last known calm own hk closing now many
      exact ⟨_, rfl, same, free, at_, fault, placed, event, others⟩

end Sys2Proof.Machine
end

section
/-! SUPPORT. The contact step of a STATUS reply at one connector (R43 to R49). -/

namespace Sys2Proof.Machine

/-! ### What a contact step may leave -/

/-- An opening of connector n, from the record x, with its OPEN slot set. -/
def Opens (n : Conn) (s t : State) (x : SeqRecord) : Prop :=
  SameBut [.line, .sequencer] s t ∧ (t.slots n).openSet = true ∧
  t.seq n = { x with contactor := .opening, openAcked := false, repliesSinceOpen := 0 }

/-- A close of connector n, from the record x, with its CLOSE in the queue. -/
def Closes (n : Conn) (s t : State) (x : SeqRecord) : Prop :=
  SameBut [.line, .sequencer] s t ∧ t.closeWaits n = true ∧ t.seq n = { x with contactor := .closing }

/-- A fault cause at connector n, with what it raises. -/
def Faults (n : Conn) (s t : State) (k : FaultKind) : Prop :=
  SameBut [.line, .sequencer, .auth, .sessions, .alloc, .uplink] s t ∧
  t.uplink = s.uplink.withRaised .connectorFault ∧ FaultTaken k n s t

section step

variable {n : Conn} {s : State}

theorem State.setOpenSlot_opens (x : SeqRecord) (f : SeqRecord → SeqRecord) (hf : f (s.seq n) = x)
    (left : x.contactor ≠ .opened) : Opens n s (((s.setOpenSlot n).updSeq n f).enterOpening n) x := by
  rw [State.updSeq_eq_withSeq, State.setOpenSlot_seq, hf, State.withSeq_enterOpening left]
  refine ⟨((State.setOpenSlot_same n s).mono (by simp)).trans ((State.withSeq_kept n _ _).mono (by simp)), ?_,
    State.withSeq_seq ..⟩
  exact congrArg SafetySlots.openSet ((State.setOpenSlot_slots n n s).trans (if_pos rfl))

theorem State.enterFaulted_faults (k : FaultKind) (h : (s.seq n).contactor ≠ .faulted) :
    Faults n s (s.enterFaulted n k) k :=
  ⟨(Turn.enterFaulted n k s).kept, State.enterFaulted_raises k h, State.enterFaulted_taken n k s⟩

/-- A fault cause at a record that differs in its reply count alone. -/
theorem State.enterFaulted_counted {c : Nat} (k : FaultKind) (h : (s.seq n).contactor ≠ .faulted) :
    Faults n s ((s.withSeq n { s.seq n with repliesSinceOpen := c }).enterFaulted n k) k := by
  have not_faulted : ((s.withSeq n { s.seq n with repliesSinceOpen := c }).seq n).contactor ≠ .faulted := by
    rw [State.withSeq_seq]; exact h
  obtain ⟨kept, raised, fault⟩ := State.enterFaulted_faults k not_faulted
  have before := State.withSeq_kept n { s.seq n with repliesSinceOpen := c } s
  have record := State.withSeq_seq n { s.seq n with repliesSinceOpen := c } s
  have sessions : (s.withSeq n { s.seq n with repliesSinceOpen := c }).sessions = s.sessions := rfl
  have sec : (s.withSeq n { s.seq n with repliesSinceOpen := c }).sec = s.sec := rfl
  have uplink : (s.withSeq n { s.seq n with repliesSinceOpen := c }).uplink = s.uplink := rfl
  generalize s.withSeq n { s.seq n with repliesSinceOpen := c } = u at *
  refine ⟨(before.mono (by simp)).trans kept, by rw [raised, uplink], ?_⟩
  rw [FaultTaken, if_neg not_faulted] at fault
  rw [FaultTaken, if_neg h]
  obtain ⟨seq, openSet, event, stop⟩ := fault
  refine ⟨seq.trans (by rw [record]; rfl), openSet, event, ?_⟩
  rw [sec] at stop
  exact stop.congr (State.sess_congr sessions n).symm (by rw [sessions]) rfl rfl

/-- A contactor that goes to CLOSING, with its CLOSE at the tail of the pedestal's queue. -/
theorem State.offerClose_closes (room : s.roomForClose n) :
    Closes n s ((s.setContactor n .closing).offerClose n) (s.seq n) ∧
    ((s.setContactor n .closing).offerClose n).line.slots = s.line.slots := by
  have woken := State.setContactor_woken n .closing (pedOf n) s
  have queue := State.setContactor_queue n .closing (pedOf n) s
  have seq := State.setContactor_seq n n .closing s
  have kept : SameBut [.line, .sequencer] s (s.setContactor n .closing) := by
    intro b hb
    cases b with
    | line | sequencer => simp at hb
    | _ => simp [SameAt]
  have slots : (s.setContactor n .closing).line.slots = s.line.slots := by
    unfold State.setContactor
    dsimp only
    split
    · rw [State.localActivity_line_slots]; rfl
    · rfl
  generalize s.setContactor n .closing = u at woken queue seq kept slots
  have takes : u.queueTakes (pedOf n) = true := by
    refine State.queueTakes_iff.2 ⟨(not_congr woken.unconfigured).2 room.1, ?_⟩
    rw [queue]
    exact room.2
  rw [State.offerClose, if_pos takes]
  refine ⟨⟨kept.trans ?_, ?_, seq.trans (if_pos rfl)⟩, slots⟩
  · intro b hb
    cases b with
    | line | sequencer => simp at hb
    | _ => rfl
  · rw [State.closeWaits, State.enqueue_ped, if_pos rfl]
    simp [Machine.closeEntry, QueueEntry.isClose]

theorem Closes.from_withSeq {x y : SeqRecord} {t : State} (h : Closes n (s.withSeq n x) t y) : Closes n s t y :=
  ⟨((State.withSeq_kept n x s).mono (by simp)).trans h.1, h.2⟩

end step

/-! ### OPEN (R41, R46, R49) -/

section opened

variable {n : Conn} {s : State} (r : ConnReport)

/-- Whether connector n may start its close (R41). -/
def State.mayClose (s : State) (n : Conn) : Prop :=
  s.readyToClose n ∧ (s.sess n).state = .authorized ∧ s.sequencer.parkStop = false

theorem State.replyOpened_contact (h : r.contact ≠ .opened) : Opens n s (s.replyOpened n r) (s.seq n) := by
  rw [State.replyOpened, if_pos h]
  obtain ⟨same, seq, slot, -⟩ := State.setOpenSlot_enterOpening n s
  exact ⟨same, slot, seq⟩

theorem State.testClose_closes_from (may : s.mayClose n) (room : s.roomForClose n) :
    Closes n s (s.testClose n) { s.seq n with attempt := 1, openPending := false } := by
  rw [State.testClose_closes (State.closeCondition_iff.2 may) room]
  exact ⟨(State.startsClose_kept n s).1, State.startsClose_closeWaits n s,
    (State.startsClose_seq n s n).trans (if_pos rfl)⟩

theorem State.testClose_stays (not : ¬ s.mayClose n) : s.testClose n = s :=
  State.testClose_of_not (Bool.eq_false_iff.2 fun h => not (State.closeCondition_iff.1 h))

theorem State.replyOpened_idle (h : r.contact = .opened) (idle : (s.seq n).released = false) :
    s.replyOpened n r = s.testClose n := by
  rw [State.replyOpened, if_neg (not_not.2 h), if_neg (by rw [idle]; exact Bool.false_ne_true)]

/-- The record of a released connector with one more reply at rest (R46). -/
def SeqRecord.restedOnce (x : SeqRecord) : SeqRecord := { x with restCount := min (x.restCount + 1) 20 }

theorem State.replyOpened_released (h : r.contact = .opened) (released : (s.seq n).released = true) :
    s.replyOpened n r = ((s.withSeq n (s.seq n).restedOnce).testReclose n r).testClose n := by
  rw [State.replyOpened, if_neg (not_not.2 h), if_pos released]
  rfl

/-- What the re-close test asks of connector n at a reply, once its rest count has been increased (R46). -/
def State.recloses (s : State) (n : Conn) (r : ConnReport) : Prop :=
  (s.sess n).state = .charging ∧ r.plugged = true ∧ 0 < r.demand ∧
  s.sequencer.idleRelease ≤ min ((s.seq n).restCount + 1) 20 ∧ s.sequencer.parkStop = false

theorem State.testReclose_iff : (((s.withSeq n (s.seq n).restedOnce).sess n).state = .charging ∧ r.plugged ∧
      0 < r.demand ∧ (s.withSeq n (s.seq n).restedOnce).sequencer.idleRelease ≤
        ((s.withSeq n (s.seq n).restedOnce).seq n).restCount ∧
      !(s.withSeq n (s.seq n).restedOnce).sequencer.parkStop) ↔ s.recloses n r := by
  rw [State.withSeq_seq]
  simp only [State.recloses, Bool.not_eq_true']
  exact Iff.rfl

theorem State.testReclose_closes (again : s.recloses n r) (room : s.roomForClose n) :
    Closes n s ((s.withSeq n (s.seq n).restedOnce).testReclose n r)
      { s.seq n with attempt := 1, released := false, restCount := 0 } := by
  obtain ⟨closes, -⟩ := State.offerClose_closes (n := n)
    (s := s.withSeq n { s.seq n with attempt := 1, released := false, restCount := 0 }) room
  rw [State.withSeq_seq] at closes
  have closing : (s.withSeq n (s.seq n).restedOnce).testReclose n r =
      ((s.withSeq n { s.seq n with attempt := 1, released := false, restCount := 0 }).setContactor n
        .closing).offerClose n := by
    rw [State.testReclose, if_pos (State.testReclose_iff r |>.2 again), State.updSeq_eq_withSeq, State.withSeq_seq,
      State.withSeq_withSeq]
    rfl
  rw [closing]
  exact closes.from_withSeq

theorem State.testReclose_stays (not : ¬ s.recloses n r) :
    (s.withSeq n (s.seq n).restedOnce).testReclose n r = s.withSeq n (s.seq n).restedOnce :=
  if_neg fun h => not ((State.testReclose_iff r).1 h)

theorem State.mayClose_rested (opened : (s.seq n).contactor = .opened) : (s.withSeq n (s.seq n).restedOnce).mayClose n
    ↔ s.mayClose n := by
  have record : ((s.withSeq n (s.seq n).restedOnce).seq n).contactor = .opened := by
    rw [State.withSeq_seq]; exact opened
  unfold State.mayClose State.readyToClose
  rw [record, opened]
  exact Iff.rfl

end opened

end Sys2Proof.Machine
end

section
/-! SUPPORT. The contact step, continued: VERIFYING, CLOSED and OPENING (R43 to R48), and the step whole. -/

namespace Sys2Proof.Machine

/-! ### Entry to CLOSED (R44) -/

section closed

variable {n : Conn} {s : State}

/-- The record of a connector that enters CLOSED (R44). -/
def SeqRecord.closedNow (x : SeqRecord) : SeqRecord :=
  { x with contactor := .closed, settleDeadline := none, idleCount := 0, released := false }

theorem State.enterClosed_record (left : (s.seq n).contactor ≠ .opened) :
    (s.updSeq n fun r => { r with settleDeadline := none, idleCount := 0, released := false }).setContactor n .closed =
      s.withSeq n (s.seq n).closedNow := by
  rw [State.updSeq_eq_withSeq, State.setContactor_of_left .closed (by rw [State.withSeq_seq]; exact left),
    State.withSeq_seq, State.withSeq_withSeq]
  rfl

theorem State.enterClosed_again (left : (s.seq n).contactor ≠ .opened) (h : (s.sess n).state ≠ .authorized) :
    s.enterClosed n = s.withSeq n (s.seq n).closedNow := by
  unfold State.enterClosed
  rw [State.enterClosed_record left]
  exact if_neg h

/-- The first entry to CLOSED of a session: CHARGING, with its start fee (R86, R88). -/
def State.charged (n : Conn) (s : State) : State :=
  (s.withSeq n (s.seq n).closedNow).withSess n
    { s.sess n with state := .charging, readyDeadline := none, startFee := s.startFeeOf (s.sess n) }

theorem State.setSess_of_present (n : Conn) (e : Session) (s : State) (h : (s.sess n).state ≠ .empty) :
    s.setSess n e = s.withSess n e := if_neg fun both => h both.1

theorem State.enterClosed_first (left : (s.seq n).contactor ≠ .opened) (h : (s.sess n).state = .authorized) :
    s.enterClosed n = (s.charged n).pass.budgetCheck n := by
  unfold State.enterClosed
  rw [State.enterClosed_record left]
  refine (if_pos h).trans ?_
  have present : ((s.withSeq n (s.seq n).closedNow).sess n).state ≠ .empty := by
    show (s.sess n).state ≠ _
    rw [h]; nofun
  rw [State.setSess_of_present n _ _ present]
  rfl

/-- What the first entry to CLOSED leaves (R44, R86, R88, R130). -/
theorem State.enterClosed_charges {k : PlanSlot} {rev : BitVec 16} (left : (s.seq n).contactor ≠ .opened)
    (h : (s.sess n).state = .authorized) (plan : (s.sess n).plan = some (k, rev)) :
    let t := s.enterClosed n
    let running : Session := { s.sess n with
      state := .charging, readyDeadline := none, startFee := (s.plan k).contents.startFee }
    let stops : Prop := running.threshold ≤ running.running
    SameBut [.line, .sequencer, .sessions, .alloc] s t ∧ PassTaken t ∧
    t.sess n = (if stops then running.stoppedAt .budget (s.sec + s.sessions.stopWait) else running) ∧
    (t.seq n).contactor = (if stops then .opening else .closed) ∧ (t.seq n).settleDeadline = none ∧
    (t.seq n).idleCount = 0 ∧ (t.seq n).released = false ∧ (t.seq n).attempt = (s.seq n).attempt := by
  intro t running stops
  have run : t = (s.charged n).pass.budgetCheck n := State.enterClosed_first left h
  have fee : s.startFeeOf (s.sess n) = (s.plan k).contents.startFee := by rw [State.startFeeOf, plan]
  have entry : (s.charged n).sess n = running := by
    refine (tget_tset_same ..).trans ?_
    rw [fee]
  have record : (s.charged n).seq n = (s.seq n).closedNow := State.withSeq_seq ..
  have before : SameBut [.sequencer, .sessions] s (s.charged n) := by
    intro b hb
    cases b with
    | sequencer | sessions => simp at hb
    | _ => rfl
  have wait : (s.charged n).sec = s.sec ∧ (s.charged n).sessions.stopWait = s.sessions.stopWait := ⟨rfl, rfl⟩
  rw [run]
  generalize s.charged n = u at entry record before wait
  have stage := u.pass_stage
  have passed := u.pass_passTaken
  rw [← stage.sess] at entry
  rw [← stage.seq] at record
  have sec : u.pass.sec = s.sec := by
    rw [State.sec, show u.pass.clock = u.clock from stage.blocks .clock (by simp)]
    exact wait.1
  have stopWait : u.pass.sessions.stopWait = s.sessions.stopWait := by
    rw [show u.pass.sessions = u.sessions from stage.blocks .sessions (by simp)]
    exact wait.2
  have same : SameBut [.line, .sequencer, .sessions, .alloc] s u.pass :=
    (before.mono (by simp)).trans (stage.blocks.mono (by simp))
  generalize u.pass = v at passed entry record sec stopWait same
  have charging : (v.sess n).state = .charging := by rw [entry]
  have test : (v.sess n).threshold ≤ (v.sess n).running ↔ stops := by rw [entry]
  have kept := (v.budgetCheck_kept n).1
  by_cases reached : stops
  · have present : (v.sess n).state ≠ .empty := by rw [charging]; nofun
    have seq := State.beginStop_seq .budget n v present
    rw [State.budgetCheck_stops (.inl charging) (test.2 reached)] at kept ⊢
    rw [if_pos reached, if_pos reached]
    rw [record] at seq
    refine ⟨same.trans kept, (v.beginStop_kept .budget n).2.2 charging, ?_, ?_, ?_, ?_, ?_, ?_⟩
    · rw [State.beginStop_sess, entry, sec, stopWait]
    all_goals rw [seq]; rfl
  · rw [State.budgetCheck_stays fun both => reached (test.1 both.2), if_neg reached, if_neg reached]
    refine ⟨same, passed, entry, ?_, ?_, ?_, ?_, ?_⟩
    all_goals rw [record]; rfl

end closed

/-! ### VERIFYING (R43) -/

section verifying

variable {n : Conn} {s : State} (r : ConnReport)

theorem State.replyVerifying_waits {d : Nat} (hd : (s.seq n).settleDeadline = some d) (early : s.clock.ms < d) :
    s.replyVerifying n r = s := by
  refine if_pos ?_
  rw [hd]
  exact decide_eq_true early

/-- What VERIFYING does once its settle time has passed (R43). -/
def State.verifies (n : Conn) (r : ConnReport) (s : State) : State :=
  if r.contact = .closed then s.enterClosed n
  else if 3 ≤ (s.seq n).attempt then s.enterFaulted n .contactBad
  else
    match (s.sess n).state with
    | .authorized | .charging =>
      (((s.setOpenSlot n).updSeq n fun x =>
        { x with attempt := x.attempt + 1, settleDeadline := none }).setContactor n .closing).offerClose n
    | .complete =>
      ((s.setOpenSlot n).updSeq n fun x =>
        { x with released := true, restCount := 0, settleDeadline := none }).enterOpening n
    | .empty | .awaitingAuth | .stopping | .closed => s

theorem State.replyVerifying_due (due : ∀ d, (s.seq n).settleDeadline = some d → d ≤ s.clock.ms) :
    s.replyVerifying n r = s.verifies n r := by
  refine if_neg ?_
  cases hd : (s.seq n).settleDeadline with
  | none => exact Bool.false_ne_true
  | some d =>
    have := due d hd
    simp only [Option.any_some, decide_eq_true_eq]
    omega

variable {r} (bad : r.contact ≠ .closed)

include bad

theorem State.verifies_faults (left : (s.seq n).contactor ≠ .faulted) (last : 3 ≤ (s.seq n).attempt) :
    Faults n s (s.verifies n r) .contactBad := by
  rw [State.verifies, if_neg bad, if_pos last]
  exact State.enterFaulted_faults .contactBad left

theorem State.verifies_again (few : (s.seq n).attempt < 3)
    (runs : (s.sess n).state = .authorized ∨ (s.sess n).state = .charging) (room : s.roomForClose n) :
    Closes n s (s.verifies n r) { s.seq n with attempt := (s.seq n).attempt + 1, settleDeadline := none } ∧
    ((s.verifies n r).slots n).openSet = true := by
  have case : s.verifies n r = (((s.setOpenSlot n).updSeq n fun x =>
      { x with attempt := x.attempt + 1, settleDeadline := none }).setContactor n .closing).offerClose n := by
    rw [State.verifies, if_neg bad, if_neg (by omega)]
    rcases runs with h | h <;> rw [h]
  have seq := State.setOpenSlot_seq n n s
  have same := State.setOpenSlot_same n s
  have slot : ((s.setOpenSlot n).slots n).openSet = true :=
    congrArg SafetySlots.openSet ((State.setOpenSlot_slots n n s).trans (if_pos rfl))
  have still : (s.setOpenSlot n).roomForClose n := by
    have entry := State.setOpenSlot_ped n (pedOf n) s
    rw [if_pos rfl] at entry
    unfold State.roomForClose State.linkOf
    rw [entry]
    exact ⟨room.1, lt_of_le_of_lt (List.length_filter_le _ _) room.2⟩
  rw [case, State.updSeq_eq_withSeq]
  generalize s.setOpenSlot n = u at seq same slot still
  obtain ⟨⟨kept, waits, record⟩, slots⟩ := State.offerClose_closes (n := n) (s := u.withSeq n
    { u.seq n with attempt := (u.seq n).attempt + 1, settleDeadline := none }) still
  refine ⟨⟨?_, waits, record.trans (by rw [State.withSeq_seq, seq])⟩, ?_⟩
  · exact ((same.mono (by simp)).trans ((State.withSeq_kept n _ u).mono (by simp))).trans kept
  · refine (congrArg (fun l => (tget l n).openSet) slots).trans slot

theorem State.verifies_complete (left : (s.seq n).contactor ≠ .opened) (few : (s.seq n).attempt < 3)
    (complete : (s.sess n).state = .complete) :
    Opens n s (s.verifies n r) { s.seq n with released := true, restCount := 0, settleDeadline := none } := by
  rw [State.verifies, if_neg bad, if_neg (by omega), complete]
  exact State.setOpenSlot_opens _ _ rfl left

theorem State.verifies_nothing (few : (s.seq n).attempt < 3)
    (none_ : (s.sess n).state = .empty ∨ (s.sess n).state = .awaitingAuth ∨ (s.sess n).state = .stopping ∨
      (s.sess n).state = .closed) : s.verifies n r = s := by
  rw [State.verifies, if_neg bad, if_neg (by omega)]
  rcases none_ with h | h | h | h <;> rw [h]

end verifying

end Sys2Proof.Machine
end

section
/-! SUPPORT. The contact step, continued: CLOSED, OPENING and LOCKED (R45, R48, R49). The session step between CHARGING
and COMPLETE (R87). -/

namespace Sys2Proof.Machine

/-! ### CLOSED (R45) -/

section closed

variable {n : Conn} {s : State} {r : ConnReport}

theorem State.replyClosed_bad (bad : r.contact ≠ .closed) (left : (s.seq n).contactor ≠ .faulted) :
    Faults n s (s.replyClosed n r) .contactBad := by
  rw [State.replyClosed, if_pos bad]
  exact State.enterFaulted_faults .contactBad left

variable (good : r.contact = .closed)

include good

/-- What a reply of a contact at rest does at a CLOSED connector (R45). -/
theorem State.replyClosed_rests (rests : r.power = 0 ∧ (r.demand = 0 ∨ (s.setpoint n).grant = 0)) :
    s.replyClosed n r =
      if s.sequencer.idleRelease ≤ min ((s.seq n).idleCount + 1) 20 then
        (((s.withSeq n { s.seq n with idleCount := min ((s.seq n).idleCount + 1) 20 }).setOpenSlot n).updSeq n
          fun x => { x with released := true, idleCount := 0, restCount := 0 }).enterOpening n
      else s.withSeq n { s.seq n with idleCount := min ((s.seq n).idleCount + 1) 20 } := by
  rw [State.replyClosed, if_neg (not_not.2 good), if_pos rests]
  dsimp only
  rw [State.updSeq_eq_withSeq, State.withSeq_seq]
  rfl

theorem State.replyClosed_released (left : (s.seq n).contactor ≠ .opened)
    (rests : r.power = 0 ∧ (r.demand = 0 ∨ (s.setpoint n).grant = 0))
    (long : s.sequencer.idleRelease ≤ min ((s.seq n).idleCount + 1) 20) :
    Opens n s (s.replyClosed n r) { s.seq n with released := true, idleCount := 0, restCount := 0 } := by
  rw [State.replyClosed_rests good rests, if_pos long]
  obtain ⟨same, slot, record⟩ := State.setOpenSlot_opens (n := n)
    (s := s.withSeq n { s.seq n with idleCount := min ((s.seq n).idleCount + 1) 20 })
    { s.seq n with released := true, idleCount := 0, restCount := 0 }
    (fun x => { x with released := true, idleCount := 0, restCount := 0 }) (by rw [State.withSeq_seq]) left
  exact ⟨((State.withSeq_kept n _ s).mono (by simp)).trans same, slot, record⟩

theorem State.replyClosed_busy (busy : ¬ (r.power = 0 ∧ (r.demand = 0 ∨ (s.setpoint n).grant = 0))) :
    s.replyClosed n r = s.withSeq n { s.seq n with idleCount := 0 } := by
  rw [State.replyClosed, if_neg (not_not.2 good), if_neg busy]
  rfl

end closed

/-! ### OPENING (R48) -/

section opening

variable {n : Conn} {s : State} {r : ConnReport}

theorem State.replyOpening_waits (h : (s.seq n).openAcked = false) : s.replyOpening n r = s := by
  rw [State.replyOpening, h]
  rfl

variable (acked : (s.seq n).openAcked = true)

include acked

/-- The end of an opening, from the record without its acknowledgement (R48). -/
theorem State.replyOpening_opened (h : r.contact = .opened) :
    s.replyOpening n r =
      if (s.seq n).locks.isEmpty = true then
        (s.withSeq n { s.seq n with openAcked := false, repliesSinceOpen := 0 }).enterOpen n
      else (s.withSeq n { s.seq n with openAcked := false, repliesSinceOpen := 0 }).setContactor n .locked := by
  rw [State.replyOpening, acked, Bool.not_true, if_neg Bool.false_ne_true, if_pos h]
  dsimp only
  rw [State.updSeq_eq_withSeq, State.withSeq_seq]

theorem State.replyOpening_still (h : r.contact ≠ .opened) :
    s.replyOpening n r =
      if 2 ≤ (s.seq n).repliesSinceOpen then
        (s.withSeq n { s.seq n with repliesSinceOpen := (s.seq n).repliesSinceOpen + 1 }).enterFaulted n .welded
      else s.withSeq n { s.seq n with repliesSinceOpen := (s.seq n).repliesSinceOpen + 1 } := by
  rw [State.replyOpening, acked, Bool.not_true, if_neg Bool.false_ne_true, if_neg h]
  dsimp only
  rw [State.updSeq_eq_withSeq, State.withSeq_seq]
  refine if_congr ?_ rfl rfl
  show 3 ≤ (s.seq n).repliesSinceOpen + 1 ↔ _
  omega

theorem State.replyOpening_locks (h : r.contact = .opened) (locks : (s.seq n).locks ≠ ⟨false, false⟩)
    (left : (s.seq n).contactor ≠ .opened) :
    s.replyOpening n r =
      s.withSeq n { s.seq n with contactor := .locked, openAcked := false, repliesSinceOpen := 0 } := by
  rw [State.replyOpening_opened acked h, if_neg (mt (Locks.isEmpty_iff _).1 locks),
    State.setContactor_of_left .locked (by rw [State.withSeq_seq]; exact left), State.withSeq_seq,
    State.withSeq_withSeq]

theorem State.replyOpening_stays (h : r.contact = .opened) (locks : (s.seq n).locks = ⟨false, false⟩)
    (other : (s.sess n).state ≠ .authorized) :
    s.replyOpening n r =
      s.withSeq n { s.seq n with contactor := .opened, openAcked := false, repliesSinceOpen := 0 } := by
  rw [State.replyOpening_opened acked h, if_pos ((Locks.isEmpty_iff _).2 locks), State.withSeq_enterOpen other]

theorem State.replyOpening_enters (h : r.contact = .opened) (locks : (s.seq n).locks = ⟨false, false⟩)
    (room : s.roomForClose n) :
    SameBut [.line, .sequencer] s (s.replyOpening n r) ∧
    OpenEntered { s.seq n with contactor := .opened, openAcked := false, repliesSinceOpen := 0 } n s
      (s.replyOpening n r) := by
  rw [State.replyOpening_opened acked h, if_pos ((Locks.isEmpty_iff _).2 locks)]
  obtain ⟨entered, kept⟩ := State.enterOpen_entered (n := n)
    (s := s.withSeq n { s.seq n with openAcked := false, repliesSinceOpen := 0 }) fun _ => room
  rw [State.withSeq_seq] at entered
  exact ⟨((State.withSeq_kept n _ s).mono (by simp)).trans kept, entered.congr rfl rfl rfl rfl rfl⟩

end opening

/-! ### The session step between CHARGING and COMPLETE (R87) -/

section session

variable {n : Conn} {s : State} {r : ConnReport}

/-- The session entry after a reply that shows no unplug (R85). -/
def Session.seenPlug (plugged : Bool) (e : Session) : Session := { e with plugSeen := e.plugSeen || plugged }

/-- The first half of the session step, where nothing was unplugged. -/
theorem State.replyPlug_eq (runs : (s.sess n).state = .charging ∨ (s.sess n).state = .complete)
    (h : r.plugged = true ∨ (s.sess n).plugSeen = false) :
    s.replyPlug n r = s.withSess n ((s.sess n).seenPlug r.plugged) := by
  have watching : (s.sess n).state.watching = true := by rcases runs with e | e <;> rw [e] <;> rfl
  unfold State.replyPlug
  rw [watching, Bool.true_and, Bool.true_and]
  cases plugged : r.plugged with
  | true =>
    rw [if_pos rfl]
    refine congrArg (fun e => s.withSess n e) ?_
    simp [Session.seenPlug, State.sess]
  | false =>
    have unseen : (s.sess n).plugSeen = false := h.resolve_left (by rw [plugged]; exact Bool.false_ne_true)
    have same : (s.sess n).seenPlug false = s.sess n := by simp [Session.seenPlug]
    rw [if_neg Bool.false_ne_true, unseen, if_neg Bool.false_ne_true, same, State.withSess_self]

/-- A running session at which nothing was unplugged takes only the complete state of a reply. -/
theorem State.replySession_runs (runs : (s.sess n).state = .charging ∨ (s.sess n).state = .complete)
    (h : r.plugged = true ∨ (s.sess n).plugSeen = false) :
    s.replySession n r = (s.withSess n ((s.sess n).seenPlug r.plugged)).replyComplete n r := by
  have entry : ((s.withSess n ((s.sess n).seenPlug r.plugged)).sess n).state = (s.sess n).state := by
    rw [State.withSess_sess]; rfl
  rw [State.replySession_eq, State.replyPlug_eq runs h]
  generalize s.withSess n ((s.sess n).seenPlug r.plugged) = u at entry
  have after : ((u.replyComplete n r).sess n).state ≠ .stopping := by
    unfold State.replyComplete
    split
    · rw [State.pass_sess, State.setSess_sess, if_pos rfl]; nofun
    · split
      · rw [State.pass_sess, State.setSess_sess, if_pos rfl]; nofun
      · rw [entry]; rcases runs with e | e <;> rw [e] <;> nofun
  exact if_neg after

/-- The complete state of a reply turns the session to another running state, with a pass. -/
theorem State.withSess_pass (e x : Session) :
    let t := ((s.withSess n e).setSess n x).pass
    (e.state ≠ .empty) → SameBut [.line, .sessions, .alloc] s t ∧ PassTaken t ∧ (∀ m, m ≠ n → t.sess m = s.sess m) ∧
    t.sess n = x := by
  intro t there
  have twice : (s.withSess n e).setSess n x = s.withSess n x := by
    rw [State.setSess_of_present n x _ (by rw [State.withSess_sess]; exact there)]
    exact congrArg (fun l => ({ s with sessions := { s.sessions with entries := l } } : State)) (tset_tset ..)
  have run : t = (s.withSess n x).pass := congrArg State.pass twice
  rw [run]
  refine ⟨?_, State.pass_passTaken _, fun m hm => ?_, ?_⟩
  · refine SameBut.trans ?_ ((State.pass_kept _).mono (by simp))
    intro b hb
    cases b with
    | line | sessions | alloc => simp at hb
    | _ => rfl
  · rw [State.pass_sess]; exact tget_tset_of_ne _ _ _ _ hm
  · rw [State.pass_sess, State.withSess_sess]

end session

end Sys2Proof.Machine
end

section
/-! SUPPORT and PROOF. A STATUS reply, whole (R11). -/

namespace Sys2Proof.Machine

/-! ### The blocks a delivery may change -/

/-- The blocks that the delivery of a STATUS reply may change. -/
def deliveryBlocks : List Block :=
  [.line, .classifier, .sequencer, .auth, .sessions, .tariff, .alloc, .settlement, .uplink]

theorem sameBut_delivery {s t : State} :
    SameBut deliveryBlocks s t ↔ t.clock = s.clock ∧ t.metering = s.metering ∧ t.pending = s.pending := by
  refine ⟨fun h => ⟨h .clock (by decide), h .metering (by decide), h .pending (by decide)⟩, fun ⟨c, m, q⟩ b hb => ?_⟩
  cases b with
  | clock => exact c
  | metering => exact m
  | pending => exact q
  | _ => exact absurd (by decide) hb

theorem State.replySession_blocks (n : Conn) (r : ConnReport) (s : State) :
    SameBut deliveryBlocks s (s.replySession n r) := by
  have plug : SameBut deliveryBlocks s (s.replyPlug n r) := sameBut_delivery.2 <| by
    unfold State.replyPlug
    split
    · exact ⟨rfl, rfl, rfl⟩
    · split
      · exact ⟨State.stopCause_clock .., State.stopCause_metering .., State.stopCause_pending ..⟩
      · exact ⟨rfl, rfl, rfl⟩
  have complete (u : State) : SameBut deliveryBlocks u (u.replyComplete n r) := sameBut_delivery.2 <| by
    unfold State.replyComplete
    split
    · simp
    · split <;> simp
  have ends (u : State) : SameBut deliveryBlocks u (u.replyEnd n) := sameBut_delivery.2 <| by
    unfold State.replyEnd
    split
    · split <;> simp
    · simp
  rw [State.replySession_eq]
  exact (plug.trans (complete _)).trans (ends _)

theorem State.handLocal_blocks (p : Ped) (m : Message) (s : State) : SameBut deliveryBlocks s (s.handLocal p m) :=
  sameBut_delivery.2 <| by
    unfold State.handLocal
    split
    · next x _ =>
      cases x with
      | token l t => simp [State.handOver]
      | stopRequest l => simp [State.handOver]
      | faultReport l code => cases l <;> simp [State.handOver]
      | serviceSwitch on => cases on <;> simp [State.handOver, State.switchLock]
    · exact ⟨rfl, rfl, rfl⟩

theorem State.deliverMessage_blocks (p : Ped) (r : StatusReply) (s : State) :
    SameBut deliveryBlocks s (s.deliverMessage p r) := by
  have written (f : Pedestal → Pedestal) (u : State) : SameBut deliveryBlocks u (u.updPed p f) :=
    sameBut_delivery.2 ⟨rfl, rfl, rfl⟩
  have appended (m : Message) : SameBut deliveryBlocks s (s.appendPassUp p m) := sameBut_delivery.2 ⟨rfl, rfl, rfl⟩
  have held : SameBut deliveryBlocks s (s.holdOffer p) := sameBut_delivery.2 (by simp [State.holdOffer])
  have taken (m : Message) : SameBut deliveryBlocks s (s.takeOffer p m).1 := by
    unfold State.takeOffer
    split
    · exact State.handLocal_blocks p m s
    · split
      · exact appended m
      · exact held
    · split
      · exact (appended m).trans (State.handLocal_blocks p m _)
      · exact held
    · exact .refl _ s
  unfold State.deliverMessage
  split
  · next m _ =>
    unfold State.offerMessage
    dsimp only
    split
    · exact written _ s
    · split
      · exact (taken m).trans (written _ _)
      · exact (taken m).trans (written _ _)
  · exact .refl _ s

theorem State.deliverParts_blocks (p : Ped) (r : StatusReply) (s : State) :
    SameBut deliveryBlocks s (s.deliverParts p r) := by
  have reading (n : Conn) (x : ConnReport) (u : State) : SameBut deliveryBlocks u (u.deliverReading n x) :=
    sameBut_delivery.2 (by simp)
  have contact (n : Conn) (x : ConnReport) (u : State) : SameBut deliveryBlocks u (u.replyContact n x) :=
    sameBut_delivery.2 (by simp)
  have allocation (u : State) : SameBut deliveryBlocks u (u.replyAllocation p) := sameBut_delivery.2 <| by
    unfold State.replyAllocation
    split <;> simp
  exact (reading _ _ s).trans <| (reading _ _ _).trans <| (contact _ _ _).trans <| (contact _ _ _).trans <|
    (State.replySession_blocks _ _ _).trans <| (State.replySession_blocks _ _ _).trans (allocation _)

theorem State.afterDelivery_blocks (p : Ped) (r : StatusReply) (s : State) :
    SameBut [.line] s (s.afterDelivery p r) := by
  have written (f : Pedestal → Pedestal) : SameBut [.line] s (s.updPed p f) := (SlotServed.updPed p f s).blocks
  unfold State.afterDelivery
  split
  · split
    · exact written _
    · exact written _
  · exact .refl _ s

/-! ### The pedestal's entry -/

/-- What an offer leaves of its pedestal's entry: the disposition and the last number besides what the operations at its
connectors may change (R12). -/
def Pedestal.Offered (e e' : Pedestal) : Prop :=
  e' = { e with
    queue := e'.queue, link := e'.link, nextPoll := e'.nextPoll, disposition := e'.disposition,
    lastMessage := e'.lastMessage } ∧
  (e.link = .active → e'.link = .active)

theorem Pedestal.Stirred.offered {e e' : Pedestal} (h : e.Stirred e') (d : Disposition) (m : Option Byte) :
    e.Offered { e' with disposition := d, lastMessage := m } := by
  obtain ⟨same, link⟩ := h
  refine ⟨by rw [same], fun active => ?_⟩
  rcases link with ⟨kept, -⟩ | ⟨idle, -⟩
  · exact kept.trans active
  · rw [active] at idle; rcases idle with h | h <;> cases h

theorem State.deliverMessage_entry (p : Ped) (r : StatusReply) (s : State) :
    (s.ped p).Offered ((s.deliverMessage p r).ped p) := by
  have same {e : Pedestal} : e.Offered e := ⟨rfl, id⟩
  unfold State.deliverMessage
  split
  · next m _ =>
    unfold State.offerMessage
    dsimp only
    split
    · rw [State.updPed_ped_same]; exact ⟨rfl, id⟩
    · split
      · rw [State.updPed_ped_same]; exact (Keeps.takeOfferStirs m s).offered _ _
      · rw [State.updPed_ped_same]; exact (Keeps.takeOfferStirs m s).offered _ _
  · exact same

theorem State.afterDelivery_active {p : Ped} {s : State} (r : StatusReply) (h : (s.ped p).link = .active) :
    s.afterDelivery p r =
      if s.idleAfter p r then s.updPed p fun e => { e with link := .quiet, nextPoll := none }
      else s.updPed p fun e => { e with nextPoll := some (s.clock.ms + s.line.pollPeriod) } := if_pos h

end Sys2Proof.Machine
end

section
/-! PROOF. A STATUS reply, whole (R11). -/

namespace Sys2Proof.Machine

/-! ### The reply stored -/

/-- The state with a good reply of pedestal p stored, before its delivery (R9, R11). -/
def State.stored (p : Ped) (r : StatusReply) (s : State) : State :=
  { s with line := { s.line with
    inflight := none
    peds := tset s.line.peds p { (s.ped p).replied s.clock.ms with
      resync := false, reportA := some r.a, reportB := some r.b, available := some r.available } } }

theorem State.storeReply_eq (p : Ped) (r : StatusReply) (s : State) :
    ((s.goodReply p).updPed p fun e => { e with resync := false }).storeReply p r = s.stored p r := by
  unfold State.storeReply
  rw [State.updPed_twice]
  unfold State.updPed
  rw [State.goodReply_ped]
  exact congrArg (fun l => ({ s with line := { s.line with inflight := none, peds := l } } : State)) (tset_tset ..)

theorem State.statusReceived_eq (p : Ped) (r : StatusReply) (s : State) :
    s.statusReceived p r = (((s.stored p r).deliverParts p r).deliverMessage p r).afterDelivery p r := by
  rw [State.statusReceived, State.deliver_eq, State.storeReply_eq]

theorem State.stored_ped (p : Ped) (r : StatusReply) (s : State) : (s.stored p r).ped p =
    { (s.ped p).replied s.clock.ms with
      resync := false, reportA := some r.a, reportB := some r.b, available := some r.available } := tget_tset_same ..

theorem State.stored_ped_of_ne {p q : Ped} (r : StatusReply) (s : State) (h : q ≠ p) :
    (s.stored p r).ped q = s.ped q := tget_tset_of_ne _ _ _ _ h

theorem State.stored_same (p : Ped) (r : StatusReply) (s : State) : SameBut [.line] s (s.stored p r) := by
  intro b hb
  cases b with
  | line => simp at hb
  | _ => rfl

/-- A pedestal, its entry and its connectors, and nothing else, may be touched. -/
def aroundPed (p : Ped) : Set Privilege := {x | x = .ped p ∨ x = .entry p ∨ ∃ l, x = .conn (connOf p l)}

theorem aroundPed_serves (p : Ped) : Serves (aroundPed p) p :=
  ⟨.inl rfl, .inr (.inl rfl), fun l => .inr (.inr ⟨l, rfl⟩)⟩

/-- The delivery up to what follows it. -/
def State.delivered (p : Ped) (r : StatusReply) (s : State) : State :=
  ((s.stored p r).deliverParts p r).deliverMessage p r

theorem Pedestal.Stirred.then_offered {e e' e'' : Pedestal} (h : e.Stirred e')
    (g : e'.Offered e'') : e.Offered e'' := by
  obtain ⟨-, link⟩ := h.offered e'.disposition e'.lastMessage
  obtain ⟨same, link'⟩ := g
  exact ⟨by rw [same, h.1], fun active => link' (link active)⟩

section delivered

variable (p : Ped) (r : StatusReply) (s : State)

theorem Keeps.delivered : Keeps (aroundPed p) (s.stored p r) (s.delivered p r) :=
  (Keeps.deliverParts r _ (aroundPed_serves p).touches).trans (.deliverMessage r _ (aroundPed_serves p))

/-- The entry of the pedestal whose reply was delivered. -/
theorem State.delivered_entry : ((s.stored p r).ped p).Offered ((s.delivered p r).ped p) :=
  (Keeps.deliverParts (M := atPed p) r (s.stored p r) (atPed_touches p)).stirs.then_offered
    (State.deliverMessage_entry p r _)

theorem State.delivered_active (h : (s.ped p).link = .active) : ((s.delivered p r).ped p).link = .active :=
  (s.delivered_entry p r).2 (by rw [State.stored_ped]; exact h)

theorem State.delivered_quiet (h : r.message = none) :
    ((s.delivered p r).ped p).disposition = .none ∧
    ((s.delivered p r).ped p).lastMessage = (s.ped p).lastMessage := by
  have parts := (Keeps.deliverParts (M := atPed p) r (s.stored p r) (atPed_touches p)).stirs
  have same : s.delivered p r = (s.stored p r).deliverParts p r := by
    rw [State.delivered, State.deliverMessage, h]
  rw [same, parts.1, State.stored_ped]
  exact ⟨rfl, rfl⟩

theorem State.delivered_blocks : SameBut deliveryBlocks s (s.delivered p r) :=
  ((s.stored_same p r).mono (by decide)).trans
    ((State.deliverParts_blocks p r _).trans (State.deliverMessage_blocks p r _))

theorem State.delivered_rest : (s.delivered p r).line.inflight = none ∧
    (s.delivered p r).line.pollPeriod = s.line.pollPeriod ∧ (s.delivered p r).clock = s.clock := by
  obtain ⟨-, -, -, -, -, -, poll, -, free⟩ := (Keeps.delivered p r s).line.rest (by simp [aroundPed])
  exact ⟨free rfl, poll, s.delivered_blocks p r .clock (by decide)⟩

end delivered

/-! ### What follows the delivery -/

theorem State.afterDelivery_entry (p : Ped) (r : StatusReply) (s : State) :
    (∃ link poll, (s.afterDelivery p r).ped p = { s.ped p with link := link, nextPoll := poll }) ∧
    (∀ q, q ≠ p → (s.afterDelivery p r).ped q = s.ped q) ∧ (s.afterDelivery p r).line.slots = s.line.slots ∧
    (s.afterDelivery p r).line.inflight = s.line.inflight := by
  unfold State.afterDelivery
  split
  · split
    · exact ⟨⟨_, _, State.updPed_ped_same ..⟩, fun q hq => by rw [State.updPed_ped, if_neg hq], rfl, rfl⟩
    · exact ⟨⟨_, _, State.updPed_ped_same ..⟩, fun q hq => by rw [State.updPed_ped, if_neg hq], rfl, rfl⟩
  · exact ⟨⟨_, _, rfl⟩, fun _ _ => rfl, rfl, rfl⟩

theorem State.afterDelivery_polls {p : Ped} {s : State} (r : StatusReply) (h : (s.ped p).link = .active) :
    (((s.afterDelivery p r).ped p).link = .quiet ∧ ((s.afterDelivery p r).ped p).nextPoll = none) ∨
    (((s.afterDelivery p r).ped p).link = .active ∧
      ((s.afterDelivery p r).ped p).nextPoll = some (s.clock.ms + s.line.pollPeriod)) := by
  rw [State.afterDelivery_active r h]
  split
  · rw [State.updPed_ped_same]; exact .inl ⟨rfl, rfl⟩
  · rw [State.updPed_ped_same]; exact .inr ⟨h, rfl⟩

/-! ### A reply of an idle pedestal -/

theorem State.replyAllocation_kept (p : Ped) (s : State) : SameBut [.line, .alloc] s (s.replyAllocation p) := by
  unfold State.replyAllocation
  split
  · exact State.pass_kept s
  · exact .refl _ s

/-- What the steps of a delivery do at a connector with nothing on it. -/
theorem State.idle_steps {n : Conn} {x : ConnReport} {u : State} (contact : x.contact = .opened)
    (empty : (u.sess n).state = .empty) (opened : (u.seq n).contactor = .opened) (idle : (u.seq n).released = false) :
    u.deliverReading n x = u ∧ u.replyContact n x = u ∧ u.replySession n x = u := by
  refine ⟨?_, ?_, State.replySession_none (.inl empty)⟩
  · unfold State.deliverReading
    dsimp only
    rw [empty]
    rfl
  · unfold State.replyContact
    rw [opened]
    dsimp only
    rw [State.replyOpened_idle x contact idle, State.testClose_stays]
    rintro ⟨-, authorized, -⟩
    rw [empty] at authorized
    cases authorized

theorem State.deliverParts_idle {p : Ped} {r : StatusReply} {u : State} (a : r.a.contact = .opened)
    (b : r.b.contact = .opened)
    (idle : ∀ y, (u.sess (connOf p y)).state = .empty ∧ (u.seq (connOf p y)).contactor = .opened ∧
      (u.seq (connOf p y)).released = false) : u.deliverParts p r = u.replyAllocation p := by
  obtain ⟨readingA, contactA, sessionA⟩ := State.idle_steps a (idle .a).1 (idle .a).2.1 (idle .a).2.2
  obtain ⟨readingB, contactB, sessionB⟩ := State.idle_steps b (idle .b).1 (idle .b).2.1 (idle .b).2.2
  unfold State.deliverParts
  dsimp only
  rw [readingA, readingB, contactA, contactB, sessionA, sessionB]

end Sys2Proof.Machine
end

section
/-! PROOF. A STATUS reply, whole: the statement (R11, R43 to R49, R87). -/

namespace Sys2Proof.Machine

/-! ### The three parts of the statement -/

section reply

variable {s : State} {x : Txn} {p : Ped} {r : StatusReply} (hx : s.line.inflight = some x) (ht : x.target = some p)
  (hk : x.kind = .poll) (hd : x.discarded = false) (fits : r.fits)

include hx ht hk hd fits in
theorem State.receive_status :
    exec (.statusReply (statusFrame p r)) s = .next ((s.delivered p r).afterDelivery p r) := by
  have received : s.receive (statusFrame p r) = s.statusReceived p r := by
    rw [State.receive_live hx ht hd, hk]
    show (match classifyFrame p true (statusFrame p r) with
      | .bad checkBad => (if checkBad then s.checkFailed p else s).attemptFailed p x
      | .status r => s.statusReceived p r
      | .ack => s.ackReceived p x
      | .nak => s.nakReceived p x) = _
    rw [statusRepliesAreReadAsSent p r fits]
  exact congrArg Host.Outcome.next (received.trans (State.statusReceived_eq p r s))

/-- The entry of the pedestal after a reply, and every other pedestal (R11). -/
theorem State.afterDelivery_delivered (p : Ped) (r : StatusReply) (s : State) :
    let t := (s.delivered p r).afterDelivery p r
    SameBut deliveryBlocks s t ∧ t.line.inflight = none ∧ (∃ q l n d m, t.ped p = { (s.stored p r).ped p with
      queue := q, link := l, nextPoll := n, disposition := d, lastMessage := m }) ∧
    (r.message = none → (t.ped p).disposition = .none ∧ (t.ped p).lastMessage = (s.ped p).lastMessage) ∧
    (∀ q, q ≠ p → t.ped q = s.ped q) ∧
    ∀ n, pedOf n ≠ p → t.seq n = s.seq n ∧ t.sess n = s.sess n ∧ (t.slots n).openSet = (s.slots n).openSet := by
  intro t
  obtain ⟨free, -, -⟩ := s.delivered_rest p r
  obtain ⟨⟨link, poll, entry⟩, others, slots, inflight⟩ := (s.delivered p r).afterDelivery_entry p r
  have after := (s.delivered p r).afterDelivery_blocks p r
  have keeps := Keeps.delivered p r s
  have whole := (s.delivered_entry p r).1
  have away (n : Conn) (hn : pedOf n ≠ p) : .conn n ∉ aroundPed p := by
    rintro (h | h | ⟨l, h⟩)
    · cases h
    · cases h
    · obtain rfl : n = connOf p l := by injection h
      exact hn (pedOf_connOf p l)
  refine ⟨(s.delivered_blocks p r).trans (after.mono (by decide)), inflight.trans free,
    ⟨_, link, poll, _, _, entry.trans (by rw [whole])⟩, fun none_ => ?_, fun q hq => ?_, fun n hn => ⟨?_, ?_, ?_⟩⟩
  · obtain ⟨quiet, last⟩ := s.delivered_quiet p r none_
    rw [entry]
    exact ⟨quiet, last⟩
  · refine (others q hq).trans ((keeps.line.ped q ?_).trans (State.stored_ped_of_ne r s hq))
    rintro (h | h | ⟨l, h⟩)
    · injection h with h; exact hq h
    · cases h
    · cases h
  · exact (congrArg (fun x : SequencerState => tget x.recs n) (after .sequencer (by simp))).trans
      (keeps.sequencer.rec_ n (away n hn))
  · exact (State.sess_congr (after .sessions (by simp)) n).trans (keeps.entries.entry n (away n hn))
  · refine (congrArg (fun l => (tget l n).openSet) slots).trans (keeps.line.openSet n (away n hn))

/-- A reply of an idle pedestal turns it QUIET and leaves its connectors (R11). -/
theorem State.afterDelivery_idle (active : (s.ped p).link = .active) (silent : r.message = none)
    (unpluggedA : r.a.plugged = false) (unpluggedB : r.b.plugged = false) (a : r.a.contact = .opened)
    (b : r.b.contact = .opened)
    (idle : ∀ y, (s.sess (connOf p y)).state = .empty ∧ (s.seq (connOf p y)).contactor = .opened ∧
      (s.seq (connOf p y)).released = false) :
    let t := (s.delivered p r).afterDelivery p r
    (t.ped p).link = .quiet ∧ t.sequencer = s.sequencer ∧ t.sessions = s.sessions := by
  intro t
  have there := s.delivered_active p r active
  have same : s.delivered p r = (s.stored p r).replyAllocation p := by
    rw [State.delivered, State.deliverMessage, silent]
    exact State.deliverParts_idle a b idle
  have kept : SameBut [.line, .alloc] s (s.delivered p r) := by
    rw [same]
    exact ((s.stored_same p r).mono (by simp)).trans (State.replyAllocation_kept p _)
  have after := (s.delivered p r).afterDelivery_blocks p r
  have sequencer : (s.delivered p r).sequencer = s.sequencer := kept .sequencer (by simp)
  have sessions : (s.delivered p r).sessions = s.sessions := kept .sessions (by simp)
  refine ⟨?_, (after .sequencer (by simp)).trans sequencer, (after .sessions (by simp)).trans sessions⟩
  have rests : (s.delivered p r).idleAfter p r = true := by
    have seq (n : Conn) : (s.delivered p r).seq n = s.seq n :=
      congrArg (fun x : SequencerState => tget x.recs n) sequencer
    have sess (n : Conn) : (s.delivered p r).sess n = s.sess n := State.sess_congr sessions n
    simp [State.idleAfter, unpluggedA, unpluggedB, connsOf, seq, sess, idle .a, idle .b]
  show (((s.delivered p r).afterDelivery p r).ped p).link = .quiet
  rw [State.afterDelivery_active r there, if_pos rests, State.updPed_ped_same]

end reply

/-! ### The contact step by the contactor's state (R11 step 2) -/

/-- What a contact step does in a contactor state. -/
def State.contactStep (n : Conn) (r : ConnReport) (s : State) : ContactorState → State
  | .opened => s.replyOpened n r
  | .closing => s
  | .verifying => s.replyVerifying n r
  | .closed => s.replyClosed n r
  | .opening => s.replyOpening n r
  | .faulted => s
  | .locked => if r.contact = .opened then s else s.enterFaulted n .welded

theorem State.replyContact_of {n : Conn} {r : ConnReport} {s : State} {k : ContactorState}
    (h : (s.seq n).contactor = k) : s.replyContact n r = s.contactStep n r k := by
  unfold State.replyContact
  rw [h]
  cases k <;> rfl

/-- A re-close that has started is not tested again (R41, R46). -/
theorem State.testReclose_then_waits {n : Conn} {s u : State} {x : SeqRecord} (h : Closes n s u x) :
    Closes n s (u.testClose n) x := by
  rw [State.testClose_stays]
  · exact h
  · rintro ⟨⟨opened, -⟩, -⟩
    rw [h.2.2] at opened
    cases opened

/-- Settles O55. -/
theorem statusRepliesAreStoredAndDelivered : Obligations.StatusRepliesAreStoredAndDelivered := by
  refine ⟨?_, ?_, ?_⟩
  · intro s x p r hx ht hk hd fits
    have run := State.receive_status hx ht hk hd fits
    refine ⟨run, _, run, ?_⟩
    obtain ⟨kept, free, ⟨q, l, n, d, m, entry⟩, silent, others, away⟩ := State.afterDelivery_delivered p r s
    obtain ⟨-, poll, clock⟩ := s.delivered_rest p r
    rw [State.stored_ped] at entry
    refine ⟨kept, free, congrArg Pedestal.reportA entry, congrArg Pedestal.reportB entry,
      congrArg Pedestal.available entry, congrArg Pedestal.failCount entry, congrArg Pedestal.lastReply entry,
      congrArg Pedestal.resync entry, (congrArg Pedestal.checkFails entry).trans rfl, silent, fun active => ?_, others,
        away,
      fun active none_ ua ub ca cb idle => State.afterDelivery_idle active none_ ua ub ca cb idle⟩
    have polls := State.afterDelivery_polls r (s.delivered_active p r active)
    rw [poll, clock] at polls
    exact polls
  · intro s n r
    dsimp only
    have keeps : Keeps (atConn n) s (s.replyContact n r) := .replyContact r s (touches_atConn n)
    refine ⟨fun m hm => ⟨keeps.seq_of_ne hm, keeps.sess_of_ne hm, keeps.openSet_of_ne hm⟩,
      fun q hq => keeps.ped_of_ne hq, fun h => ?_, fun opened => ?_, fun verifying => ?_, fun closed => ?_,
      fun opening => ?_, fun locked => ?_⟩
    · unfold State.replyContact
      rcases h with h | h <;> rw [h]
    · have step : s.replyContact n r = s.replyOpened n r := State.replyContact_of opened
      rw [step]
      refine ⟨fun h => State.replyOpened_contact r h, fun h idle => ?_, fun h released => ?_⟩
      · rw [State.replyOpened_idle r h idle]
        exact ⟨fun may room => State.testClose_closes_from may room, fun not => State.testClose_stays not⟩
      · rw [State.replyOpened_released r h released]
        refine ⟨fun again room => ?_, fun stays not => ?_⟩
        · exact State.testReclose_then_waits (State.testReclose_closes r again room)
        · rw [State.testReclose_stays r stays,
            State.testClose_stays (mt (State.mayClose_rested opened).1 not)]
          rfl
    · have step : s.replyContact n r = s.replyVerifying n r := State.replyContact_of verifying
      have left : (s.seq n).contactor ≠ .opened := ContactorState.left verifying nofun
      have sound : (s.seq n).contactor ≠ .faulted := by rw [verifying]; nofun
      rw [step]
      refine ⟨fun d hd early => State.replyVerifying_waits r hd early, fun due => ?_⟩
      rw [State.replyVerifying_due r due]
      refine ⟨fun h other => ?_, fun h authorized k rev plan => ?_, fun bad last =>
        State.verifies_faults bad sound last,
        fun bad few => ⟨fun runs room => State.verifies_again bad few runs room,
          fun complete => State.verifies_complete bad left few complete, fun none_ =>
            State.verifies_nothing bad few none_⟩⟩
      · rw [State.verifies, if_pos h, State.enterClosed_again left other]
        rfl
      · rw [State.verifies, if_pos h]
        exact State.enterClosed_charges left authorized plan
    · have step : s.replyContact n r = s.replyClosed n r := State.replyContact_of closed
      have left : (s.seq n).contactor ≠ .opened := ContactorState.left closed nofun
      have sound : (s.seq n).contactor ≠ .faulted := by rw [closed]; nofun
      rw [step]
      refine ⟨fun bad => State.replyClosed_bad bad sound, fun good => ⟨fun rests long =>
        State.replyClosed_released good left rests long, fun rests short => ?_, fun busy =>
        State.replyClosed_busy good busy⟩⟩
      exact (State.replyClosed_rests good rests).trans (if_neg (not_le.2 short))
    · have step : s.replyContact n r = s.replyOpening n r := State.replyContact_of opening
      have left : (s.seq n).contactor ≠ .opened := ContactorState.left opening nofun
      have sound : (s.seq n).contactor ≠ .faulted := by rw [opening]; nofun
      rw [step]
      refine ⟨fun waits => State.replyOpening_waits waits, fun acked h => ⟨fun locks =>
        State.replyOpening_locks acked h locks left, fun locks other => State.replyOpening_stays acked h locks other,
        fun locks _ room => State.replyOpening_enters acked h locks room⟩,
          fun acked h => ⟨fun few => ?_, fun many => ?_⟩⟩
      · exact (State.replyOpening_still acked h).trans (if_neg (not_le.2 few))
      · rw [State.replyOpening_still acked h, if_pos many]
        exact State.enterFaulted_counted .welded sound
    · have step : s.replyContact n r = if r.contact = .opened then s else s.enterFaulted n .welded :=
        State.replyContact_of locked
      rw [step]
      refine ⟨fun h => if_pos h, fun h => ?_⟩
      rw [if_neg h]
      exact State.enterFaulted_faults .welded (by rw [locked]; nofun)
  · intro s n r unplugged t e
    have step (runs : (s.sess n).state = .charging ∨ (s.sess n).state = .complete) :
        t = (s.withSess n e).replyComplete n r := State.replySession_runs runs unplugged
    have entry : (s.withSess n e).sess n = e := State.withSess_sess s n e
    have present {k : SessionKind} (hk : (s.sess n).state = k) (he : k ≠ .empty) : e.state ≠ .empty := by
      show (s.sess n).state ≠ _
      rw [hk]; exact he
    refine ⟨fun charging complete k rev plan => ?_, fun complete other demand => ?_, fun stays => ?_⟩
    · have grace : (s.withSess n e).graceOf e = (s.plan k).contents.grace := by
        rw [State.graceOf, show e.plan = _ from plan]
        rfl
      rw [step (.inl charging), State.replyComplete, entry, if_pos ⟨charging, complete⟩, grace]
      exact State.withSess_pass e _ (present charging nofun)
    · have not_charging : ¬ (e.state = .charging ∧ r.complete = true) := fun h => by
        have : (s.sess n).state = .charging := h.1
        rw [complete] at this
        cases this
      rw [step (.inr complete), State.replyComplete, entry, if_neg not_charging,
        if_pos ⟨complete, by rw [other]; rfl, demand⟩]
      exact State.withSess_pass e _ (present complete nofun)
    · have runs : (s.sess n).state = .charging ∨ (s.sess n).state = .complete := by
        rcases stays with h | h
        · exact .inl h.1
        · exact .inr h.1
      rw [step runs, State.replyComplete, entry, if_neg, if_neg]
      · rintro ⟨complete, other, demand⟩
        rcases stays with ⟨charging, -⟩ | ⟨-, h | h⟩
        · rw [show (s.sess n).state = _ from complete] at charging; cases charging
        · rw [h] at other; cases other
        · omega
      · rintro ⟨charging, complete⟩
        rcases stays with ⟨-, h⟩ | ⟨h, -⟩
        · rw [h] at complete; cases complete
        · rw [show (s.sess n).state = _ from charging] at h; cases h

end Sys2Proof.Machine
end

section
/-! SUPPORT. Closes at once (R101, R102): what they leave of the closed session, of the settlement queue and of
everything
else. -/

namespace Sys2Proof.Machine

/-! ### Setpoints at rest through a pass -/

theorem State.pass_increaseSent_iff (s : State) (n : Conn) :
    (s.pass.setpoint n).state = .increaseSent ↔ (s.setpoint n).state = .increaseSent := by
  refine ⟨fun h => ?_, State.pass_increaseSent⟩
  by_cases away : s.linkOf n = .unreachable
  · rwa [(s.pass_stage.away n away).1] at h
  · rw [(s.pass_records n away).1] at h
    exact (s.passRecord n).placed_kept.2.2.2.1 h

/-- A setpoint record of no target and no grant, with nothing to send for it, at a contactor that is not live. -/
structure AtRest (n : Conn) (s : State) : Prop where
  target : (s.setpoint n).target = 0
  grant : (s.setpoint n).grant = 0
  hold : (s.setpoint n).holdExpiry = none
  inFlight : (s.setpoint n).inFlight = none
  state : (s.setpoint n).state = .steady
  dec : (s.slots n).decSet = false
  decValue : (s.slots n).decValue = 0
  live : (s.seq n).contactor.live = false

theorem SafetySlots.placed_zero {x : Setpoint} {y : SafetySlots} (grant : x.grant = 0) (dec : y.decSet = false) :
    y.placed x = y := by
  unfold SafetySlots.placed
  split
  · rfl
  · rw [grant, if_neg (Nat.not_lt_zero _), ← dec]

theorem AtRest.pass {n : Conn} {s : State} (h : AtRest n s) : AtRest n s.pass := by
  have stage := s.pass_stage
  obtain ⟨grant, hold, inFlight⟩ := stage.grant n
  have live : (s.pass.seq n).contactor.live = false := by rw [stage.seq]; exact h.live
  by_cases away : s.linkOf n = .unreachable
  · obtain ⟨setpoint, slots⟩ := stage.away n away
    exact ⟨by rw [setpoint, h.target], by rw [setpoint, h.grant], by rw [setpoint, h.hold], by rw [setpoint,
      h.inFlight],
      by rw [setpoint, h.state], by rw [slots, h.dec], by rw [slots, h.decValue], live⟩
  · obtain ⟨-, records, -⟩ := s.pass_passTaken
    obtain ⟨participant, -, -, zero, placed⟩ := records n (by rw [stage.linkOf]; exact away)
    have out : s.pass.participates n = false := by simp [State.participates, live]
    have target := zero (participant.trans out)
    have sent : (s.pass.setpoint n).state ≠ .increaseSent := by
      rw [ne_eq, s.pass_increaseSent_iff, h.state]; nofun
    obtain ⟨-, -, steady⟩ := placed.resolve_left sent
    have none_ : (s.pass.setpoint n).grant = 0 := grant.trans h.grant
    obtain ⟨state, -⟩ := steady (target.trans none_.symm)
    rw [none_, if_neg (by simp)] at state
    have record : (s.passRecord n).grant = 0 := by
      rw [(s.pass_records n away).1, Setpoint.placed_eq] at none_
      exact none_
    have slots : s.pass.slots n = s.slots n :=
      (s.pass_records n away).2.trans (SafetySlots.placed_zero record h.dec)
    exact ⟨target, none_, hold.trans h.hold, inFlight.trans h.inFlight, state, by rw [slots, h.dec],
      by rw [slots, h.decValue], live⟩

theorem AtRest.congr {n : Conn} {s t : State} (h : AtRest n s) (alloc : t.alloc = s.alloc) (line : t.line = s.line)
    (sequencer : t.sequencer = s.sequencer) : AtRest n t := by
  have setpoint : t.setpoint n = s.setpoint n := by rw [State.setpoint, alloc, State.setpoint]
  have slots : t.slots n = s.slots n := by rw [State.slots, line, State.slots]
  have seq : t.seq n = s.seq n := by rw [State.seq, sequencer, State.seq]
  obtain ⟨h1, h2, h3, h4, h5, h6, h7, h8⟩ := h
  exact ⟨setpoint ▸ h1, setpoint ▸ h2, setpoint ▸ h3, setpoint ▸ h4, setpoint ▸ h5, slots ▸ h6, slots ▸ h7, seq ▸ h8⟩

/-! ### What the end of a session leaves alone -/

/-- What the end of sessions leaves alone: everything of the line but the decrease slots, and of each setpoint record
what
only its transactions change. -/
structure Ending (s t : State) : Prop where
  blocks : SameBut [.line, .auth, .sessions, .tariff, .alloc, .settlement, .uplink] s t
  line : t.line = { s.line with slots := t.line.slots }
  openSet : ∀ m, (t.slots m).openSet = (s.slots m).openSet
  alloc : t.alloc = { s.alloc with
    setpoints := t.alloc.setpoints, configs := t.alloc.configs, available := t.alloc.available }
  config : ∀ p, t.config p = { s.config p with limitUsed := (t.config p).limitUsed }
  record : ∀ m, (t.setpoint m).grant = (s.setpoint m).grant ∧ (t.setpoint m).holdExpiry = (s.setpoint m).holdExpiry ∧
    (t.setpoint m).inFlight = (s.setpoint m).inFlight ∧
    ((t.setpoint m).state = .increaseSent ↔ (s.setpoint m).state = .increaseSent)
  rest : ∀ m, AtRest m s → AtRest m t

theorem Ending.refl (s : State) : Ending s s :=
  ⟨.refl _ s, rfl, fun _ => rfl, rfl, fun _ => rfl, fun _ => ⟨rfl, rfl, rfl, Iff.rfl⟩, fun _ h => h⟩

theorem Ending.trans {s t u : State} (h : Ending s t) (g : Ending t u) : Ending s u where
  blocks := h.blocks.trans g.blocks
  line := by rw [g.line, h.line]
  openSet m := (g.openSet m).trans (h.openSet m)
  alloc := by rw [g.alloc, h.alloc]
  config p := by rw [g.config, h.config]
  record m := by
    obtain ⟨a, b, c, d⟩ := h.record m
    obtain ⟨a', b', c', d'⟩ := g.record m
    exact ⟨a'.trans a, b'.trans b, c'.trans c, d'.trans d⟩
  rest m x := g.rest m (h.rest m x)

/-- The end of a session that leaves line, setpoints and contactors alone. -/
theorem Ending.of_blocks {s t : State} (h : SameBut [.auth, .sessions, .tariff, .settlement, .uplink] s t) :
    Ending s t := by
  have line : t.line = s.line := h .line (by simp)
  have alloc : t.alloc = s.alloc := h .alloc (by simp)
  have setpoint (m : Conn) : t.setpoint m = s.setpoint m := by rw [State.setpoint, alloc, State.setpoint]
  have config (p : Ped) : t.config p = s.config p := by rw [State.config, alloc, State.config]
  exact ⟨h.mono (by simp), by rw [line], fun m => by rw [State.slots, line, State.slots], by rw [alloc],
    fun p => by rw [config], fun m => by rw [setpoint]; exact ⟨rfl, rfl, rfl, Iff.rfl⟩,
    fun m x => x.congr alloc line (h .sequencer (by simp))⟩

theorem Ending.pass (s : State) : Ending s s.pass where
  blocks := s.pass_stage.blocks.mono (by simp)
  line := s.pass_stage.line
  openSet := s.pass_stage.openSet
  alloc := s.pass_stage.alloc
  config := s.pass_stage.config
  record m := by
    obtain ⟨a, b, c⟩ := s.pass_stage.grant m
    exact ⟨a, b, c, s.pass_increaseSent_iff m⟩
  rest _ h := h.pass

theorem State.closeEntry_kept (n : Conn) (s : State) (ho : (s.sess n).state ≠ .empty) :
    SameBut [.sessions, .tariff, .settlement, .uplink] s (s.closeEntry n) := by
  by_cases room : s.settlement.records.length < 96
  · rw [State.closeEntry_of_room n s room]
    intro b hb
    cases b with
    | sessions | tariff | settlement | uplink => simp at hb
    | _ => simp [SameAt]
  · rw [State.closeEntry_of_full n s (by omega) ho]
    intro b hb
    cases b with
    | sessions | tariff | settlement | uplink => simp at hb
    | _ => simp [SameAt, State.waits]

theorem Ending.closeSession (n : Conn) (s : State) (ho : (s.sess n).state ≠ .empty) : Ending s (s.closeSession n) := by
  have entry : Ending s (s.closeEntry n) := .of_blocks ((s.closeEntry_kept n ho).mono (by simp))
  rw [State.closeSession_eq]
  split
  · exact entry.trans (.pass _)
  · exact entry

/-! ### A close at once (R101, R102) -/

/-- A session entry as it is closed at once. -/
def Session.endedBy (why : EndReason) (lost : Bool) (e : Session) : Session :=
  { e with
    endReason := if e.state = .stopping then e.endReason else some why
    flags := addFlagIf lost .linkLost e.flags }

/-- Whether a session state is ended with a record by a close at once. -/
def SessionKind.closes (k : SessionKind) : Prop := k.open_ ∨ k = .stopping

/-- Where the record of a closed session goes (R95, R96, R162 to R164). -/
def RecordJoined (r : BuiltRecord) (n : Conn) (s t : State) : Prop :=
  (s.settlement.records.length < 96 ∧ t.sess n = Session.initial ∧ t.sessions.waiting = s.sessions.waiting ∧
    t.settlement = ⟨s.settlement.records ++ [⟨s.settlement.nextSequence, r⟩], nextSequence s.settlement.nextSequence,
      if s.settlement.records.length = 0 then false else s.settlement.readMark⟩ ∧
    t.uplink = (if s.settlement.records.length = 0 then s.uplink.withRaised .settlementReady
      else if s.settlement.records.length = 95 then s.uplink.withRaised .queueFull else s.uplink)) ∨
  (96 ≤ s.settlement.records.length ∧ (t.sess n).state = .closed ∧ (t.sess n).record = some r ∧
    (t.sess n).endReason = r.endReason ∧ (t.sess n).plan = none ∧ t.sessions.waiting = s.sessions.waiting ++ [n] ∧
    t.settlement = s.settlement ∧ t.uplink = s.uplink)

/-- What a close at once leaves of connector n's session: a record of it, and the place of that record. -/
def EndedWith (why : EndReason) (lost : Bool) (n : Conn) (s t : State) : Prop :=
  ∃ r : BuiltRecord, RecordJoined r n s t ∧ r.conn = n ∧ r.token = (s.sess n).token ∧
    r.energyTotal = min (s.sess n).energyTotal 4294967295 ∧
    r.endReason = (if (s.sess n).state = .stopping then (s.sess n).endReason else some why) ∧
    hasFlag .linkLost r.flags = (hasFlag .linkLost (s.sess n).flags || lost)

theorem State.closeEntry_joined (n : Conn) (s : State) (ho : (s.sess n).state ≠ .empty) :
    RecordJoined (s.builtRecord n (s.sess n)) n s (s.closeEntry n) := by
  obtain ⟨-, -, -, room, full⟩ := State.closeEntry_leaves n s ho
  by_cases h : s.settlement.records.length < 96
  · obtain ⟨sess, waiting⟩ := room h
    have appended : (s.closeEntry n).settlement = ((s.releasePlan (s.sess n)).appendRecord
        (s.builtRecord n (s.sess n))).settlement ∧ (s.closeEntry n).uplink =
        ((s.releasePlan (s.sess n)).appendRecord (s.builtRecord n (s.sess n))).uplink := by
      rw [State.closeEntry_of_room n s h]
      exact ⟨rfl, rfl⟩
    refine .inl ⟨h, sess, waiting, ?_, ?_⟩
    · rw [appended.1, State.appendRecord_settlement, State.releasePlan_settlement]
    · rw [appended.2, State.appendRecord_uplink, State.releasePlan_settlement, State.releasePlan_uplink]
  · obtain ⟨sess, waiting, settlement⟩ := full (by omega)
    refine .inr ⟨by omega, by rw [sess]; rfl, by rw [sess]; rfl, by rw [sess]; rfl, by rw [sess]; rfl, waiting,
      settlement, ?_⟩
    rw [State.closeEntry_of_full n s (by omega) ho]
    exact State.releasePlan_uplink _ s

theorem RecordJoined.congr {r : BuiltRecord} {n : Conn} {s s' t t' : State} (h : RecordJoined r n s t)
    (settlement : s'.settlement = s.settlement) (uplink : s'.uplink = s.uplink)
    (waiting : s'.sessions.waiting = s.sessions.waiting) (sessions' : t'.sessions = t.sessions)
    (settlement' : t'.settlement = t.settlement) (uplink' : t'.uplink = t.uplink) : RecordJoined r n s' t' := by
  have sess' : t'.sess n = t.sess n := State.sess_congr sessions' n
  simp only [RecordJoined, settlement, uplink, waiting, sess', sessions', settlement', uplink']
  exact h

theorem State.closeSession_joined (n : Conn) (s : State) (ho : (s.sess n).state ≠ .empty) :
    RecordJoined (s.builtRecord n (s.sess n)) n s (s.closeSession n) := by
  have joined := State.closeEntry_joined n s ho
  rw [State.closeSession_eq]
  split
  · exact joined.congr rfl rfl rfl (State.pass_sessions _) (State.pass_settlement _) (State.pass_uplink _)
  · exact joined

theorem hasFlag_addFlagIf_same (c : Bool) (f : SessionFlag) (fs : SessionFlags) :
    hasFlag f (addFlagIf c f fs) = (hasFlag f fs || c) := by
  have bit : f.bit < 8 := by cases f <;> decide
  cases c with
  | false => exact (Bool.or_false _).symm
  | true =>
    show (fs ||| BitVec.twoPow 8 f.bit).getLsbD f.bit = _
    rw [BitVec.getLsbD_or, BitVec.getLsbD_twoPow]
    simp [bit]

theorem State.closeAtOnce_of_idle {why : EndReason} {lost : Bool} {n : Conn} {s : State}
    (h : ¬ (s.sess n).state.closes) : s.closeAtOnce why lost n = s := by
  unfold State.closeAtOnce
  cases hk : (s.sess n).state with
  | empty | awaitingAuth | closed => rfl
  | authorized => exact absurd (.inl (.inl hk)) h
  | charging => exact absurd (.inl (.inr (.inl hk))) h
  | complete => exact absurd (.inl (.inr (.inr hk))) h
  | stopping => exact absurd (.inr hk) h

section closes

variable {n : Conn} {s : State} (why : EndReason) (lost : Bool) (h : (s.sess n).state.closes)

include h

theorem SessionKind.closes.not_empty : (s.sess n).state ≠ .empty := by
  rcases h with (h | h | h) | h <;> rw [h] <;> nofun

theorem State.closeAtOnce_eq :
    s.closeAtOnce why lost n = (s.withSess n ((s.sess n).endedBy why lost)).closeSession n := by
  unfold State.closeAtOnce
  rcases h with (h | h | h) | h
  iterate 3
    rw [h]
    refine congrArg (State.closeSession n) (congrArg (s.withSess n) ?_)
    rw [Session.endedBy, if_neg (by rw [h]; nofun)]
  rw [h]
  refine congrArg (State.closeSession n) (congrArg (s.withSess n) ?_)
  rw [Session.endedBy, if_pos h]

/-- What a close at once leaves. -/
theorem State.closeAtOnce_ended : Ending s (s.closeAtOnce why lost n) ∧ EndedWith why lost n s
    (s.closeAtOnce why lost n) ∧
    (s.closeAtOnce why lost n).auth = s.auth ∧ ∀ m, m ≠ n → (s.closeAtOnce why lost n).sess m = s.sess m := by
  have there := h.not_empty
  have entry : (s.withSess n ((s.sess n).endedBy why lost)).sess n = (s.sess n).endedBy why lost :=
    State.withSess_sess s n _
  have before : SameBut [.auth, .sessions, .tariff, .settlement, .uplink] s
      (s.withSess n ((s.sess n).endedBy why lost)) := by
    intro b hb
    cases b with
    | auth | sessions | tariff | settlement | uplink => simp at hb
    | _ => rfl
  have others (m : Conn) (hm : m ≠ n) : (s.withSess n ((s.sess n).endedBy why lost)).sess m = s.sess m :=
    tget_tset_of_ne _ _ _ _ hm
  have blocks : (s.withSess n ((s.sess n).endedBy why lost)).settlement = s.settlement ∧
      (s.withSess n ((s.sess n).endedBy why lost)).uplink = s.uplink ∧
      (s.withSess n ((s.sess n).endedBy why lost)).auth = s.auth ∧
      (s.withSess n ((s.sess n).endedBy why lost)).sessions.waiting = s.sessions.waiting := ⟨rfl, rfl, rfl, rfl⟩
  rw [State.closeAtOnce_eq why lost h]
  generalize s.withSess n ((s.sess n).endedBy why lost) = u at entry before others blocks
  obtain ⟨settlement, uplink, auth, waiting⟩ := blocks
  have open_ : (u.sess n).state ≠ .empty := by rw [entry]; exact there
  have joined := State.closeSession_joined n u open_
  rw [entry] at joined
  refine ⟨(Ending.of_blocks before).trans (.closeSession n u open_), ⟨_, joined.congr settlement.symm uplink.symm
    waiting.symm rfl rfl rfl, rfl, rfl, rfl, rfl, ?_⟩, ?_, fun m hm => ?_⟩
  · refine (hasFlag_addFlagIf_of_ne _ _ _ _ (by decide)).trans ((hasFlag_addFlagIf_of_ne _ _ _ _ (by decide)).trans ?_)
    exact hasFlag_addFlagIf_same lost .linkLost _
  · rw [State.closeSession_auth, auth]
  · rw [State.closeSession_sess_of_ne u open_ hm, others m hm]

end closes

end Sys2Proof.Machine
end

section
/-! PROOF. CLEAR_PEDESTAL. -/

namespace Sys2Proof.Machine

/-! ### The Line Controller's part -/

theorem State.clearLine_eq (p : Ped) (s : State) : s.clearLine p = { s with line := { s.line with
    inflight := s.line.inflight.map (discardedBy (· == p))
    peds := tset s.line.peds p
      { s.ped p with queue := [⟨.clear, .lineController⟩], checkFails := 0, disposition := .none }
    slots := tset (tset s.line.slots (connOf p .a) SafetySlots.initial) (connOf p .b) SafetySlots.initial } } := by
  rw [State.clearLine, State.discardInflight_eq]
  refine (congrArg (fun x => { s with line := { s.line with
    inflight := s.line.inflight.map (discardedBy (· == p))
    peds := x
    slots := tset (tset s.line.slots (connOf p .a) SafetySlots.initial) (connOf p .b) SafetySlots.initial } })
    (tset_tset s.line.peds p _ _)).trans ?_
  refine congrArg (fun x => { s with line := { s.line with
    inflight := s.line.inflight.map (discardedBy (· == p))
    peds := tset s.line.peds p x
    slots := tset (tset s.line.slots (connOf p .a) SafetySlots.initial) (connOf p .b) SafetySlots.initial } }) ?_
  exact congrArg (fun x : Pedestal => { x with queue := x.queue ++ [(⟨.clear, .lineController⟩ : QueueEntry)] })
    (tget_tset_same s.line.peds p
      { s.ped p with queue := [], checkFails := 0, disposition := .none })

/-- What CLEAR_PEDESTAL leaves of the line and the counts. -/
structure LineCleared (p : Ped) (s t : State) : Prop where
  blocks : SameBut [.line, .classifier] s t
  ped : t.ped p = { s.ped p with queue := [⟨.clear, .lineController⟩], checkFails := 0, disposition := .none }
  counts : t.counts p = ⟨0, 0, 0⟩
  others : ∀ q, q ≠ p → t.ped q = s.ped q ∧ t.counts q = s.counts q
  slots : ∀ n, t.slots n = if pedOf n = p then SafetySlots.initial else s.slots n
  inflight : t.line.inflight = s.line.inflight.map (discardedBy (· == p))

theorem State.clearLine_cleared (p : Ped) (s : State) :
    LineCleared p s ((s.clearLine p).updCounts p fun _ => ⟨0, 0, 0⟩) := by
  have slots (n : Conn) := tget_both s.line.slots p SafetySlots.initial n
  rw [State.clearLine_eq]
  refine ⟨fun b hb => ?_, tget_tset_same .., tget_tset_same .., fun q hq =>
    ⟨tget_tset_of_ne _ _ _ _ hq, tget_tset_of_ne _ _ _ _ hq⟩, slots, rfl⟩
  cases b with
  | line | classifier => simp at hb
  | _ => rfl

/-! ### The Connector Sequencer's part -/

/-- A connector record as a pedestal clear leaves it (R57). -/
def SeqRecord.cleared (r : SeqRecord) : SeqRecord :=
  { r with
    contactor := if r.contactor = .locked then .locked else if r.locks = ⟨false, false⟩ then .opened else .opening
    fault := none
    attempt := 1
    openPending := false
    openAcked := false
    released := false
    settleDeadline := none
    idleCount := 0
    restCount := 0
    repliesSinceOpen := 0 }

theorem SeqRecord.cleared_not_live (r : SeqRecord) : r.cleared.contactor.live = false := by
  simp only [SeqRecord.cleared]
  split
  · rfl
  · split <;> rfl

/-- An in-flight record that stands, or has its slot set again. -/
def FlightStands (a b : Option Txn) : Prop := b = a ∨ ∃ x, a = some x ∧ b = some { x with setAgain := true }

theorem FlightStands.trans {a b c : Option Txn} (h : FlightStands a b) (g : FlightStands b c) : FlightStands a c := by
  rcases h with rfl | ⟨x, rfl, rfl⟩
  · exact g
  · rcases g with rfl | ⟨y, same, rfl⟩
    · exact .inr ⟨x, rfl, rfl⟩
    · cases same
      exact .inr ⟨x, rfl, rfl⟩

theorem State.setOpenSlot_flight (n : Conn) (s : State) : FlightStands s.line.inflight
    (s.setOpenSlot n).line.inflight := by
  unfold State.setOpenSlot
  dsimp only
  split
  next x h =>
    split
    · exact .inr ⟨x, h, rfl⟩
    · exact .inl rfl
  next => exact .inl rfl

/-- What the reset of a connector leaves at a pedestal in whose queue no CLOSE of it waits. -/
structure ConnectorCleared (n : Conn) (s t : State) : Prop where
  blocks : SameBut [.line, .sequencer] s t
  peds : ∀ q, t.ped q = s.ped q
  seq : t.seq n = (s.seq n).cleared
  seqs : ∀ m, m ≠ n → t.seq m = s.seq m
  slots : t.slots n =
    if (s.seq n).cleared.contactor = .opening then { s.slots n with openSet := true } else s.slots n
  slotsOf : ∀ m, m ≠ n → t.slots m = s.slots m
  flight : FlightStands s.line.inflight t.line.inflight

theorem State.setOpenSlot_ped_of_quiet {n : Conn} {s : State}
    (quiet : (s.ped (pedOf n)).queue.filter (fun e => !e.isClose n) = (s.ped (pedOf n)).queue) (q : Ped) :
    (s.setOpenSlot n).ped q = s.ped q := by
  rw [State.setOpenSlot_ped]
  split
  next h => rw [h, quiet]
  next => rfl

theorem State.withSeq_self (s : State) (n : Conn) : s.withSeq n (s.seq n) = s := by
  have same : tset s.sequencer.recs n (s.seq n) = s.sequencer.recs := tset_tget_self s.sequencer.recs n
  rw [State.withSeq, same]

theorem State.clearConnector_cleared {n : Conn} {s : State}
    (quiet : (s.ped (pedOf n)).queue.filter (fun e => !e.isClose n) = (s.ped (pedOf n)).queue)
    (unlocked : (s.seq n).contactor = .opened → (s.seq n).locks = ⟨false, false⟩) :
    ConnectorCleared n s (s.clearConnector n) := by
  have cleared := SeqRecord.cleared.eq_def (s.seq n)
  have still (w : State) (line : w.line = s.line) (x : SeqRecord) (whole : w = s.withSeq n x)
      (is : x = (s.seq n).cleared) (closed : x.contactor ≠ .opening) : ConnectorCleared n s w := by
    subst whole is
    refine ⟨fun b hb => ?_, fun _ => rfl, State.withSeq_seq _ _ _, fun m hm => tget_tset_of_ne _ _ _ _ hm,
      (if_neg closed).symm, fun _ _ => rfl, .inl rfl⟩
    cases b with
    | line | sequencer => simp at hb
    | _ => rfl
  unfold State.clearConnector
  dsimp only
  rw [State.updSeq_eq_withSeq, State.withSeq_seq]
  by_cases locked : (s.seq n).contactor = .locked
  · rw [if_pos locked]
    rw [if_pos locked] at cleared
    refine still _ rfl _ rfl ?_ (by dsimp only; rw [locked]; nofun)
    rw [cleared, ← locked]
  · rw [if_neg locked]
    rw [if_neg locked] at cleared
    by_cases free : (s.seq n).locks = ⟨false, false⟩
    · rw [if_pos ((Locks.isEmpty_iff _).2 free), State.setContactor_opened, State.withSeq_seq, State.withSeq_withSeq]
      rw [if_pos free] at cleared
      exact still _ rfl _ rfl cleared.symm nofun
    · rw [if_neg (fun h => free ((Locks.isEmpty_iff _).1 h))]
      rw [if_neg free] at cleared
      have left : (s.seq n).contactor ≠ .opened := fun h => free (unlocked h)
      generalize hw : s.withSeq n _ = w
      have ped (q : Ped) : w.ped q = s.ped q := by rw [← hw]; rfl
      have record : w.seq n = { (s.seq n).cleared with contactor := (s.seq n).contactor } := by
        rw [← hw, State.withSeq_seq, cleared]
      have others (m : Conn) (hm : m ≠ n) : w.seq m = s.seq m := by rw [← hw]; exact tget_tset_of_ne _ _ _ _ hm
      have slots (m : Conn) : w.slots m = s.slots m := by rw [← hw]; rfl
      have flight : w.line.inflight = s.line.inflight := by rw [← hw]; rfl
      have kept : SameBut [.line, .sequencer] s w := by
        rw [← hw]
        intro b hb
        cases b with
        | line | sequencer => simp at hb
        | _ => rfl
      clear hw
      obtain ⟨same, seq, -, slotsOf⟩ := State.setOpenSlot_enterOpening n w
      have opens : (s.seq n).cleared.contactor = .opening := by rw [cleared]
      have entered : (w.setOpenSlot n).enterOpening n = (w.setOpenSlot n).withSeq n (w.seq n).toOpening := by
        have from_ : (w.setOpenSlot n).withSeq n (w.seq n) = w.setOpenSlot n := by
          rw [← State.setOpenSlot_seq n n w, State.withSeq_self]
        have into := State.withSeq_enterOpening (n := n) (s := w.setOpenSlot n) (x := w.seq n)
          (by rw [record]; exact left)
        rw [from_] at into
        exact into
      have line : ((w.setOpenSlot n).enterOpening n).line = (w.setOpenSlot n).line := by rw [entered]; rfl
      refine ⟨kept.trans same, fun q => ?_, ?_, fun m hm => ?_, ?_, fun m hm => (slotsOf m hm).trans (slots m), ?_⟩
      · rw [State.ped, line]
        refine (State.setOpenSlot_ped_of_quiet ?_ q).trans (ped q)
        rw [ped]
        exact quiet
      · rw [seq, record, cleared]
        rfl
      · rw [State.enterOpening_seq, if_neg hm, State.setOpenSlot_seq, others m hm]
      · rw [if_pos opens, State.slots, line, ← slots n]
        exact (State.setOpenSlot_slots n n w).trans (if_pos rfl)
      · rw [line, ← flight]
        exact State.setOpenSlot_flight n w

/-! ### The Session Table's part -/

/-- A settlement record of a session that a pedestal clear ended at connector n. -/
structure ClearedRecord (n : Conn) (s : State) (r : Settlement) : Prop where
  conn : r.body.conn = n
  closes : (s.sess n).state.closes
  token : r.body.token = (s.sess n).token
  energy : r.body.energyTotal = min (s.sess n).energyTotal 4294967295
  reason : r.body.endReason = if (s.sess n).state = .stopping then (s.sess n).endReason else some .pedestalClear

/-- What a pedestal clear leaves of connector n's session (R73, R102). -/
structure SessionCleared (n : Conn) (s t : State) : Prop where
  idle : (s.sess n).state = .empty ∨ (s.sess n).state = .closed → t.sess n = s.sess n
  withdrawn : (s.sess n).state = .awaitingAuth → t.sess n = Session.initial ∧ ∀ h ∈ t.auth.held, h.conn ≠ n
  ended : (s.sess n).state.closes → t.sess n = Session.initial ∨
    ((t.sess n).state = .closed ∧ n ∈ t.sessions.waiting ∧
      ((s.sess n).state.open_ → (t.sess n).endReason = some .pedestalClear))

/-- The records of a list that sessions ended at connector n have left. -/
structure RecordsOf (n : Conn) (s t : State) (more : List Settlement) : Prop where
  once : (more.map (·.body.conn)).Nodup
  each : ∀ r ∈ more, ClearedRecord n s r ∧ t.sess n = Session.initial
  all : (s.sess n).state.closes → t.sess n = Session.initial → ∃ r ∈ more, r.body.conn = n

/-- One session's part of a pedestal clear. -/
structure SessionStep (n : Conn) (s t : State) : Prop where
  ending : Ending s t
  others : ∀ m, m ≠ n → t.sess m = s.sess m
  held : ∀ h ∈ t.auth.held, h ∈ s.auth.held
  waiting : ∀ m ∈ s.sessions.waiting, m ∈ t.sessions.waiting
  cleared : SessionCleared n s t
  records : ∃ more, t.settlement.records = s.settlement.records ++ more ∧ RecordsOf n s t more

/-- A step that leaves no record, at a session that needs none. -/
theorem SessionStep.of_quiet {n : Conn} {s t : State} (ending : Ending s t) (others : ∀ m, m ≠ n → t.sess m = s.sess m)
    (held : ∀ h ∈ t.auth.held, h ∈ s.auth.held) (waiting : t.sessions.waiting = s.sessions.waiting)
    (settlement : t.settlement = s.settlement) (cleared : SessionCleared n s t) (quiet : ¬ (s.sess n).state.closes) :
    SessionStep n s t :=
  ⟨ending, others, held, fun m hm => by rw [waiting]; exact hm, cleared, [], by rw [settlement, List.append_nil],
    List.nodup_nil, fun r hr => absurd hr List.not_mem_nil, fun h => absurd h quiet⟩

theorem State.withdraw_waiting (n : Conn) (s : State) : (s.withdraw n).sessions.waiting = s.sessions.waiting := by
  unfold State.withdraw
  dsimp only
  rw [State.setSess_to_empty n _ _ rfl]
  split
  · rfl
  · rfl

theorem State.clearSession_step (n : Conn) (s : State) : SessionStep n s (s.clearSession n) := by
  unfold State.clearSession
  by_cases awaiting : (s.sess n).state = .awaitingAuth
  · rw [if_pos awaiting]
    have away : ¬ (s.sess n).state.closes := by rw [awaiting]; rintro ((h | h | h) | h) <;> cases h
    refine .of_quiet (.of_blocks ((s.withdraw_kept n).mono (by simp))) (fun m hm => ?_) (fun h hh => ?_)
      (s.withdraw_waiting n) (s.withdraw_kept n .settlement (by simp)) ⟨?_, fun _ => ⟨?_, fun h hh => ?_⟩, ?_⟩ away
    · exact (State.withdraw_sess n m s).trans (if_neg hm)
    · rw [State.withdraw_auth_held] at hh
      exact (List.mem_filter.1 hh).1
    · rw [awaiting]
      rintro (h | h) <;> cases h
    · exact (State.withdraw_sess n n s).trans (if_pos rfl)
    · rw [State.withdraw_auth_held] at hh
      simpa using (List.mem_filter.1 hh).2
    · exact fun h => absurd h away
  · rw [if_neg awaiting]
    by_cases closes : (s.sess n).state.closes
    · obtain ⟨ending, ⟨r, joined, conn, token, energy, reason, -⟩, auth, others⟩ :=
        State.closeAtOnce_ended .pedestalClear (s.linkLost n) closes
      generalize s.closeAtOnce .pedestalClear (s.linkLost n) n = t at ending joined auth others
      have held (h : HeldEntry) (hh : h ∈ t.auth.held) : h ∈ s.auth.held := by rw [← auth]; exact hh
      have busy : ¬ ((s.sess n).state = .empty ∨ (s.sess n).state = .closed) := by
        rcases closes with (h | h | h) | h <;> rw [h] <;> rintro (h | h) <;> cases h
      rcases joined with ⟨-, sess, waiting, settlement, -⟩ | ⟨-, closed, -, why, -, waiting, settlement, -⟩
      · refine ⟨ending, others, held, fun m hm => by rw [waiting]; exact hm,
          ⟨fun h => absurd h busy, fun h => absurd h awaiting, fun _ => .inl sess⟩, _, by rw [settlement], ?_, ?_, ?_⟩
        · exact List.pairwise_singleton _ _
        · intro x hx
          rw [List.mem_singleton.1 hx]
          exact ⟨⟨conn, closes, token, energy, reason⟩, sess⟩
        · exact fun _ _ => ⟨_, List.mem_singleton.2 rfl, conn⟩
      · have not : t.sess n ≠ Session.initial := fun h => by rw [h] at closed; cases closed
        refine ⟨ending, others, held, fun m hm => by rw [waiting]; exact List.mem_append_left _ hm,
          ⟨fun h => absurd h busy, fun h => absurd h awaiting, fun _ => .inr ⟨closed, ?_, fun open_ => ?_⟩⟩, [],
          by rw [settlement, List.append_nil], List.nodup_nil, fun r hr => absurd hr List.not_mem_nil,
          fun _ h => absurd h not⟩
        · rw [waiting]
          exact List.mem_append_right _ (List.mem_singleton.2 rfl)
        · rw [why, reason, if_neg]
          rcases open_ with h | h | h <;> rw [h] <;> nofun
    · rw [State.closeAtOnce_of_idle closes]
      exact .of_quiet (.refl s) (fun _ _ => rfl) (fun _ h => h) rfl rfl
        ⟨fun _ => rfl, fun h => absurd h awaiting, fun h => absurd h closes⟩ closes

/-! ### The whole clear -/

/-- What a pedestal clear of p leaves before its sessions end. -/
structure PedestalReset (p : Ped) (s t : State) : Prop where
  blocks : SameBut [.line, .classifier, .sequencer, .alloc] s t
  ped : t.ped p = { s.ped p with queue := [⟨.clear, .lineController⟩], checkFails := 0, disposition := .none }
  counts : t.counts p = ⟨0, 0, 0⟩
  others : ∀ q, q ≠ p → t.ped q = s.ped q ∧ t.counts q = s.counts q
  flight : FlightStands (s.line.inflight.map (discardedBy (· == p))) t.line.inflight
  seq : ∀ x, t.seq (connOf p x) = (s.seq (connOf p x)).cleared
  slots : ∀ x, t.slots (connOf p x) =
    ⟨Decidable.decide ((s.seq (connOf p x)).cleared.contactor = .opening), false, 0⟩
  rest : ∀ x, AtRest (connOf p x) t
  away : ∀ n, pedOf n ≠ p → t.seq n = s.seq n ∧ t.slots n = s.slots n ∧ t.setpoint n = s.setpoint n

/-- A setpoint record as a pedestal clear leaves it (R160). -/
def Setpoint.cleared (x : Setpoint) : Setpoint :=
  { x with target := 0, grant := 0, holdExpiry := none, state := .steady, participant := false, inFlight := none }

theorem State.clearSetpoint_setpoint (n m : Conn) (s : State) :
    (s.clearSetpoint n).setpoint m = if m = n then (s.setpoint n).cleared else s.setpoint m := by
  rw [State.clearSetpoint, State.updSetpoint_setpoint]
  rfl

/-- The record of a slot as it stands after a pedestal clear. -/
theorem cleared_slots (c : ContactorState) :
    (if c = .opening then { SafetySlots.initial with openSet := true } else SafetySlots.initial) =
      ⟨Decidable.decide (c = .opening), false, 0⟩ := by
  cases c <;> rfl

/-- The state that CLEAR_PEDESTAL leaves before its sessions end. -/
def State.resetPed (p : Ped) (s : State) : State :=
  ((((((s.clearLine p).updCounts p fun _ => ⟨0, 0, 0⟩).clearConnector (connOf p .a)).clearConnector
    (connOf p .b)).clearSetpoint (connOf p .a)).clearSetpoint (connOf p .b))

theorem State.clearPed_eq (p : Ped) (s : State) :
    s.clearPed p = ((s.resetPed p).clearSession (connOf p .a)).clearSession (connOf p .b) := rfl

theorem State.resetPed_reset (p : Ped) {s : State} (unlocked : s.OpenUnlocked) : PedestalReset p s (s.resetPed p) := by
  obtain ⟨ab, ba⟩ := connOf_ne p
  have line := s.clearLine_cleared p
  unfold State.resetPed
  generalize (s.clearLine p).updCounts p (fun _ => ⟨0, 0, 0⟩) = u at line
  have quiet (x : Letter) (w : State) (same : w.ped p = u.ped p) :
      (w.ped (pedOf (connOf p x))).queue.filter (fun e => !e.isClose (connOf p x)) =
        (w.ped (pedOf (connOf p x))).queue := by
    rw [pedOf_connOf, same, line.ped]
    rfl
  have seqU (n : Conn) : u.seq n = s.seq n := by rw [State.seq, line.blocks .sequencer (by simp), State.seq]
  have setpointU (n : Conn) : u.setpoint n = s.setpoint n := by
    rw [State.setpoint, line.blocks .alloc (by simp), State.setpoint]
  have a := State.clearConnector_cleared (quiet .a u rfl) (fun h => by rw [seqU] at h ⊢; exact unlocked _ h)
  generalize u.clearConnector (connOf p .a) = v at a
  have seqV : v.seq (connOf p .b) = s.seq (connOf p .b) := (a.seqs _ ba).trans (seqU _)
  have b := State.clearConnector_cleared (quiet .b v (a.peds p)) (fun h => by rw [seqV] at h ⊢; exact unlocked _ h)
  generalize v.clearConnector (connOf p .b) = w at b
  have alloc : SameBut [.alloc] w ((w.clearSetpoint (connOf p .a)).clearSetpoint (connOf p .b)) := by
    intro b hb
    cases b with
    | alloc => simp at hb
    | _ => rfl
  have setpoint (n : Conn) : ((w.clearSetpoint (connOf p .a)).clearSetpoint (connOf p .b)).setpoint n =
      if pedOf n = p then (w.setpoint n).cleared else w.setpoint n := by
    rw [State.clearSetpoint_setpoint, State.clearSetpoint_setpoint, State.clearSetpoint_setpoint]
    by_cases own : pedOf n = p
    · rw [if_pos own]
      cases hl : letterOf n with
      | a =>
        have e : n = connOf p .a := by rw [← own, ← hl, connOf_letterOf]
        rw [if_neg (by rw [e]; exact ab), if_pos e, e]
      | b =>
        have e : n = connOf p .b := by rw [← own, ← hl, connOf_letterOf]
        rw [if_pos e, if_neg ba, e]
    · rw [if_neg own, if_neg (fun e => own (by rw [e, pedOf_connOf])), if_neg (fun e => own (by rw [e, pedOf_connOf]))]
  generalize (w.clearSetpoint (connOf p .a)).clearSetpoint (connOf p .b) = t at alloc setpoint
  have lineT : t.line = w.line := alloc .line (by simp)
  have pedT (q : Ped) : t.ped q = u.ped q := by
    rw [State.ped, lineT]
    exact (b.peds q).trans (a.peds q)
  have seqT (n : Conn) : t.seq n = w.seq n := by rw [State.seq, alloc .sequencer (by simp), State.seq]
  have slotsT (n : Conn) : t.slots n = w.slots n := by rw [State.slots, lineT, State.slots]
  have countsT (q : Ped) : t.counts q = u.counts q := by
    rw [State.counts, alloc .classifier (by simp), b.blocks .classifier (by simp), a.blocks .classifier (by simp),
      State.counts]
  have setpointW (n : Conn) : w.setpoint n = s.setpoint n := by
    rw [State.setpoint, b.blocks .alloc (by simp), a.blocks .alloc (by simp)]
    exact setpointU n
  have seq : ∀ x, t.seq (connOf p x) = (s.seq (connOf p x)).cleared := by
    intro x
    rw [seqT]
    cases x with
    | a => rw [b.seqs _ ab, a.seq, seqU]
    | b => rw [b.seq, seqV]
  have slots : ∀ x, t.slots (connOf p x) =
      ⟨Decidable.decide ((s.seq (connOf p x)).cleared.contactor = .opening), false, 0⟩ := by
    intro x
    have initial (x : Letter) : u.slots (connOf p x) = SafetySlots.initial :=
      (line.slots _).trans (if_pos (pedOf_connOf p x))
    rw [slotsT, ← cleared_slots]
    cases x with
    | a => rw [b.slotsOf _ ab, a.slots, seqU, initial]
    | b => rw [b.slots, seqV, a.slotsOf _ ba, initial]
  refine ⟨?_, (pedT p).trans line.ped, (countsT p).trans line.counts, fun q hq =>
    ⟨(pedT q).trans (line.others q hq).1, (countsT q).trans (line.others q hq).2⟩, ?_, seq, slots, fun x => ?_,
    fun n hn => ⟨?_, ?_, ?_⟩⟩
  · exact (line.blocks.mono (by simp)).trans ((a.blocks.mono (by simp)).trans ((b.blocks.mono (by simp)).trans
      (alloc.mono (by simp))))
  · rw [← line.inflight, lineT]
    exact a.flight.trans b.flight
  · have record := (setpoint (connOf p x)).trans (if_pos (pedOf_connOf p x))
    exact ⟨by rw [record]; rfl, by rw [record]; rfl, by rw [record]; rfl, by rw [record]; rfl, by rw [record]; rfl,
      by rw [slots], by rw [slots], by rw [seq]; exact SeqRecord.cleared_not_live _⟩
  all_goals
    have na : n ≠ connOf p .a := fun e => hn (by rw [e, pedOf_connOf])
    have nb : n ≠ connOf p .b := fun e => hn (by rw [e, pedOf_connOf])
  · rw [seqT, b.seqs n nb, a.seqs n na, seqU]
  · rw [slotsT, b.slotsOf n nb, a.slotsOf n na, line.slots, if_neg hn]
  · rw [setpoint, if_neg hn, setpointW]

/-- What both sessions of a pedestal leave when they end. -/
structure SessionsCleared (p : Ped) (s t : State) : Prop where
  ending : Ending s t
  cleared : ∀ x, SessionCleared (connOf p x) s t
  others : ∀ n, pedOf n ≠ p → t.sess n = s.sess n
  records : ∃ more, t.settlement.records = s.settlement.records ++ more ∧ (more.map (·.body.conn)).Nodup ∧
    (∀ r ∈ more, ∃ x, ClearedRecord (connOf p x) s r ∧ t.sess (connOf p x) = Session.initial) ∧
    ∀ x, (s.sess (connOf p x)).state.closes → t.sess (connOf p x) = Session.initial →
      ∃ r ∈ more, r.body.conn = connOf p x

theorem State.clearSessions (p : Ped) (s : State) :
    SessionsCleared p s ((s.clearSession (connOf p .a)).clearSession (connOf p .b)) := by
  obtain ⟨ab, ba⟩ := connOf_ne p
  have a := s.clearSession_step (connOf p .a)
  generalize s.clearSession (connOf p .a) = u at a
  have b := u.clearSession_step (connOf p .b)
  generalize u.clearSession (connOf p .b) = t at b
  have sessA : t.sess (connOf p .a) = u.sess (connOf p .a) := b.others _ ab
  have sessB : u.sess (connOf p .b) = s.sess (connOf p .b) := a.others _ ba
  obtain ⟨moreA, recordsA, onceA, eachA, allA⟩ := a.records
  obtain ⟨moreB, recordsB, onceB, eachB, allB⟩ := b.records
  refine ⟨a.ending.trans b.ending, fun x => ?_, fun n hn => ?_,
    moreA ++ moreB, by rw [recordsB, recordsA, List.append_assoc],
    ?_, fun r hr => ?_, fun x => ?_⟩
  · cases x with
    | a =>
      obtain ⟨idle, withdrawn, ended⟩ := a.cleared
      refine ⟨by rw [sessA]; exact idle, fun h => ?_, fun h => ?_⟩
      · obtain ⟨sess, held⟩ := withdrawn h
        exact ⟨sessA.trans sess, fun x hx => held x (b.held x hx)⟩
      · rw [sessA]
        exact (ended h).imp id fun ⟨closed, waits, why⟩ => ⟨closed, b.waiting _ waits, why⟩
    | b =>
      obtain ⟨idle, withdrawn, ended⟩ := b.cleared
      rw [sessB] at idle withdrawn ended
      exact ⟨idle, withdrawn, ended⟩
  · rw [b.others n fun e => hn (by rw [e, pedOf_connOf]), a.others n fun e => hn (by rw [e, pedOf_connOf])]
  · rw [List.map_append]
    refine List.nodup_append.2 ⟨onceA, onceB, fun x hx y hy => ?_⟩
    obtain ⟨r, hr, rfl⟩ := List.mem_map.1 hx
    obtain ⟨r', hr', rfl⟩ := List.mem_map.1 hy
    rw [(eachA r hr).1.conn, (eachB r' hr').1.conn]
    exact ab
  · rcases List.mem_append.1 hr with hr | hr
    · obtain ⟨record, sess⟩ := eachA r hr
      exact ⟨.a, record, sessA.trans sess⟩
    · obtain ⟨⟨conn, closes, token, energy, reason⟩, sess⟩ := eachB r hr
      rw [sessB] at closes token energy reason
      exact ⟨.b, ⟨conn, closes, token, energy, reason⟩, sess⟩
  · cases x with
    | a =>
      intro closes sess
      obtain ⟨r, hr, conn⟩ := allA closes (sessA.symm.trans sess)
      exact ⟨r, List.mem_append_left _ hr, conn⟩
    | b =>
      intro closes sess
      rw [← sessB] at closes
      obtain ⟨r, hr, conn⟩ := allB closes sess
      exact ⟨r, List.mem_append_right _ hr, conn⟩

/-- Settles O23. -/
theorem clearPedestalClearsItsState : Obligations.ClearPedestalClearsItsState := by
  refine ⟨fun s tag hr => ⟨fun b hb => exec_refused .badIndex rfl (by simp) hr (pedOperand_out _ _ hb), fun p away =>
    ?_⟩,
    fun s p tag hr _ unlocked reach => ?_⟩
  · exact exec_refused .wrongState rfl (by simp) hr ((pedOperand_number s.taken p ownClearPedestal).trans (if_pos away))
  have owner : ownerOf (.clearPedestal tag [byte (p.val + 1)]) s.taken = (s.taken.clearPed p, .bare .ok) :=
    (pedOperand_number s.taken p ownClearPedestal).trans (if_neg reach)
  have reset := s.taken.resetPed_reset p unlocked
  have sessions := (s.taken.resetPed p).clearSessions p
  rw [State.clearPed_eq] at owner
  generalize s.taken.resetPed p = u at owner reset sessions
  generalize (u.clearSession (connOf p .a)).clearSession (connOf p .b) = v at owner sessions
  have ending := sessions.ending
  have sessU (n : Conn) : u.sess n = s.sess n := State.sess_congr (reset.blocks .sessions (by simp)) n
  have seqV (n : Conn) : v.seq n = u.seq n := by rw [State.seq, ending.blocks .sequencer (by simp), State.seq]
  have pedV (q : Ped) : v.ped q = u.ped q := by rw [State.ped, ending.line, State.ped]
  have countsV (q : Ped) : v.counts q = u.counts q := by
    rw [State.counts, ending.blocks .classifier (by simp), State.counts]
  have flight : v.line.inflight = u.line.inflight := by rw [ending.line]
  have settlement : u.settlement = s.settlement := reset.blocks .settlement (by simp)
  have kept : SameBut [.line, .classifier, .sequencer, .auth, .sessions, .tariff, .alloc, .settlement,
    .uplink] s.taken v :=
    (reset.blocks.mono (by simp)).trans (ending.blocks.mono (by simp))
  obtain ⟨more, records, once, each, all⟩ := sessions.records
  refine ⟨v.respond (byte (3 + 128)) tag (.bare .ok), exec_owner rfl (by simp) hr owner,
    (kept.respond _ _ _).mono (by simp),
    (pedV p).trans reset.ped, (countsV p).trans reset.counts, fun free => ?_, fun x busy => ?_, fun x => ?_, fun q hq =>
      ⟨(pedV q).trans (reset.others q hq).1, (countsV q).trans (reset.others q hq).2⟩, fun n hn => ?_, more, ?_, once,
      fun r hr => ?_, fun x closes gone => ?_⟩
  · show v.line.inflight = none
    rw [flight]
    have stands := reset.flight
    rw [show s.taken.line.inflight = none from free] at stands
    rcases stands with h | ⟨x, h, -⟩
    · exact h
    · cases h
  · show ∃ y, v.line.inflight = some y ∧ _
    rw [flight]
    have stands := reset.flight
    rw [show s.taken.line.inflight = some x from busy, discardedBy_own] at stands
    rcases stands with h | ⟨y, h, g⟩
    · exact ⟨_, h, rfl, rfl, rfl, rfl⟩
    · cases h
      exact ⟨_, g, rfl, rfl, rfl, rfl⟩
  · have seq : v.seq (connOf p x) = (s.seq (connOf p x)).cleared := (seqV _).trans (reset.seq x)
    have rest := ending.rest _ (reset.rest x)
    have cleared := sessions.cleared x
    obtain ⟨idle, withdrawn, ended⟩ := cleared
    rw [sessU] at idle withdrawn ended
    have slots : v.slots (connOf p x) =
        ⟨Decidable.decide ((v.seq (connOf p x)).contactor = .opening), false, 0⟩ := by
      have openSet := ending.openSet (connOf p x)
      rw [reset.slots x] at openSet
      rw [seq]
      have dec := rest.dec
      have decValue := rest.decValue
      generalize v.slots (connOf p x) = y at openSet dec decValue
      cases y
      cases openSet
      cases dec
      cases decValue
      rfl
    refine ⟨congrArg SeqRecord.fault seq, (congrArg SeqRecord.locks seq :), congrArg SeqRecord.openPending seq,
      congrArg SeqRecord.settleDeadline seq, congrArg SeqRecord.attempt seq, congrArg SeqRecord.contactor seq, slots,
      rest.target, rest.grant, rest.hold, rest.inFlight, rest.state, idle, withdrawn, ended⟩
  · obtain ⟨seq, slots, setpoint⟩ := reset.away n hn
    exact ⟨(seqV n).trans seq, (sessions.others n hn).trans (sessU n),
      (ending.openSet n).trans (congrArg SafetySlots.openSet slots),
      (ending.record n).1.trans (congrArg Setpoint.grant setpoint)⟩
  · rw [← settlement]
    exact records
  · obtain ⟨x, ⟨conn, closes, token, energy, reason⟩, sess⟩ := each r hr
    rw [sessU] at closes token energy reason
    exact ⟨x, conn, closes, sess, token, energy, reason⟩
  · rw [← sessU] at closes
    exact all x closes gone

end Sys2Proof.Machine
end

section
/-! SUPPORT. RESTART: what the Connector Sequencer, the Line Controller, the Message Classifier and the Authorization
Unit
leave (R23, R38, R56, R79). -/

namespace Sys2Proof.Machine

/-! ### The Connector Sequencer's part -/

/-- A contactor state after RESTART (R56). -/
def ContactorState.restarted (c : ContactorState) : ContactorState :=
  match c with
  | .closing | .verifying | .closed | .opening => .opening
  | .opened => .opened
  | .faulted => .faulted
  | .locked => .locked

/-- What RESTART leaves of connector n's record and slots, x before and y after. -/
def SeqRestarted (_ : Conn) (x y : SeqRecord × SafetySlots) : Prop :=
  y.1.contactor = x.1.contactor.restarted ∧ y.1.locks = x.1.locks ∧ y.1.fault = x.1.fault ∧
  (y.1.contactor = .opening → y.2.openSet = true)

/-- What the resets of connectors leave alone: of the line everything but queues, slots and the transaction, and of the
sequencer everything but the records. -/
structure ConnectorsReset (s t : State) : Prop where
  blocks : SameBut [.line, .sequencer] s t
  sequencer : t.sequencer = { s.sequencer with recs := t.sequencer.recs }
  line : t.line = { s.line with peds := t.line.peds, slots := t.line.slots, inflight := t.line.inflight }
  peds : ∀ p, t.ped p = { s.ped p with queue := (t.ped p).queue }

theorem ConnectorsReset.refl (s : State) : ConnectorsReset s s := ⟨.refl _ s, rfl, rfl, fun _ => rfl⟩

theorem ConnectorsReset.trans {s t u : State} (h : ConnectorsReset s t) (g : ConnectorsReset t u) : ConnectorsReset s u
    where
  blocks := h.blocks.trans g.blocks
  sequencer := by rw [g.sequencer, h.sequencer]
  line := by rw [g.line, h.line]
  peds p := by rw [g.peds, h.peds]

theorem State.setOpenSlot_line (n : Conn) (s : State) : (s.setOpenSlot n).line = { s.line with
    peds := (s.setOpenSlot n).line.peds
    slots := (s.setOpenSlot n).line.slots
    inflight := (s.setOpenSlot n).line.inflight } := by
  unfold State.setOpenSlot
  dsimp only
  split
  next => split <;> rfl
  next => rfl

theorem ConnectorsReset.setOpenSlot (n : Conn) (s : State) : ConnectorsReset s (s.setOpenSlot n) where
  blocks := (s.setOpenSlot_same n).mono (by simp)
  sequencer := by rw [s.setOpenSlot_same n .sequencer (by simp)]
  line := s.setOpenSlot_line n
  peds p := by
    rw [State.setOpenSlot_ped]
    split <;> rfl

theorem ConnectorsReset.withSeq (n : Conn) (x : SeqRecord) (s : State) : ConnectorsReset s (s.withSeq n x) := by
  refine ⟨fun b hb => ?_, rfl, rfl, fun _ => rfl⟩
  cases b with
  | sequencer => simp at hb
  | _ => rfl

/-- The record of a live or opening connector after RESTART. -/
def SeqRecord.reopened (r : SeqRecord) : SeqRecord :=
  { r with
    contactor := .opening
    attempt := 1
    openPending := false
    openAcked := false
    repliesSinceOpen := 0
    settleDeadline := none
    idleCount := 0
    restCount := 0
    released := false }

/-- The record of any other connector after RESTART. -/
def SeqRecord.rested (r : SeqRecord) : SeqRecord := { r with idleCount := 0, restCount := 0, released := false }

theorem State.restartConnector_eq (n : Conn) (s : State) : s.restartConnector n =
    if (s.seq n).contactor.restarted = .opening then (s.withSeq n (s.seq n).reopened).setOpenSlot n
    else s.withSeq n (s.seq n).rested := by
  unfold State.restartConnector
  dsimp only
  rw [State.updSeq_eq_withSeq, State.withSeq_seq]
  have opening (h : (s.seq n).contactor ≠ .opened) :
      (((s.withSeq n (s.seq n).rested).enterOpening n).updSeq n fun r =>
        { r with attempt := 1, openPending := false, settleDeadline := none }) = s.withSeq n (s.seq n).reopened := by
    rw [State.withSeq_enterOpening (x := (s.seq n).rested) h, State.updSeq_eq_withSeq, State.withSeq_seq,
      State.withSeq_withSeq]
    rfl
  have still : s.withSeq n { s.seq n with idleCount := 0, restCount := 0, released := false } =
      s.withSeq n (s.seq n).rested := rfl
  rw [still]
  generalize s.withSeq n (s.seq n).rested = w at opening
  generalize s.withSeq n (s.seq n).reopened = v at opening
  show (match (s.seq n).contactor with
    | .closing | .verifying | .closed | .opening =>
      ((w.enterOpening n).updSeq n fun r =>
        { r with attempt := 1, openPending := false, settleDeadline := none }).setOpenSlot n
    | .opened | .faulted | .locked => w) = _
  generalize (s.seq n).contactor = c at opening
  cases c with
  | closing | verifying | closed | opening =>
    exact (congrArg (State.setOpenSlot n) (opening nofun)).trans (if_pos rfl).symm
  | opened | faulted | locked => exact (if_neg (by decide)).symm

theorem State.restartConnector_reset (n : Conn) (s : State) : ConnectorsReset s (s.restartConnector n) := by
  rw [State.restartConnector_eq]
  split
  · exact (ConnectorsReset.withSeq n _ s).trans (.setOpenSlot n _)
  · exact .withSeq n _ s

theorem State.restartConnector_other {n m : Conn} (s : State) (h : m ≠ n) :
    ((s.restartConnector n).seq m, (s.restartConnector n).slots m) = (s.seq m, s.slots m) := by
  have seq (x : SeqRecord) : (s.withSeq n x).seq m = s.seq m := tget_tset_of_ne _ _ _ _ h
  rw [State.restartConnector_eq]
  split
  · rw [State.setOpenSlot_seq, State.setOpenSlot_slots, if_neg h, seq]
    rfl
  · rw [seq]
    rfl

theorem State.restartConnector_own (n : Conn) (s : State) :
    SeqRestarted n (s.seq n, s.slots n) ((s.restartConnector n).seq n, (s.restartConnector n).slots n) := by
  rw [State.restartConnector_eq]
  by_cases h : (s.seq n).contactor.restarted = .opening
  · rw [if_pos h, State.setOpenSlot_seq, State.setOpenSlot_slots, if_pos rfl, State.withSeq_seq]
    exact ⟨h.symm, rfl, rfl, fun _ => rfl⟩
  · rw [if_neg h, State.withSeq_seq]
    have same : (s.seq n).contactor.restarted = (s.seq n).contactor := by
      cases hc : (s.seq n).contactor with
      | closing | verifying | closed | opening => exact absurd (congrArg ContactorState.restarted hc) h
      | opened | faulted | locked => rfl
    exact ⟨same.symm, rfl, rfl, fun e => absurd (same.trans e) h⟩

/-- What RESTART leaves of the connectors. -/
theorem State.restartSequencer_facts (s : State) :
    ConnectorsReset { s with sequencer := { s.sequencer with parkStop := false } } s.restartSequencer ∧
    ∀ n, SeqRestarted n (s.seq n, s.slots n) (s.restartSequencer.seq n, s.restartSequencer.slots n) := by
  obtain ⟨reset, own, -⟩ := foldl_each State.restartConnector (fun u n => (u.seq n, u.slots n))
    (ConnectorsReset { s with sequencer := { s.sequencer with parkStop := false } }) SeqRestarted
    (fun u n h => h.trans (u.restartConnector_reset n)) (fun u n m _ hm => u.restartConnector_other hm)
    (fun u n _ => u.restartConnector_own n) allConns { s with sequencer := { s.sequencer with parkStop := false } }
    (.refl _) allConns_nodup
  exact ⟨reset, fun n => own n (mem_allConns n)⟩

/-! ### The state before the sessions end -/

/-- The state that RESTART leaves before the sessions end. -/
def State.restartedBlocks (s : State) : State := s.restartSequencer.restartLine.restartClassifier.restartAuth

/-- What RESTART leaves before the sessions end. -/
structure BlocksRestarted (s t : State) : Prop where
  blocks : SameBut [.line, .classifier, .sequencer, .auth, .uplink] s t
  classifier : t.classifier = { s.classifier with passUp := [] }
  auth : t.auth = { s.auth with held := [] }
  uplink : t.uplink = { s.uplink with sending := s.uplink.sending.map OutFrame.orphan }
  sequencer : t.sequencer = { s.sequencer with parkStop := false, recs := t.sequencer.recs }
  line : t.line = { s.line with
    peds := t.line.peds, slots := t.line.slots, inflight := t.line.inflight
    rollTimer := none, pointer3 := 23, pointer5 := 23 }
  peds : ∀ p, t.ped p = (s.ped p).restart
  seq : ∀ n, SeqRestarted n (s.seq n, s.slots n) (t.seq n, t.slots n)
  inflight : ∀ x, t.line.inflight = some x → x.target ≠ none → x.discarded = true

theorem State.restartedBlocks_restarted (s : State) : BlocksRestarted s s.restartedBlocks := by
  obtain ⟨reset, seq⟩ := s.restartSequencer_facts
  have blocks : SameBut [.line, .sequencer] s s.restartSequencer := by
    intro b hb
    have same := reset.blocks b hb
    cases b with
    | line | sequencer => simp at hb
    | _ => exact same
  unfold State.restartedBlocks
  generalize s.restartSequencer = u at reset seq blocks
  have line : u.restartLine = { u with line := { u.line with
      inflight := u.line.inflight.map (discardedBy fun _ => true)
      peds := u.line.peds.map Pedestal.restart
      rollTimer := none
      pointer3 := 23
      pointer5 := 23 } } := by
    rw [State.restartLine, State.discardInflight_eq]
  have classifier : u.classifier = s.classifier := blocks .classifier (by simp)
  have auth : u.auth = s.auth := blocks .auth (by simp)
  have uplink : u.uplink = s.uplink := blocks .uplink (by simp)
  rw [line]
  refine ⟨fun b hb => ?_, ?_, ?_, ?_, reset.sequencer, ?_, fun p => ?_, seq, fun x hx target => ?_⟩
  · have same := blocks.mono (l' := [.line, .classifier, .sequencer, .auth, .uplink]) (by simp) b hb
    cases b with
    | line | classifier | sequencer | auth | uplink => simp at hb
    | _ => exact same
  · rw [← classifier]
    rfl
  · rw [← auth]
    rfl
  · rw [← uplink]
    rfl
  · have same := reset.line
    show ({ u.line with
      inflight := u.line.inflight.map (discardedBy fun _ => true)
      peds := u.line.peds.map Pedestal.restart
      rollTimer := none
      pointer3 := 23
      pointer5 := 23 } : LineState) = _
    rw [same]
    rfl
  · have same := reset.peds p
    refine (tget_map Pedestal.restart u.line.peds p).trans ?_
    show (u.ped p).restart = _
    rw [same]
    rfl
  · change u.line.inflight.map (discardedBy fun _ => true) = some x at hx
    obtain ⟨y, -, rfl⟩ := Option.map_eq_some_iff.1 hx
    obtain ⟨p, hp⟩ := Option.ne_none_iff_exists'.1 target
    have hp : y.target = some p := hp
    simp [discardedBy, hp]

end Sys2Proof.Machine
end

section
/-! SUPPORT. RESTART: the sessions close in ascending index (R101). -/

namespace Sys2Proof.Machine

/-- Whether a session is ended with a record by RESTART. -/
def Session.closesNow (e : Session) : Bool := e.state != .empty && e.state != .awaitingAuth && e.state != .closed

theorem Session.closesNow_iff (e : Session) : e.closesNow = true ↔ e.state.closes := by
  unfold Session.closesNow SessionKind.closes SessionKind.open_
  cases e.state <;> decide

/-! ### The records and the events of the closes -/

/-- What the records that joined the settlement queue leave of it: records `more` from the next sequence on. -/
structure RecordsJoined (s t : State) (more : List Settlement) : Prop where
  records : t.settlement.records = s.settlement.records ++ more
  first : (more.map (·.sequence) ++ [t.settlement.nextSequence]).head? = some s.settlement.nextSequence
  numbered : consecutive (more.map (·.sequence) ++ [t.settlement.nextSequence])
  readMark : s.settlement.records ≠ [] ∨ more = [] → t.settlement.readMark = s.settlement.readMark
  full : 96 ≤ s.settlement.records.length → more = []

/-- What the closes raise. -/
structure ClosesRaised (s t : State) : Prop where
  uplink : t.uplink = { s.uplink with
    pendingSet := t.uplink.pendingSet, noticePending := t.uplink.noticePending }
  events : ∀ k, hasEvent k t.uplink.pendingSet = true ↔ hasEvent k s.uplink.pendingSet = true ∨
    (k = .settlementReady ∧ s.settlement.records = [] ∧ t.settlement.records ≠ []) ∨
    (k = .queueFull ∧ s.settlement.records.length < 96 ∧ t.settlement.records.length = 96)

theorem consecutive_append {a b : List Nat} {x : Nat} (h : consecutive (a ++ [x])) (g : consecutive (x :: b)) :
    consecutive (a ++ x :: b) := by
  induction a with
  | nil => exact g
  | cons y a ih =>
    cases a with
    | nil =>
      obtain ⟨step, -⟩ := h
      exact ⟨step, g⟩
    | cons z a =>
      obtain ⟨step, rest⟩ := h
      exact ⟨step, ih rest⟩

theorem RecordsJoined.nil {s t : State} (h : t.settlement = s.settlement) : RecordsJoined s t [] :=
  ⟨by rw [h, List.append_nil], by rw [h]; rfl, trivial, fun _ => by rw [h], fun _ => rfl⟩

theorem RecordsJoined.trans {s t u : State} {m₁ m₂ : List Settlement} (h : RecordsJoined s t m₁)
    (g : RecordsJoined t u m₂) :
    RecordsJoined s u (m₁ ++ m₂) := by
  have next : m₂.map (·.sequence) ++ [u.settlement.nextSequence] = t.settlement.nextSequence ::
      (m₂.map (·.sequence) ++ [u.settlement.nextSequence]).tail := (List.cons_head?_tail g.first).symm
  refine ⟨by rw [g.records, h.records, List.append_assoc], ?_, ?_, fun x => ?_, fun x => ?_⟩
  · rw [List.map_append, List.append_assoc, next, ← h.first]
    cases m₁.map (·.sequence) <;> rfl
  · rw [List.map_append, List.append_assoc, next]
    refine consecutive_append h.numbered ?_
    rw [← next]
    exact g.numbered
  · rcases x with some_ | none_
    · rw [g.readMark (.inl fun e => ?_), h.readMark (.inl some_)]
      rw [h.records] at e
      exact some_ (List.append_eq_nil_iff.1 e).1
    · obtain ⟨e₁, e₂⟩ := List.append_eq_nil_iff.1 none_
      rw [g.readMark (.inr e₂), h.readMark (.inr e₁)]
  · have e₁ := h.full x
    have grown : 96 ≤ t.settlement.records.length := by rw [h.records, List.length_append]; omega
    rw [e₁, g.full grown]
    rfl

theorem RecordsJoined.one {s t : State} {r : BuiltRecord} (room : s.settlement.records.length < 96)
    (h : t.settlement =
    ⟨s.settlement.records ++ [⟨s.settlement.nextSequence, r⟩], nextSequence s.settlement.nextSequence,
      if s.settlement.records.length = 0 then false else s.settlement.readMark⟩) :
    RecordsJoined s t [⟨s.settlement.nextSequence, r⟩] := by
  refine ⟨by rw [h], by rw [h]; rfl, ?_, fun x => ?_, fun x => by omega⟩
  · rw [h]
    exact ⟨rfl, trivial⟩
  · rcases x with some_ | none_
    · rw [h]
      exact if_neg fun e => some_ (List.length_eq_zero_iff.1 e)
    · cases none_

theorem ClosesRaised.of_same {s t : State} (uplink : t.uplink = s.uplink) (settlement : t.settlement = s.settlement) :
    ClosesRaised s t := by
  refine ⟨by rw [uplink], fun k => ?_⟩
  rw [uplink, settlement]
  refine ⟨.inl, ?_⟩
  rintro (h | ⟨-, none_, some_⟩ | ⟨-, room, full⟩)
  · exact h
  · exact absurd none_ some_
  · omega

theorem ClosesRaised.trans {s t u : State} {m₁ m₂ : List Settlement} (h : ClosesRaised s t) (g : ClosesRaised t u)
    (r₁ : RecordsJoined s t m₁) (r₂ : RecordsJoined t u m₂) : ClosesRaised s u := by
  refine ⟨by rw [g.uplink, h.uplink], fun k => ?_⟩
  have len₁ : t.settlement.records.length = s.settlement.records.length + m₁.length := by
    rw [r₁.records, List.length_append]
  have len₂ : u.settlement.records.length = t.settlement.records.length + m₂.length := by
    rw [r₂.records, List.length_append]
  have full := r₂.full
  have stands : 96 ≤ t.settlement.records.length → m₂.length = 0 := fun x => by rw [full x]; rfl
  rw [g.events, h.events]
  simp only [← List.length_eq_zero_iff, ne_eq]
  generalize u.settlement.records.length = c at *
  generalize t.settlement.records.length = b at *
  generalize s.settlement.records.length = a at *
  constructor
  · rintro ((h | ⟨e, h, g⟩ | ⟨e, h, g⟩) | ⟨e, h, g⟩ | ⟨e, h, g⟩)
    · exact .inl h
    · exact .inr (.inl ⟨e, h, by omega⟩)
    · exact .inr (.inr ⟨e, h, by have := stands (by omega); omega⟩)
    · exact .inr (.inl ⟨e, by omega, g⟩)
    · exact .inr (.inr ⟨e, by omega, g⟩)
  · rintro (h | ⟨e, h, g⟩ | ⟨e, h, g⟩)
    · exact .inl (.inl h)
    · by_cases hb : b = 0
      · exact .inr (.inl ⟨e, hb, g⟩)
      · exact .inl (.inr (.inl ⟨e, h, hb⟩))
    · by_cases hb : b < 96
      · exact .inr (.inr ⟨e, hb, g⟩)
      · exact .inl (.inr (.inr ⟨e, h, by omega⟩))

theorem ClosesRaised.one {s t : State} {r : BuiltRecord} (room : s.settlement.records.length < 96)
    (records : t.settlement.records = s.settlement.records ++ [⟨s.settlement.nextSequence, r⟩])
    (h : t.uplink = (if s.settlement.records.length = 0 then s.uplink.withRaised .settlementReady
      else if s.settlement.records.length = 95 then s.uplink.withRaised .queueFull else s.uplink)) : ClosesRaised s
        t := by
  have len : t.settlement.records.length = s.settlement.records.length + 1 := by
    rw [records, List.length_append, List.length_singleton]
  have raised (k : EventKind) (j : EventKind) :
      hasEvent j (s.uplink.withRaised k).pendingSet = true ↔ j = k ∨ hasEvent j s.uplink.pendingSet = true := by
    show hasEvent j (s.uplink.pendingSet ||| k.only) = true ↔ _
    rw [hasEvent_or_only, Bool.or_eq_true, decide_eq_true_eq]
  refine ⟨?_, fun k => ?_⟩
  · rw [h]
    split
    · rfl
    · split <;> rfl
  simp only [← List.length_eq_zero_iff, ne_eq]
  rw [len, h]
  by_cases first : s.settlement.records.length = 0
  · rw [if_pos first, raised]
    constructor
    · rintro (e | h)
      · exact .inr (.inl ⟨e, first, by omega⟩)
      · exact .inl h
    · rintro (h | ⟨e, -⟩ | ⟨-, -, g⟩)
      · exact .inr h
      · exact .inl e
      · omega
  rw [if_neg first]
  by_cases last : s.settlement.records.length = 95
  · rw [if_pos last, raised]
    constructor
    · rintro (e | h)
      · exact .inr (.inr ⟨e, room, by omega⟩)
      · exact .inl h
    · rintro (h | ⟨-, g, -⟩ | ⟨e, -⟩)
      · exact .inr h
      · exact absurd g first
      · exact .inl e
  · rw [if_neg last]
    refine ⟨.inl, ?_⟩
    rintro (h | ⟨-, g, -⟩ | ⟨-, -, g⟩)
    · exact h
    · exact absurd g first
    · omega

/-! ### The closes in their order -/

/-- Where connector n's session went when RESTART closed it, with LINK_LOST as `lost` says. -/
def SessionWent (n : Conn) (lost : Bool) (e : Session) (t : State) (more : List Settlement)
    (waits : List Conn) : Prop :=
  (t.sess n).plan = none ∧ ∃ r : BuiltRecord, (((∃ x ∈ more, x.body = r) ∧ t.sess n = Session.initial) ∨
      (n ∈ waits ∧ (t.sess n).state = .closed ∧ (t.sess n).record = some r)) ∧
    r.conn = n ∧ r.token = e.token ∧ r.energyTotal = min e.energyTotal 4294967295 ∧
    r.endReason = (if e.state = .stopping then e.endReason else some .restart) ∧
    hasFlag .linkLost r.flags = (hasFlag .linkLost e.flags || lost)

/-- What RESTART leaves of the sessions at the connectors of a list, which it takes in turn. -/
structure SessionsEnded (lost : Conn → Bool) (l : List Conn) (s t : State) (more : List Settlement)
  (waits : List Conn) :
    Prop where
  ending : Ending s t
  auth : t.auth = s.auth
  sessions : t.sessions = { s.sessions with entries := t.sessions.entries, waiting := s.sessions.waiting ++ waits }
  outside : ∀ n, n ∉ l → t.sess n = s.sess n
  idle : ∀ n ∈ l, (s.sess n).state = .empty ∨ (s.sess n).state = .closed → t.sess n = s.sess n
  withdrawn : ∀ n ∈ l, (s.sess n).state = .awaitingAuth → t.sess n = Session.initial
  ended : ∀ n ∈ l, (s.sess n).state.closes → SessionWent n (lost n) (s.sess n) t more waits
  order : more.map (·.body.conn) ++ waits = l.filter fun n => (s.sess n).closesNow
  waiting : waits ≠ [] → 96 ≤ t.settlement.records.length
  joined : RecordsJoined s t more
  raised : ClosesRaised s t

theorem SessionsEnded.nil (lost : Conn → Bool) (s : State) : SessionsEnded lost [] s s [] [] :=
  ⟨.refl s, rfl, by rw [List.append_nil], fun _ _ => rfl, fun _ h => absurd h List.not_mem_nil,
    fun _ h => absurd h List.not_mem_nil, fun _ h => absurd h List.not_mem_nil, rfl, fun h => absurd rfl h, .nil rfl,
    .of_same rfl rfl⟩

theorem SessionWent.mono {n : Conn} {lost : Bool} {e : Session} {t u : State} {m m' : List Settlement}
    {w w' : List Conn}
    (h : SessionWent n lost e t m w) (sess : u.sess n = t.sess n) (hm : m ⊆ m') (hw : w ⊆ w') :
    SessionWent n lost e u m' w' := by
  obtain ⟨plan, r, place, rest⟩ := h
  refine ⟨by rw [sess]; exact plan, r, ?_, rest⟩
  rw [sess]
  exact place.imp (fun ⟨⟨x, hx, body⟩, gone⟩ => ⟨⟨x, hm hx, body⟩, gone⟩) fun ⟨mem, rest⟩ => ⟨hw mem, rest⟩

/-- The first connector, then the others. -/
theorem SessionsEnded.cons {lost : Conn → Bool} {n : Conn} {l : List Conn} {s t u : State} {m₁ m₂ : List Settlement}
    {w₁ w₂ : List Conn} (hn : n ∉ l) (h : SessionsEnded lost [n] s t m₁ w₁) (g : SessionsEnded lost l t u m₂ w₂) :
    SessionsEnded lost (n :: l) s u (m₁ ++ m₂) (w₁ ++ w₂) := by
  have own : u.sess n = t.sess n := g.outside n hn
  have rest (m : Conn) (hm : m ∈ l) : t.sess m = s.sess m :=
    h.outside m fun e => hn (by rw [← List.mem_singleton.1 e]; exact hm)
  have first := List.mem_singleton.2 (rfl : n = n)
  refine ⟨h.ending.trans g.ending, g.auth.trans h.auth, ?_, fun m hm => ?_, fun m hm idle => ?_, fun m hm awaiting =>
    ?_,
    fun m hm closes => ?_, ?_, fun some_ => ?_, h.joined.trans g.joined, h.raised.trans g.raised h.joined g.joined⟩
  · rw [g.sessions, h.sessions, List.append_assoc]
  · obtain ⟨ne, hm⟩ := not_or.1 (mt List.mem_cons.2 hm)
    rw [g.outside m hm, h.outside m (mt List.mem_singleton.1 ne)]
  · rcases List.mem_cons.1 hm with rfl | hm
    · rw [own, h.idle m first idle]
    · rw [g.idle m hm (by rw [rest m hm]; exact idle), rest m hm]
  · rcases List.mem_cons.1 hm with rfl | hm
    · rw [own, h.withdrawn m first awaiting]
    · exact g.withdrawn m hm (by rw [rest m hm]; exact awaiting)
  · rcases List.mem_cons.1 hm with rfl | hm
    · exact (h.ended m first closes).mono own (List.subset_append_left _ _) (List.subset_append_left _ _)
    · have went := g.ended m hm (by rw [rest m hm]; exact closes)
      rw [rest m hm] at went
      exact went.mono rfl (List.subset_append_right _ _) (List.subset_append_right _ _)
  · have apart : w₁ = [] ∨ m₂ = [] := by
      by_cases none_ : w₁ = []
      · exact .inl none_
      · exact .inr (g.joined.full (h.waiting none_))
    have swap : w₁ ++ m₂.map (·.body.conn) = m₂.map (·.body.conn) ++ w₁ := by
      rcases apart with e | e <;> rw [e] <;> simp
    have same : (l.filter fun m => (t.sess m).closesNow) = l.filter fun m => (s.sess m).closesNow :=
      List.filter_congr fun m hm => by rw [rest m hm]
    calc (m₁ ++ m₂).map (·.body.conn) ++ (w₁ ++ w₂)
        = m₁.map (·.body.conn) ++ (m₂.map (·.body.conn) ++ w₁) ++ w₂ := by simp
      _ = (m₁.map (·.body.conn) ++ w₁) ++ (m₂.map (·.body.conn) ++ w₂) := by rw [← swap]; simp
      _ = [n].filter (fun m => (s.sess m).closesNow) ++ l.filter fun m => (s.sess m).closesNow := by
        rw [h.order, g.order, same]
      _ = (n :: l).filter fun m => (s.sess m).closesNow := (List.filter_append [n] l).symm
  · have grown : t.settlement.records.length ≤ u.settlement.records.length := by
      rw [g.joined.records, List.length_append]
      omega
    by_cases e : w₁ = []
    · exact g.waiting fun e' => some_ (by rw [e, e']; rfl)
    · exact (h.waiting e).trans grown

/-! ### One close -/

theorem State.closeEntry_params (n : Conn) (s : State) (ho : (s.sess n).state ≠ .empty) :
    (s.closeEntry n).sessions = { s.sessions with
      entries := (s.closeEntry n).sessions.entries, waiting := (s.closeEntry n).sessions.waiting } := by
  by_cases room : s.settlement.records.length < 96
  · rw [State.closeEntry_of_room n s room, State.updSess, State.appendRecord_sessions, State.releasePlan_sessions]
  · rw [State.closeEntry_of_full n s (by omega) ho, State.waits, State.updSess, State.releasePlan_sessions]

theorem State.closeAtOnce_params (why : EndReason) (lost : Bool) {n : Conn} {s : State} (h : (s.sess n).state.closes) :
    (s.closeAtOnce why lost n).sessions = { s.sessions with
      entries := (s.closeAtOnce why lost n).sessions.entries
      waiting := (s.closeAtOnce why lost n).sessions.waiting } := by
  rw [State.closeAtOnce_eq why lost h]
  have open_ : ((s.withSess n ((s.sess n).endedBy why lost)).sess n).state ≠ .empty := by
    rw [State.withSess_sess]
    exact h.not_empty
  have params := State.closeEntry_params n _ open_
  have closed : ((s.withSess n ((s.sess n).endedBy why lost)).closeSession n).sessions =
      ((s.withSess n ((s.sess n).endedBy why lost)).closeEntry n).sessions := by
    rw [State.closeSession_eq]
    split
    · exact State.pass_sessions _
    · rfl
  rw [closed]
  exact params

/-- A session that needs no close. -/
theorem SessionsEnded.quiet {lost : Conn → Bool} {n : Conn} {s t : State} (ending : Ending s t) (auth : t.auth = s.auth)
    (sessions : t.sessions = { s.sessions with entries := t.sessions.entries })
    (others : ∀ m, m ≠ n → t.sess m = s.sess m) (settlement : t.settlement = s.settlement)
    (uplink : t.uplink = s.uplink)
    (idle : (s.sess n).state = .empty ∨ (s.sess n).state = .closed → t.sess n = s.sess n)
    (withdrawn : (s.sess n).state = .awaitingAuth → t.sess n = Session.initial) (quiet : ¬ (s.sess n).state.closes) :
    SessionsEnded lost [n] s t [] [] := by
  refine ⟨ending, auth, by rw [List.append_nil]; exact sessions, fun m hm => others m (mt List.mem_singleton.2 hm),
    fun m hm => ?_, fun m hm => ?_, fun m hm closes => ?_, ?_, fun h => absurd rfl h, .nil settlement,
      .of_same uplink settlement⟩
  · rw [List.mem_singleton.1 hm]
    exact idle
  · rw [List.mem_singleton.1 hm]
    exact withdrawn
  · rw [List.mem_singleton.1 hm] at closes
    exact absurd closes quiet
  · exact (List.filter_cons_of_neg (p := fun m => (s.sess m).closesNow) (l := [])
      fun h => quiet ((Session.closesNow_iff _).1 h)).symm

theorem State.restartSession_ended (lost : Conn → Bool) (n : Conn) (s : State) :
    ∃ more waits, SessionsEnded lost [n] s (s.restartSession lost n) more waits := by
  unfold State.restartSession
  by_cases awaiting : (s.sess n).state = .awaitingAuth
  · rw [if_pos awaiting, State.setSess_to_empty n _ _ rfl]
    refine ⟨[], [], .quiet (.of_blocks fun b hb => ?_) rfl rfl (fun m hm => tget_tset_of_ne _ _ _ _ hm) rfl rfl ?_
      (fun _ => tget_tset_same ..) ?_⟩
    · cases b with
      | auth | sessions | tariff | settlement | uplink => simp at hb
      | _ => rfl
    · rw [awaiting]
      rintro (h | h) <;> cases h
    · rw [awaiting]
      rintro ((h | h | h) | h) <;> cases h
  rw [if_neg awaiting]
  by_cases closes : (s.sess n).state.closes
  · obtain ⟨ending, ⟨r, joined, conn, token, energy, reason, flag⟩, auth, others⟩ :=
      State.closeAtOnce_ended .restart (lost n) closes
    have params := State.closeAtOnce_params .restart (lost n) closes
    generalize s.closeAtOnce .restart (lost n) n = t at ending joined auth others params
    have listed : ([n].filter fun m => (s.sess m).closesNow) = [n] :=
      List.filter_cons_of_pos ((Session.closesNow_iff _).2 closes)
    have busy : ¬ ((s.sess n).state = .empty ∨ (s.sess n).state = .closed) := by
      rcases closes with (h | h | h) | h <;> rw [h] <;> rintro (h | h) <;> cases h
    have common (more : List Settlement) (waits : List Conn)
        (sessions : t.sessions.waiting = s.sessions.waiting ++ waits)
        (went : SessionWent n (lost n) (s.sess n) t more waits) (order : more.map (·.body.conn) ++ waits = [n])
        (waiting : waits ≠ [] → 96 ≤ t.settlement.records.length) (records : RecordsJoined s t more)
        (raised : ClosesRaised s t) : SessionsEnded lost [n] s t more waits := by
      refine ⟨ending, auth, by rw [← sessions]; exact params, fun m hm => others m (mt List.mem_singleton.2 hm),
        fun m hm idle => ?_, fun m hm wait => ?_, fun m hm _ => ?_, by rw [order, listed], waiting, records, raised⟩
      · rw [List.mem_singleton.1 hm] at idle
        exact absurd idle busy
      · rw [List.mem_singleton.1 hm] at wait
        exact absurd wait awaiting
      · rw [List.mem_singleton.1 hm]
        exact went
    rcases joined with ⟨room, sess, waiting, settlement, uplink⟩ | ⟨full, closed, record, -, plan, waiting, settlement,
      uplink⟩
    · refine ⟨[⟨s.settlement.nextSequence, r⟩], [], common _ _ (by rw [waiting, List.append_nil])
        ⟨by rw [sess]; rfl, r, .inl ⟨⟨_, List.mem_singleton.2 rfl, rfl⟩, sess⟩, conn, token, energy, reason, flag⟩ ?_
          (fun h => absurd rfl h)
        (.one room settlement) (.one (r := r) room (by rw [settlement]) uplink)⟩
      rw [← conn]
      rfl
    · exact ⟨[], [n], common _ _ waiting
        ⟨plan, r, .inr ⟨List.mem_singleton.2 rfl, closed, record⟩, conn, token, energy, reason, flag⟩ rfl
        (fun _ => by rw [settlement]; exact full) (.nil settlement) (.of_same uplink settlement)⟩
  · rw [State.closeAtOnce_of_idle closes]
    exact ⟨[], [], .quiet (.refl s) rfl rfl (fun _ _ => rfl) rfl rfl (fun _ => rfl) (fun h => absurd h awaiting) closes⟩

theorem State.restartSessions_ended (lost : Conn → Bool) (l : List Conn) (nodup : l.Nodup) (s : State) :
    ∃ more waits, SessionsEnded lost l s (l.foldl (State.restartSession lost) s) more waits := by
  induction l generalizing s with
  | nil => exact ⟨[], [], .nil lost s⟩
  | cons n l ih =>
    obtain ⟨hn, rest⟩ := List.nodup_cons.1 nodup
    obtain ⟨m₁, w₁, first⟩ := s.restartSession_ended lost n
    obtain ⟨m₂, w₂, others⟩ := ih rest (s.restartSession lost n)
    exact ⟨_, _, .cons hn first others⟩

end Sys2Proof.Machine
end

section
/-! SUPPORT and PROOF. RESTART: the setpoints, the pedestals that are left in use, and the whole request. -/

namespace Sys2Proof.Machine

/-! ### The Power Allocator's part -/

/-- A setpoint record after RESTART, before it is placed (R159). -/
def Setpoint.restarted (expiry : Nat) (x : Setpoint) : Setpoint :=
  if x.state = .increaseSent then
    { x with
      grant := x.inFlight.getD x.grant, holdExpiry := some expiry, inFlight := none, state := .steady, target := 0
      participant := false }
  else { x with inFlight := none, target := 0, participant := false }

theorem Setpoint.restarted_not_sent (expiry : Nat) (x : Setpoint) : (x.restarted expiry).state ≠ .increaseSent := by
  unfold Setpoint.restarted
  split
  · nofun
  · assumption

/-- What RESTART leaves of a connector's setpoint record and slots, x before and y after. -/
def SetpointRestarted (expiry : Nat) (_ : Conn) (x y : Setpoint × SafetySlots) : Prop :=
  y.1.target = 0 ∧ y.1.participant = false ∧ y.1.inFlight = none ∧ Placed y.1 y.2 ∧ y.2.openSet = x.2.openSet ∧
  (x.1.state ≠ .increaseSent → y.1.grant = x.1.grant ∧ y.1.holdExpiry = x.1.holdExpiry) ∧
  (x.1.state = .increaseSent → y.1.holdExpiry = some expiry ∧ ∀ v, x.1.inFlight = some v → y.1.grant = v)

/-- What the setpoints' part leaves alone. -/
structure SetpointsOnly (s t : State) : Prop where
  blocks : SameBut [.line, .alloc] s t
  line : t.line = { s.line with slots := t.line.slots }
  alloc : t.alloc = { s.alloc with setpoints := t.alloc.setpoints }

theorem SetpointsOnly.refl (s : State) : SetpointsOnly s s := ⟨.refl _ s, rfl, rfl⟩

theorem SetpointsOnly.trans {s t u : State} (h : SetpointsOnly s t) (g : SetpointsOnly t u) : SetpointsOnly s u :=
  ⟨h.blocks.trans g.blocks, by rw [g.line, h.line], by rw [g.alloc, h.alloc]⟩

theorem SetpointsOnly.updSetpoint (n : Conn) (f : Setpoint → Setpoint) (s : State) :
    SetpointsOnly s (s.updSetpoint n f) :=
  ⟨(Replaced.updSetpoint n f s).blocks, rfl, rfl⟩

theorem SetpointsOnly.place (n : Conn) (s : State) : SetpointsOnly s (s.place n) := by
  refine ⟨(Replaced.place n s).blocks, ?_, ?_⟩
  all_goals
    rcases State.place_cases n s with ⟨-, e⟩ | ⟨-, f, k, e, -, -⟩
    · rw [e]
    · rw [e]
      rfl

theorem SafetySlots.placed_openSet (x : Setpoint) (y : SafetySlots) : (y.placed x).openSet = y.openSet := by
  unfold SafetySlots.placed
  split
  · rfl
  · split <;> rfl

theorem State.restartSetpoint_eq (n : Conn) (s : State) : s.restartSetpoint n =
    (s.updSetpoint n (Setpoint.restarted (s.sec + s.alloc.hold))).place n := rfl

theorem State.restartSetpoint_only (n : Conn) (s : State) : SetpointsOnly s (s.restartSetpoint n) := by
  rw [State.restartSetpoint_eq]
  exact (SetpointsOnly.updSetpoint n _ s).trans (.place n _)

theorem State.restartSetpoint_other {n m : Conn} (s : State) (h : m ≠ n) :
    ((s.restartSetpoint n).setpoint m, (s.restartSetpoint n).slots m) = (s.setpoint m, s.slots m) := by
  rw [State.restartSetpoint_eq]
  obtain ⟨setpoint, slots⟩ := ((Replaced.updSetpoint n (Setpoint.restarted (s.sec + s.alloc.hold)) s).trans
    (.place n _)).records m h
  rw [setpoint, slots]

theorem State.restartSetpoint_own (n : Conn) (s : State) :
    SetpointRestarted (s.sec + s.alloc.hold) n (s.setpoint n, s.slots n)
      ((s.restartSetpoint n).setpoint n, (s.restartSetpoint n).slots n) := by
  rw [State.restartSetpoint_eq]
  generalize s.sec + s.alloc.hold = expiry
  have record := State.updSetpoint_same n (Setpoint.restarted expiry) s
  have before : (s.updSetpoint n (Setpoint.restarted expiry)).slots n = s.slots n := rfl
  generalize s.updSetpoint n (Setpoint.restarted expiry) = u at record before
  have idle := (s.setpoint n).restarted_not_sent expiry
  rw [← record] at idle
  obtain ⟨grant, target, hold, inFlight, -⟩ := u.place_fields n
  have participant : ((u.place n).setpoint n).participant = (u.setpoint n).participant := by
    rw [State.place_setpoint, if_pos rfl]
    exact (u.setpoint n).placed_kept.1
  have openSet : ((u.place n).slots n).openSet = (s.slots n).openSet := by
    rw [State.place_slots, if_pos rfl, SafetySlots.placed_openSet, before]
  have placed := State.place_placed idle
  refine ⟨?_, ?_, ?_, placed, openSet, fun still => ⟨?_, ?_⟩, fun sent => ⟨?_, fun v hv => ?_⟩⟩
  · rw [target, record, Setpoint.restarted]
    split <;> rfl
  · rw [participant, record, Setpoint.restarted]
    split <;> rfl
  · rw [inFlight, record, Setpoint.restarted]
    split <;> rfl
  · rw [grant, record, Setpoint.restarted, if_neg still]
  · rw [hold, record, Setpoint.restarted, if_neg still]
  · rw [hold, record, Setpoint.restarted, if_pos sent]
  · rw [grant, record, Setpoint.restarted, if_pos sent]
    exact congrArg (·.getD (s.setpoint n).grant) hv

/-- What RESTART leaves of the setpoints. -/
theorem State.restartSetpoints_facts (s : State) : SetpointsOnly s (allConns.foldl State.restartSetpoint s) ∧
    ∀ n, SetpointRestarted (s.sec + s.alloc.hold) n (s.setpoint n, s.slots n)
      ((allConns.foldl State.restartSetpoint s).setpoint n, (allConns.foldl State.restartSetpoint s).slots n) := by
  obtain ⟨only, own, -⟩ := foldl_each State.restartSetpoint (fun u n => (u.setpoint n, u.slots n)) (SetpointsOnly s)
    (SetpointRestarted (s.sec + s.alloc.hold)) (fun u n h => h.trans (u.restartSetpoint_only n))
    (fun u n m _ hm => u.restartSetpoint_other hm) (fun u n h => by
      have expiry : u.sec + u.alloc.hold = s.sec + s.alloc.hold := by
        rw [State.sec, h.blocks .clock (by simp), h.alloc, State.sec]
      rw [← expiry]
      exact u.restartSetpoint_own n) allConns s (.refl s) allConns_nodup
  exact ⟨only, fun n => own n (mem_allConns n)⟩

/-! ### The pedestals left in use (R5) -/

/-- What the activity tests leave alone. -/
structure PedestalsOnly (s t : State) : Prop where
  blocks : SameBut [.line] s t
  line : t.line = { s.line with peds := t.line.peds }

/-- A pedestal entry that a local activity finds. -/
def Pedestal.stirred (now : Nat) (e : Pedestal) : Pedestal :=
  if e.link = .probing ∨ e.link = .quiet then { e with link := .active, nextPoll := some now } else e

theorem State.localActivity_only (p : Ped) (s : State) :
    PedestalsOnly s (s.localActivity p) ∧ (s.localActivity p).ped p = (s.ped p).stirred s.clock.ms := by
  have same (b : Block) (hb : b ∉ [Block.line]) (f : Pedestal → Pedestal) : SameAt s (s.updPed p f) b := by
    cases b with
    | line => simp at hb
    | _ => rfl
  rcases State.localActivity_ped_cases p s with ⟨on, e⟩ | ⟨off, e⟩
  · rw [e]
    refine ⟨⟨fun b hb => same b hb _, rfl⟩, ?_⟩
    rw [State.updPed_ped_same, Pedestal.stirred, if_pos on]
  · rw [e]
    refine ⟨⟨.refl _ s, rfl⟩, ?_⟩
    rw [Pedestal.stirred, if_neg]
    rcases off with h | h | h <;> rw [h] <;> rintro (h | h) <;> cases h

theorem PedestalsOnly.trans {s t u : State} (h : PedestalsOnly s t) (g : PedestalsOnly t u) : PedestalsOnly s u :=
  ⟨h.blocks.trans g.blocks, by rw [g.line, h.line]⟩

theorem State.restartActivity_facts (s : State) : PedestalsOnly s (allPeds.foldl State.restartActivity s) ∧
    ∀ p, (allPeds.foldl State.restartActivity s).ped p =
      if (connsOf p).any s.inUse then (s.ped p).stirred s.clock.ms else s.ped p := by
  have used (u : State) (h : PedestalsOnly s u) : u.inUse = s.inUse := by
    funext n
    rw [State.inUse, State.sess, State.seq, h.blocks .sessions (by simp), h.blocks .sequencer (by simp)]
    rfl
  have step (u : State) (p : Ped) : PedestalsOnly u (u.restartActivity p) := by
    unfold State.restartActivity
    split
    · exact (u.localActivity_only p).1
    · exact ⟨.refl _ u, rfl⟩
  obtain ⟨only, own, -⟩ := foldl_each State.restartActivity State.ped (PedestalsOnly s)
    (fun p x y => y = if (connsOf p).any s.inUse then x.stirred s.clock.ms else x) (fun u p h => h.trans (step u p))
    (fun u p q _ hq => by
      unfold State.restartActivity
      split
      · exact State.localActivity_ped_of_ne p q u hq
      · rfl)
    (fun u p h => by
      unfold State.restartActivity
      rw [used u h, ← show u.clock.ms = s.clock.ms by rw [h.blocks .clock (by simp)]]
      split
      · exact (u.localActivity_only p).2
      · rfl) allPeds s ⟨.refl _ s, rfl⟩ (List.nodup_finRange 24)
  exact ⟨only, fun p => own p (List.mem_finRange p)⟩

/-! ### All blocks -/

/-- What RESTART's effects on the blocks leave, with the records that join the settlement queue and the sessions that
wait
for a place in it. -/
structure Restarted (s t : State) (more : List Settlement) (waits : List Conn) : Prop where
  blocks : SameBut [.line, .classifier, .sequencer, .auth, .sessions, .tariff, .alloc, .settlement, .uplink] s t
  classifier : t.classifier = { s.classifier with passUp := [] }
  auth : t.auth = { s.auth with held := [] }
  sequencer : t.sequencer = { s.sequencer with parkStop := false, recs := t.sequencer.recs }
  line : t.line = { s.line with
    peds := t.line.peds, slots := t.line.slots, inflight := t.line.inflight
    rollTimer := none, pointer3 := 23, pointer5 := 23 }
  inflight : ∀ x, t.line.inflight = some x → x.target ≠ none → x.discarded = true
  sessions : t.sessions = { s.sessions with entries := t.sessions.entries, waiting := s.sessions.waiting ++ waits }
  alloc : t.alloc = { s.alloc with
    setpoints := t.alloc.setpoints, configs := t.alloc.configs, available := t.alloc.available }
  config : ∀ p, t.config p = { s.config p with limitUsed := (t.config p).limitUsed }
  uplink : t.uplink = { s.uplink with
    sending := s.uplink.sending.map OutFrame.orphan
    pendingSet := t.uplink.pendingSet, noticePending := t.uplink.noticePending }
  idle : ∀ n, (s.sess n).state = .empty ∨ (s.sess n).state = .closed → t.sess n = s.sess n
  withdrawn : ∀ n, (s.sess n).state = .awaitingAuth → t.sess n = Session.initial
  ended : ∀ n, (s.sess n).state.closes → SessionWent n (s.linkLost n) (s.sess n) t more waits
  order : more.map (·.body.conn) ++ waits = allConns.filter fun n => (s.sess n).closesNow
  joined : RecordsJoined s t more
  events : ∀ k, hasEvent k t.uplink.pendingSet = true ↔ hasEvent k s.uplink.pendingSet = true ∨
    (k = .settlementReady ∧ s.settlement.records = [] ∧ t.settlement.records ≠ []) ∨
    (k = .queueFull ∧ s.settlement.records.length < 96 ∧ t.settlement.records.length = 96)
  peds : ∀ p, t.ped p =
    if (connsOf p).any t.inUse then (s.ped p).restart.stirred s.clock.ms else (s.ped p).restart
  seq : ∀ n, SeqRestarted n (s.seq n, s.slots n) (t.seq n, t.slots n)
  setpoint : ∀ n, ∃ y, SetpointRestarted (s.sec + s.alloc.hold) n (s.setpoint n, y) (t.setpoint n, t.slots n)

theorem RecordsJoined.congr {s s' t t' : State} {more : List Settlement} (h : RecordsJoined s t more)
    (hs : s'.settlement = s.settlement) (ht : t'.settlement = t.settlement) : RecordsJoined s' t' more := by
  obtain ⟨a, b, c, d, e⟩ := h
  exact ⟨by rw [ht, hs, a], by rw [ht, hs, b], by rw [ht]; exact c, by rw [ht, hs]; exact d, by rw [hs]; exact e⟩

theorem SessionWent.congr {n : Conn} {lost : Bool} {e : Session} {t u : State} {more : List Settlement}
    {waits : List Conn} (h : SessionWent n lost e t more waits) (sessions : u.sessions = t.sessions) :
    SessionWent n lost e u more waits :=
  h.mono (State.sess_congr sessions n) (List.Subset.refl _) (List.Subset.refl _)

theorem State.restartBlocks_restarted (s : State) : ∃ more waits, Restarted s s.restartBlocks more waits := by
  have before := s.restartedBlocks_restarted
  have whole : s.restartBlocks = allPeds.foldl State.restartActivity (allConns.foldl State.restartSetpoint
      (allConns.foldl (State.restartSession s.linkLost) s.restartedBlocks)) := rfl
  rw [whole]
  generalize s.restartedBlocks = a at before
  obtain ⟨more, waits, ended⟩ := State.restartSessions_ended s.linkLost allConns allConns_nodup a
  generalize allConns.foldl (State.restartSession s.linkLost) a = b at ended
  obtain ⟨only, setpoints⟩ := b.restartSetpoints_facts
  generalize allConns.foldl State.restartSetpoint b = c at only setpoints
  obtain ⟨pedsOnly, peds⟩ := c.restartActivity_facts
  generalize allPeds.foldl State.restartActivity c = t at pedsOnly peds
  have sessA (n : Conn) : a.sess n = s.sess n := State.sess_congr (before.blocks .sessions (by simp)) n
  have settlementA : a.settlement = s.settlement := before.blocks .settlement (by simp)
  have allocA : a.alloc = s.alloc := before.blocks .alloc (by simp)
  have clockC : c.clock.ms = s.clock.ms := by
    rw [only.blocks .clock (by simp), ended.ending.blocks .clock (by simp), before.blocks .clock (by simp)]
  have expiry : b.sec + b.alloc.hold = s.sec + s.alloc.hold := by
    rw [State.sec, ended.ending.blocks .clock (by simp), before.blocks .clock (by simp), ended.ending.alloc, allocA,
      State.sec]
  have sessionsT : t.sessions = b.sessions := by
    rw [pedsOnly.blocks .sessions (by simp), only.blocks .sessions (by simp)]
  have sessT (n : Conn) : t.sess n = b.sess n := State.sess_congr sessionsT n
  have settlementT : t.settlement = b.settlement := by
    rw [pedsOnly.blocks .settlement (by simp), only.blocks .settlement (by simp)]
  have uplinkT : t.uplink = b.uplink := by
    rw [pedsOnly.blocks .uplink (by simp), only.blocks .uplink (by simp)]
  have sequencerT : t.sequencer = a.sequencer := by
    rw [pedsOnly.blocks .sequencer (by simp), only.blocks .sequencer (by simp),
      ended.ending.blocks .sequencer (by simp)]
  have allocT : t.alloc = c.alloc := pedsOnly.blocks .alloc (by simp)
  have lineT : t.line = { a.line with peds := t.line.peds, slots := t.line.slots } := by
    rw [pedsOnly.line, only.line, ended.ending.line]
  have inflight : t.line.inflight = a.line.inflight := by rw [lineT]
  have used : c.inUse = t.inUse := by
    funext n
    rw [State.inUse, State.inUse, State.sess, State.seq, State.sess, State.seq, pedsOnly.blocks .sessions (by simp),
      pedsOnly.blocks .sequencer (by simp)]
  have slotsT (n : Conn) : t.slots n = c.slots n := by rw [State.slots, pedsOnly.line, State.slots]
  refine ⟨more, waits, ?_, ?_, ?_, ?_, ?_, ?_, ?_, ?_, fun p => ?_, ?_, fun n idle => ?_, fun n awaiting => ?_,
    fun n closes => ?_, ?_, ended.joined.congr settlementA.symm settlementT, fun k => ?_, fun p => ?_, fun n => ?_,
    fun n => ?_⟩
  · exact (before.blocks.mono (by simp)).trans ((ended.ending.blocks.mono (by simp)).trans
      ((only.blocks.mono (by simp)).trans (pedsOnly.blocks.mono (by simp))))
  · rw [pedsOnly.blocks .classifier (by simp), only.blocks .classifier (by simp),
      ended.ending.blocks .classifier (by simp), before.classifier]
  · rw [pedsOnly.blocks .auth (by simp), only.blocks .auth (by simp), ended.auth, before.auth]
  · rw [sequencerT]
    exact before.sequencer
  · rw [lineT, before.line]
  · rw [inflight]
    exact before.inflight
  · rw [sessionsT, ended.sessions, before.blocks .sessions (by simp)]
  · rw [allocT, only.alloc, ended.ending.alloc, allocA]
  · have config : t.config p = b.config p := by rw [State.config, allocT, only.alloc, State.config]
    have configA : a.config p = s.config p := by rw [State.config, allocA, State.config]
    rw [config, ended.ending.config p, configA]
  · rw [uplinkT, ended.raised.uplink, before.uplink]
  · rw [← sessA] at idle
    rw [sessT, ended.idle n (mem_allConns n) idle, sessA]
  · rw [← sessA] at awaiting
    rw [sessT, ended.withdrawn n (mem_allConns n) awaiting]
  · rw [← sessA] at closes
    have went := ended.ended n (mem_allConns n) closes
    rw [sessA] at went
    exact went.congr sessionsT
  · rw [ended.order]
    exact List.filter_congr fun n _ => by rw [sessA]
  · have events := ended.raised.events k
    rw [settlementA, before.uplink] at events
    rw [uplinkT, settlementT]
    exact events
  · have ped : c.ped p = (s.ped p).restart := by
      rw [← before.peds p, State.ped, only.line, State.ped, ended.ending.line]
    rw [peds, ped, used, clockC]
  · have openSet : (t.slots n).openSet = (a.slots n).openSet := by
      rw [slotsT]
      exact (setpoints n).2.2.2.2.1.trans (ended.ending.openSet n)
    obtain ⟨contactor, locks, fault, opens⟩ := before.seq n
    have seqT : t.seq n = a.seq n := by rw [State.seq, sequencerT, State.seq]
    rw [seqT]
    exact ⟨contactor, locks, fault, fun h => openSet.trans (opens h)⟩
  · obtain ⟨target, participant, inFlight, placed, openSet, still, sent⟩ := setpoints n
    have setpointT : t.setpoint n = c.setpoint n := by rw [State.setpoint, allocT, State.setpoint]
    have setpointA : a.setpoint n = s.setpoint n := by rw [State.setpoint, allocA, State.setpoint]
    obtain ⟨grant, hold, flight, increase⟩ := ended.ending.record n
    rw [setpointA] at grant hold flight increase
    rw [setpointT, slotsT]
    refine ⟨b.slots n, target, participant, inFlight, placed, openSet, fun h => ?_, fun h => ?_⟩
    · obtain ⟨g, e⟩ := still (mt increase.1 h)
      exact ⟨g.trans grant, e.trans hold⟩
    · obtain ⟨e, v⟩ := sent (increase.2 h)
      rw [expiry] at e
      exact ⟨e, fun x hx => v x (flight.trans hx)⟩

end Sys2Proof.Machine
end

section
/-! PROOF. RESTART. -/

namespace Sys2Proof.Machine

/-! ### The notice -/

theorem State.ownRestart_eq (s : State) (sound : s.NoticeSound) : ∃ notice : Bool,
    let t := (s.updUplink fun u => { u with pendingSet := EventKind.restarted.only }).restartBlocks
    ownRestart s = ({ t with uplink := { t.uplink with noticePending := notice } }, .bare .ok) ∧
    (notice = true ↔ t.uplink.shares) := by
  have kept := (keeps_restart (M := {x | x ≠ .notice}) s (by simp) (by simp) fun p => ⟨⟨by simp, by simp, by simp⟩,
    fun n => ⟨by simp, by simp⟩⟩).uplink.notice (by simp) sound
  unfold ownRestart at kept ⊢
  dsimp only at kept ⊢
  generalize (s.updUplink fun u => { u with pendingSet := EventKind.restarted.only }).restartBlocks = t at kept ⊢
  rw [State.testAttention_eq] at kept ⊢
  have attention (b : Bool) :
      ({ t with uplink := { t.uplink with noticePending := b } } : State).attention = t.attention := rfl
  rw [attention] at kept ⊢
  by_cases on : t.attention = true
  · rw [if_pos on]
    exact ⟨true, rfl, ⟨fun _ => (UplinkState.shares_iff_attention t).2 on, fun _ => rfl⟩⟩
  · rw [if_neg on] at kept ⊢
    refine ⟨_, rfl, ⟨kept, fun shared => absurd ((UplinkState.shares_iff_attention t).1 shared) on⟩⟩

theorem hasEvent_only (j k : EventKind) : hasEvent j k.only = true ↔ j = k := by
  have only := hasEvent_or_only j k 0
  rw [show (0 : EventSet) ||| k.only = k.only from BitVec.zero_or] at only
  rw [only, Bool.or_eq_true, decide_eq_true_eq, or_iff_left]
  simp [hasEvent]

theorem OutFrame.orphan_bytes (f : OutFrame) : f.orphan.bytes = f.bytes := by
  cases f <;> rfl

/-! ### The pedestals -/

/-- A pedestal entry after RESTART, left in use or not. -/
def Pedestal.afterRestart (used : Bool) (now : Nat) (e : Pedestal) : Pedestal :=
  if used then e.restart.stirred now else e.restart

/-- RESTART and the activity after it change nothing but a pedestal's standing and its queue. -/
theorem Pedestal.afterRestart_eq (used : Bool) (now : Nat) (e : Pedestal) : e.afterRestart used now = { e with
    link := (e.afterRestart used now).link
    nextPoll := (e.afterRestart used now).nextPoll
    failCount := 0
    absentCount := 0
    resync := false
    disposition := .none
    queue := [] } := by
  unfold Pedestal.afterRestart Pedestal.stirred
  split
  · split <;> rfl
  · rfl

theorem Pedestal.afterRestart_used {e : Pedestal} (configured : e.configured = true) (now : Nat) :
    (e.afterRestart true now).link = .active ∧ (e.afterRestart true now).nextPoll = some now := by
  have link : e.restart.link = .probing := if_pos configured
  rw [Pedestal.afterRestart, if_pos rfl, Pedestal.stirred, if_pos (.inl link)]
  exact ⟨rfl, rfl⟩

theorem Pedestal.afterRestart_unused {e : Pedestal} (configured : e.configured = true) (now : Nat) :
    (e.afterRestart false now).link = .probing := if_pos configured

theorem Pedestal.afterRestart_nextPoll {e : Pedestal} (sound : e.configured = false ↔ e.link = .unconfigured)
    (used : Bool)
    (now : Nat) : (e.afterRestart used now).nextPoll =
      if (e.afterRestart used now).link = .active then some now else none := by
  by_cases configured : e.configured = true
  · cases used with
    | true =>
      obtain ⟨link, poll⟩ := Pedestal.afterRestart_used configured now
      rw [link, poll, if_pos rfl]
    | false =>
      rw [Pedestal.afterRestart_unused configured now]
      rfl
  · have off : e.link = .unconfigured := sound.1 (by simpa using configured)
    have link : e.restart.link = .unconfigured := (if_neg configured).trans off
    have same : e.afterRestart used now = e.restart := by
      unfold Pedestal.afterRestart Pedestal.stirred
      rw [link]
      cases used <;> rfl
    rw [same, link]
    rfl

/-! ### The plans -/

/-- Where no session is open, no plan is in use. -/
theorem State.useCount_none {s : State} (right : s.UseCountsRight)
    (idle : ∀ n, (s.sess n).state = .empty ∨ (s.sess n).plan = none) (k : PlanSlot) :
    (s.plan k).useCount = 0 := by
  rw [(right k).1, List.countP_eq_zero]
  intro n _
  rcases idle n with h | h
  · simp [Session.pricedOn, h]
  · simp [Session.pricedOn, h]

/-- Settles O50. -/
theorem restartClearsAndKeeps : Obligations.RestartClearsAndKeeps := by
  intro s tag hr sound notice pedestals
  obtain ⟨-, ⟨-, -, closedSound, -⟩, uses⟩ := sound
  obtain ⟨standing, -⟩ := pedestals
  obtain ⟨b, owner, announced⟩ := s.taken.ownRestart_eq notice
  have kept := Keeps.restartBlocks (M := {x | x ≠ .queries ∧ x ≠ .planSlots})
    (s.taken.updUplink fun u => { u with pendingSet := EventKind.restarted.only }) (by simp)
    fun p => ⟨⟨by simp, by simp, by simp⟩, fun n => ⟨by simp, by simp⟩⟩
  have plans := kept.tariff (by simp)
  have right := kept.uses (by simp) uses
  obtain ⟨more, waits, v⟩ :=
    (s.taken.updUplink fun u => { u with pendingSet := EventKind.restarted.only }).restartBlocks_restarted
  clear kept
  dsimp only at owner announced
  generalize (s.taken.updUplink fun u => { u with pendingSet := EventKind.restarted.only }).restartBlocks = t
    at owner announced plans right v
  have gone (n : Conn) : ((t.sess n).state = .empty ∨ (t.sess n).state = .closed) ∧
      ((t.sess n).state = .empty ∨ (t.sess n).plan = none) := by
    have ends (h : (s.sess n).state.closes) : ((t.sess n).state = .empty ∨ (t.sess n).state = .closed) ∧
        ((t.sess n).state = .empty ∨ (t.sess n).plan = none) := by
      obtain ⟨plan, -, ⟨-, initial⟩ | ⟨-, closed, -⟩, -⟩ := v.ended n h
      · exact ⟨.inl (by rw [initial]; rfl), .inr plan⟩
      · exact ⟨.inr closed, .inr plan⟩
    cases h : (s.sess n).state with
    | empty =>
      have same : t.sess n = s.sess n := v.idle n (.inl h)
      rw [same]
      exact ⟨.inl h, .inl h⟩
    | closed =>
      have same : t.sess n = s.sess n := v.idle n (.inr h)
      rw [same]
      exact ⟨.inr h, .inr (closedSound n h).2⟩
    | awaitingAuth =>
      have initial := v.withdrawn n h
      rw [initial]
      exact ⟨.inl rfl, .inl rfl⟩
    | authorized => exact ends (.inl (.inl h))
    | charging => exact ends (.inl (.inr (.inl h)))
    | complete => exact ends (.inl (.inr (.inr h)))
    | stopping => exact ends (.inr h)
  have unused := State.useCount_none right fun n => (gone n).2
  have run := exec_owner (c := .restart tag []) rfl (by simp) hr
    (show ownerOf (.restart tag []) s.taken = _ from owner)
  have ped (p : Ped) : t.ped p = (s.ped p).afterRestart ((connsOf p).any t.inUse) s.clock.ms := v.peds p
  refine ⟨_, run, ?_, v.classifier, v.auth, (congrArg SequencerState.parkStop v.sequencer :),
    (congrArg LineState.rollTimer v.line :), (congrArg LineState.pointer3 v.line :),
    (congrArg LineState.pointer5 v.line :),
    (congrArg LineState.pendingLatch v.line :), (congrArg LineState.window v.line :),
    (congrArg LineState.replyTimeout v.line :), (congrArg LineState.pollPeriod v.line :),
    (congrArg LineState.rollPeriod v.line :), (congrArg SequencerState.settleTime v.sequencer :),
    (congrArg SequencerState.idleRelease v.sequencer :), (congrArg SessionTable.readyWait v.sessions :),
    (congrArg SessionTable.stopWait v.sessions :), (congrArg SessionTable.maxHours v.sessions :),
    (congrArg AllocState.hysteresis v.alloc :), (congrArg AllocState.hold v.alloc :),
    (congrArg AllocState.renew v.alloc :),
    v.inflight, (congrArg AllocState.baseLimit v.alloc :), (congrArg AllocState.curtailment v.alloc :), fun k => ?_,
    ⟨more, waits, v.joined.records, (congrArg SessionTable.waiting v.sessions :), v.order, fun n closes => ?_,
      v.joined.first, v.joined.numbered, v.joined.readMark⟩, fun p => ?_, fun n => ?_, fun k => ?_,
    (congrArg UplinkState.enableSet v.uplink :), announced, (congrArg UplinkState.link v.uplink :),
    (congrArg UplinkState.silenceTime v.uplink :), (congrArg UplinkState.silenceDeadline v.uplink :),
    (congrArg UplinkState.checkFails v.uplink :), (congrArg UplinkState.framingErrors v.uplink :),
    (congrArg UplinkState.overruns v.uplink :), (congrArg UplinkState.requestsTaken v.uplink :), ?_, ?_⟩
  · intro c hc
    have same := v.blocks c hc
    cases c with
    | line | classifier | sequencer | auth | sessions | tariff | alloc | settlement | uplink => simp at hc
    | _ => exact same
  · obtain ⟨loaded, revision, contents⟩ : (t.plan k).loaded = (s.plan k).loaded ∧
        (t.plan k).revision = (s.plan k).revision ∧ (t.plan k).contents = (s.plan k).contents := plans k
    have count := unused k
    show t.plan k = _
    generalize t.plan k = x at loaded revision contents count
    cases x
    cases loaded
    cases revision
    cases contents
    cases count
    rfl
  · obtain ⟨-, r, place, conn, token, energy, reason, flag⟩ := v.ended n closes
    refine ⟨r, place, conn, token, energy, reason, flag.trans (congrArg (hasFlag .linkLost (s.sess n).flags || ·) ?_)⟩
    show (s.linkOf n == .unreachable || (s.ped (pedOf n)).resync) = _
    rw [Bool.eq_iff_iff, Bool.or_eq_true, beq_iff_eq, decide_eq_true_eq]
  · have whole := Pedestal.afterRestart_eq ((connsOf p).any t.inUse) s.clock.ms (s.ped p)
    have poll := Pedestal.afterRestart_nextPoll (standing p) ((connsOf p).any t.inUse) s.clock.ms
    have on (used : (connsOf p).any t.inUse = true) (configured : (s.ped p).configured = true) :
        (t.ped p).link = .active := by
      rw [ped, used]
      exact (Pedestal.afterRestart_used configured _).1
    have off (unused : (connsOf p).any t.inUse = false) (configured : (s.ped p).configured = true) :
        (t.ped p).link = .probing := by
      rw [ped, unused]
      exact Pedestal.afterRestart_unused configured _
    rw [← ped p] at whole poll
    have fields {α : Type} (f : Pedestal → α) := congrArg f whole
    refine ⟨fields (·.queue), fields (·.disposition), fields (·.failCount), fields (·.absentCount), fields (·.resync),
      fields (·.checkFails), fields (·.lastMessage), fields (·.slot), fields (·.configured), fields (·.lastReply),
      fields (·.reportA), fields (·.reportB), fields (·.available), ?_,
        fun configured => ⟨fun used => ?_, fun idle => ?_⟩,
      poll⟩
    · have config : t.config p = { s.config p with limitUsed := (t.config p).limitUsed } := v.config p
      show ({ t.config p with limitUsed := (s.config p).limitUsed } : PedConfig) = s.config p
      rw [config]
    · exact on (State.inUse_any_iff.2 used) configured
    · refine off ?_ configured
      rw [← Bool.not_eq_true]
      intro used
      obtain ⟨x, used⟩ := State.inUse_any_iff.1 used
      exact used.elim (fun h => h (idle x).1) fun h => h (idle x).2
  · obtain ⟨contactor, locks, fault, opens⟩ := v.seq n
    obtain ⟨y, target, participant, inFlight, placed, -, still, sent⟩ := v.setpoint n
    exact ⟨contactor, locks, fault, opens, fun h => v.idle n (.inr h), (gone n).1, v.withdrawn n, target, participant,
      inFlight, placed, still, sent⟩
  · refine (v.events k).trans (or_congr ?_ Iff.rfl)
    exact hasEvent_only k .restarted
  · have sending : t.uplink.sending = s.uplink.sending.map OutFrame.orphan := congrArg UplinkState.sending v.uplink
    show t.uplink.sending.map OutFrame.bytes = _
    rw [sending, Option.map_map]
    exact congrArg (fun f => s.uplink.sending.map f) (funext OutFrame.orphan_bytes)
  · have responses : t.uplink.responses = s.uplink.responses := (congrArg UplinkState.responses v.uplink :)
    show t.uplink.responses ++ _ = _
    rw [responses]
    rfl

end Sys2Proof.Machine
end
